-- ==== Sys2Proof/Word.lean ====
section
/-! DEFINITION. The words the spec counts in: 16-bit words (conventions of 00_scope.md) and 32-bit station clock values (R70). -/

namespace Sys2Proof

/-- A word is 16 bits; bit 15 is the most significant (conventions of 00_scope.md). -/
abbrev Word := BitVec 16

/-- A byte of the frame store. -/
abbrev Byte := BitVec 8

/-- A station clock value, in milliseconds (R70). -/
abbrev Clock := BitVec 32

end Sys2Proof
end

