-- ==== Sys2Proof/Config.lean ====
section
/-! DEFINITION. What the spec fixes for every station (sizes and limits, each under its rule), and the FREE VALUES: constants
without a body for what the spec leaves unstated, so that no proof can rest on a particular value of them. -/

namespace Sys2Proof.Config

/-- Cylinders of a cartridge (R1). -/
abbrev cylinders : Nat := 400
/-- Sectors of a track (R1). -/
abbrev sectorsPerTrack : Nat := 20
/-- Sectors of a cylinder, the range of a sector index (R1). -/
abbrev sectorsPerCylinder : Nat := 40
/-- Data words of a sector (R1). -/
abbrev sectorWords : Nat := 256
/-- Frames of the frame store (R105). -/
abbrev frameCount : Nat := 64
/-- Requests a station holds at most (R51). -/
abbrev maxHeld : Nat := 16
/-- Records of the completion FIFO (R174). -/
abbrev fifoPlaces : Nat := 16
/-- Words of a completion record (R174). -/
abbrev recordWords : Nat := 6
/-- Words of a request block (R173). -/
abbrev blockWords : Nat := 8
/-- Members of a chain at most (R49). -/
abbrev maxChain : Nat := 4
/-- Pinned frames at most (R107). -/
abbrev maxPinned : Nat := 48
/-- Entries of the fault list at most (R103). -/
abbrev maxFaults : Nat := 16
/-- The implicit deadline in ms (R71). -/
abbrev implicitDeadline : Nat := 2500
/-- The largest explicit deadline in ms (R46). -/
abbrev maxDeadline : Nat := 30000
/-- The tenure budget in ms (R36). -/
abbrev tenureBudget : Nat := 60
/-- The release timer's length in ms (R159). -/
abbrev releaseDelay : Nat := 30000
/-- Cylinders of a zone (R164). -/
abbrev zoneCylinders : Nat := 25
/-- The highest word address of the computer's memory (R48). -/
abbrev lastMemoryWord : Nat := 262143
/-- The greatest value of the consecutive-collision count k (R29). -/
abbrev maxCollisions : Nat := 8

/-- FREE VALUE: a word of a completion record whose value the spec does not state: words A and B of a REPORT or a CONFIGURE
that ends MEMORY-ERROR (R68 words every failure by its sectors and due time, and these kinds have neither). Applied to the
counter State.freeDraws, so that each draw is its own value (log entry 8). -/
opaque freeWord : Nat → Word

/-- FREE VALUE: the arm cylinder after a good own header whose cylinder lies outside 0–399. R93 sets the arm cylinder to the
header's cylinder, and R72 gives the arm cylinder no value above 399: the value is unstated (log entry 9). Applied to the
header's cylinder. -/
opaque armOutOfRange : Nat → Option (Fin 400)

end Sys2Proof.Config
end

