-- ==== Sys2Proof/Syntax.lean ====
section
/-! DEFINITION. The commands a station takes: one constructor of `Instr` for every row of spec/opcode_table.json, and the types
of their operands. An operand carries what the outside brings with the command (a word written, the levels found on the lines,
a field read from the disk, the words a DMA job moved); the table gives the rows no bits. -/

namespace Sys2Proof

/-- The fields of a request block but for its kind code (section 11.6, words 0 to 7). The widths are those of the layout, so
that a block can carry the values that admission refuses. -/
structure BlockBody where
  tag        : BitVec 8
  opCode     : BitVec 3
  cyl        : BitVec 9
  head       : BitVec 2
  sector     : BitVec 5
  count      : BitVec 8
  offset     : BitVec 8
  mem        : BitVec 18
  bypass     : Bool
  dropIfLate : Bool
  continues  : Bool
  condCode   : BitVec 2
  deadline   : BitVec 16
  opA        : Word
  opB        : Word
  deriving DecidableEq, Repr

/-- A complete request block (R42, section 11.6). -/
structure Block where
  kindCode : BitVec 4
  body     : BlockBody
  deriving DecidableEq, Repr

/-- The levels a station finds, at the moment of a command, on the lines whose changes have no row of their own in the table:
SNUM, WPT, SKC and SKF from the drive (R9), CALL beyond the station's own drive (R19) and the peer's CREL (R19). -/
structure Lines where
  snum : BitVec 5
  wpt  : Bool
  skc  : Bool
  skf  : Bool
  call : Bool
  crel : Bool
  deriving DecidableEq, Repr

/-- The levels found at power-on: the strap IDS (R167; false is low, identity A) and the lines that have rows of their own. -/
structure FoundLevels where
  ids  : Bool
  rdy  : Bool
  ulr  : Bool
  pres : Bool
  hold : Bool
  deriving DecidableEq, Repr

/-- What a reader received of a header field: whether the header sync was found by word-time 12 (R3), and the words received
after it, up to five (R4). -/
structure HeaderField where
  sync  : Bool
  words : List Word
  deriving DecidableEq, Repr

/-- What a reader received of a data field: whether the data sync was found by word-time 38 (R3), and the words received after
it: the 256 data words and the CRC word when the field is complete (R7). -/
structure DataField where
  sync  : Bool
  words : List Word
  deriving DecidableEq, Repr

/-- How a motion of the drive ended: which of SKC and SKF was asserted (R9, R11). -/
inductive MotionEnd
  | skc | skf
  deriving DecidableEq, Repr

/-- The kind of a capture (R128). -/
inductive CapKind
  | read | write
  deriving DecidableEq, Repr

/-- The levels that the monitor's test of a write reads, over a run of bit cells that have them alike (R14, R129). -/
structure GateCell where
  wrg : Bool
  rdy : Bool
  skc : Bool
  wpt : Bool
  deriving DecidableEq, Repr

/-- The peer's write gate as the monitor saw it, in the order of the bit cells: those before the data sync, and those from the
data sync to the end of the CRC word (R129). -/
structure Gate where
  early : List GateCell
  late  : List GateCell
  deriving DecidableEq, Repr

/-- What the peer did after the header field of a slot it visited (R128): it kept RDG asserted, or it dropped RDG, with the gate
that the monitor then saw, if any. -/
inductive PeerField
  | read
  | write (gate : Gate)
  deriving DecidableEq, Repr

/-- A capture that reached the end of its CRC word: what the peer did, and the 257 words taken from RDD or WRD. -/
structure PeerCapture where
  field : PeerField
  words : List Word
  deriving DecidableEq, Repr

/-- The commands, one constructor for every row of spec/opcode_table.json. -/
inductive Instr
  /-- POWER_ON (R23): power is applied; the levels found. -/
  | powerOn (found : FoundLevels)
  /-- BRST_ASSERTED (R180). -/
  | brstAsserted
  /-- INTAKE_WRITE (R173): one word written to INTAKE. -/
  | intakeWrite (w : Word)
  /-- SET_INTERRUPT_ENABLES (R177): a CONTROL write, bits 0 and 1 of the word. -/
  | setInterruptEnables (completion notice : Bool)
  /-- INTAKE_RESTART (R173): a CONTROL write with bit 2 set, and its bits 0 and 1. -/
  | intakeRestart (completion notice : Bool)
  /-- PORT_RESET (R180): a CONTROL write with bit 3 set, and its bits 0 to 2. -/
  | portReset (completion notice restart : Bool)
  /-- OUTLET_READ (R174). -/
  | outletRead
  /-- NOTICES_READ (R176). -/
  | noticesRead
  /-- READ (R43): a READ block is completed at the intake. -/
  | read (b : BlockBody)
  /-- CHECK (R43). -/
  | check (b : BlockBody)
  /-- WRITE (R43). -/
  | write (b : BlockBody)
  /-- WRITE_VERIFY (R43). -/
  | writeVerify (b : BlockBody)
  /-- UPDATE (R44). -/
  | update (b : BlockBody)
  /-- PIN (R43). -/
  | pin (b : BlockBody)
  /-- UNPIN (R64). -/
  | unpin (b : BlockBody)
  /-- DISCARD (R64). -/
  | discard (b : BlockBody)
  /-- CANCEL (R61). -/
  | cancel (b : BlockBody)
  /-- RELEASE_CARTRIDGE (R63). -/
  | releaseCartridge (b : BlockBody)
  /-- FETCH_FAULT (R65). -/
  | fetchFault (b : BlockBody)
  /-- REPORT (R66). -/
  | report (b : BlockBody)
  /-- CONFIGURE (R168). -/
  | configure (b : BlockBody)
  /-- HELD_BLOCK_PROCESSED (R47). -/
  | heldBlockProcessed
  /-- POST_WAITING_FINISHED (R55). -/
  | postWaitingFinished
  /-- RDY_RISES (R154). -/
  | rdyRises
  /-- RDY_FALLS (R163); `cap` is what the peer did in a capture in progress, up to its end (R131). -/
  | rdyFalls (cap : Option PeerField) (l : Lines)
  /-- ULR_RISES (R159). -/
  | ulrRises
  /-- ULR_FALLS (R162). -/
  | ulrFalls
  /-- PEER_PRES_RISES (R21). -/
  | peerPresRises
  /-- PEER_PRES_FALLS (R21); `cap` as in `rdyFalls`. -/
  | peerPresFalls (cap : Option PeerField)
  /-- HOLD_FALLS (R25), a fall of HOLD that the peer drove; `cap` as in `rdyFalls`. -/
  | holdFalls (cap : Option PeerField)
  /-- HOLD_RISES (R33), a rise of HOLD beyond the station's own drive. -/
  | holdRises
  /-- GAP_COMPLETES (R25). -/
  | gapCompletes (l : Lines)
  /-- WINDOW_1_ENDS (R27): MARK-1 as sampled, beyond the station's own drive. -/
  | window1Ends (mark1 : Bool)
  /-- WINDOW_2_ENDS (R27): MARK-2 as sampled. -/
  | window2Ends (mark2 : Bool)
  /-- TIE_WINDOW_ENDS (R28): MARK-1 as sampled. -/
  | tieWindowEnds (mark1 : Bool)
  /-- IDENTITY_CHECK_ENDS (R29): HOLD and the marks as sampled, beyond the station's own drive. -/
  | identityCheckEnds (hold mark1 mark2 : Bool) (l : Lines)
  /-- BACKOFF_TIMER_EXPIRES (R30). -/
  | backoffTimerExpires
  /-- YIELD_CALL (R38). -/
  | yieldCall (l : Lines)
  /-- LINE_HELD (R41). -/
  | lineHeld
  /-- RELEASE_TIMER_EXPIRES (R160). -/
  | releaseTimerExpires
  /-- MOTION_WAIT_TIMEOUT (R89). -/
  | motionWaitTimeout (l : Lines)
  /-- SEEK_STROBE (R89): SKC or SKF is asserted after a motion under way. -/
  | seekStrobe (l : Lines)
  /-- SEEK_ENDS (R89). -/
  | seekEnds (e : MotionEnd) (l : Lines)
  /-- SEEK_TIMEOUT (R89). -/
  | seekTimeout (l : Lines)
  /-- RECALIBRATE_ENDS (R90). -/
  | recalibrateEnds (e : MotionEnd) (l : Lines)
  /-- RECALIBRATE_TIMEOUT (R90). -/
  | recalibrateTimeout (l : Lines)
  /-- SECTOR_VISIT (R91): the SPL of a slot, with its SNUM in the lines. -/
  | sectorVisit (l : Lines)
  /-- HEADER_READ (R92). -/
  | headerRead (h : HeaderField) (l : Lines)
  /-- DATA_FIELD_READ (R94). -/
  | dataFieldRead (d : DataField) (l : Lines)
  /-- DATA_FIELD_WRITTEN (R95). -/
  | dataFieldWritten (l : Lines)
  /-- READ_BACK_ENDS (R96). -/
  | readBackEnds (d : DataField) (l : Lines)
  /-- DMA_JOB_START (R178). -/
  | dmaJobStart
  /-- DMA_JOB_ENDS (R178): the words that the job moved from the computer's memory (staging, CONFIGURE). -/
  | dmaJobEnds (words : List Word)
  /-- DMA_NO_ANSWER (R178): how many words the job had moved, and those it moved from the computer's memory. -/
  | dmaNoAnswer (moved : Nat) (words : List Word)
  /-- PEER_SEEK_STROBE (R126): the value on CYL. -/
  | peerSeekStrobe (cyl : BitVec 9) (l : Lines)
  /-- PEER_RCAL_STROBE (R126). -/
  | peerRcalStrobe (l : Lines)
  /-- PEER_SKF_RISES (R126). -/
  | peerSkfRises
  /-- PEER_HSEL_CHANGE (R127): HSEL as it stands after the change. -/
  | peerHselChange (hsel : Bool)
  /-- PEER_HEADER (R128): whether the peer asserted RDG at the slot's SPL, the words received after the header sync. -/
  | peerHeader (visited : Bool) (words : List Word) (l : Lines)
  /-- CAPTURE_KIND_NONE (R128): the end of the splice gap, RDG dropped and no WRG that is a write by R129. -/
  | captureKindNone
  /-- CAPTURE_COMPLETES (R131). -/
  | captureCompletes (c : PeerCapture)
  /-- CAPTURE_CUT_SHORT (R131): what the peer did, up to the drop of its gate. -/
  | captureCutShort (field : PeerField)
  /-- POWER_LOST (R20). -/
  | powerLost
  /-- CAPTURE_DATA_SYNC_NOT_FOUND (R128): what the peer did, up to word-time 38. -/
  | captureDataSyncNotFound (field : PeerField)
  deriving DecidableEq, Repr

end Sys2Proof
end

