-- ==== Sys2Proof/Machine/State.lean ====
section
/-! DEFINITION. The state of one station: every register, buffer, counter, mode and pin the spec gives it, as plain data, block by
block as the table of blocks in 00_scope.md names them, and the queue of commands that wait. `State.reset` is the station right
after power-on. -/

namespace Sys2Proof.Machine

/-- A step of this model never ends in a fault: a station has no event that stops it. The type is closed and empty. -/
inductive Fault
  deriving DecidableEq, Repr

/-- Why a command is turned away. -/
inductive Refusal
  /-- The command has no meaning yet. Raised by `exec` alone, in an arm not yet written (safe). -/
  | notModelled (mnemonic : String)
  deriving DecidableEq, Repr

/-- A station's identity (R167). -/
inductive Ident
  | A | B
  deriving DecidableEq, Repr

/-- A sector address (cylinder, head, sector) (R1). -/
structure SectorAddr where
  cyl  : Nat
  head : Nat
  sec  : Nat
  deriving DecidableEq, Repr

/-! ### Requests (chapter 3) -/

/-- The thirteen request kinds (R43, R45). -/
inductive Kind
  | read | check | write | writeVerify | update | pin
  | unpin | discard | cancel | releaseCartridge | fetchFault | report | configure
  deriving DecidableEq, Repr

/-- The operations of an UPDATE (R44). -/
inductive UpdateOp
  | set | clear | test | add | storeIfEqual
  deriving DecidableEq, Repr

/-- The chain conditions (R145). -/
inductive Cond
  | always | ifZ | ifNZ
  deriving DecidableEq, Repr

/-- The states of a held request (R53). -/
inductive ReqState
  | pendingChain | staging | waiting | running | delivering | finished
  deriving DecidableEq, Repr

/-- How sectors done were obtained (R69). -/
inductive Source
  | disk | cache | peer | mixed
  deriving DecidableEq, Repr

/-- The outcomes of completion records (R68). -/
inductive ReqOutcome
  | done | doneRetried | skipped | empty
  | notConfigured | badKind | badAddress | badMemory | duplicateTag | chainSpan | chainTooLong | noWrite | notCached
  | noCartridge | queueFull | noBuffer | pinLimit
  | notFound | tooLate | notLeaving | locked | busy | badConfig
  | dataError | noHeader | seekFault | writeProtected | markedBad | verifyFailed
  | memoryError | expired | cancelled | chainAborted | cartridgeRemoved
  deriving DecidableEq, Repr

/-- The update unit's condition flags (R139). -/
structure CondFlags where
  z : Bool
  c : Bool
  n : Bool
  deriving DecidableEq, Repr

/-- A request the station holds (R42). The drive requests are the records of the work queue; a REPORT or a CONFIGURE is held
without a work-queue record (R45) and stands in the same list, so that the list is all that counts against the 16 of R51. -/
structure Request where
  /-- The place of its acceptance among all acceptances: the order of acceptance (R55, R59, R81). -/
  id         : Nat
  tag        : BitVec 8
  kind       : Kind
  addr       : SectorAddr
  count      : Nat
  mem        : Nat
  /-- An explicit deadline governs the request (R46); for a later chain member, the first member's (R58). -/
  explicit   : Bool
  bypass     : Bool
  dropIfLate : Bool
  continues  : Bool
  cond       : Cond
  offset     : Nat
  op         : UpdateOp
  opA        : Word
  opB        : Word
  accepted   : Clock
  /-- The due time (R71), absent for kinds that do not need the drive. -/
  due        : Option Clock
  state      : ReqState
  /-- The sectors-done set, as sector indices. -/
  done       : List Nat
  source     : Option Source
  /-- The frames reserved and not yet allocated (R107). -/
  reserved   : Nat
  /-- The slack at start (R82). -/
  slack      : Option Int
  /-- The id of the chain's first member, for a chain member (R56). -/
  chain      : Option Nat
  /-- The sectors that hazard ordering takes: the request's, or the union of its chain's members' (R58, R59). -/
  hazard     : List Nat
  /-- Those of them that a writing member covers (R59, R80). -/
  hazardWritten : List Nat
  /-- The sectors a held PIN has promised to pin and not yet obtained (R117). -/
  promised   : List Nat
  /-- The outcome, once fixed (R54). -/
  outcome    : Option ReqOutcome
  /-- The failing sector of word A (R68), where the failure names one. -/
  failAt     : Option SectorAddr
  /-- The mark of an open chain's member: failed (R148) or drained (R158). -/
  mark       : Option ReqOutcome
  /-- The sector whose delivery the memory refused (R100). -/
  refusedAt  : Option Nat
  written    : Bool
  oldWord    : Word
  newWord    : Word
  flags      : CondFlags
  deriving DecidableEq, Repr

/-- A completion record (R67; word layout in section 11.6). -/
structure Completion where
  tag      : BitVec 8
  kindCode : BitVec 4
  outcome  : ReqOutcome
  late     : Bool
  written  : Bool
  flags    : CondFlags
  source   : Source
  sectors  : Nat
  wordA    : Word
  wordB    : Word
  time     : Word
  deriving DecidableEq, Repr

/-- The requests held, and those FINISHED whose records wait for a FIFO place, in the order they entered FINISHED (R55). -/
structure WorkQueue where
  /-- In order of acceptance. -/
  held     : List Request
  /-- Each waiting record with the id of its request. -/
  finished : List (Nat × Completion)
  /-- The number of acceptances so far: the next request's id. -/
  nextId   : Nat
  deriving DecidableEq, Repr

/-! ### The computer port (chapter 11) -/

/-- What a DMA job moves (R178). -/
inductive JobKind
  /-- 256 words from memory to a STAGED frame, for the sector index given. -/
  | staging (frame idx : Nat)
  /-- 256 words from a frame to memory, for the sector index given. -/
  | delivery (frame idx : Nat)
  /-- The ten words of a REPORT's snapshot to memory. -/
  | report (words : List Word)
  /-- 20 words from memory. -/
  | configure
  deriving DecidableEq, Repr

/-- A DMA job (R178): the request it belongs to, its first word address. An orphan is a running job whose request a port reset
has emptied (R180). -/
structure Job where
  req    : Nat
  orphan : Bool
  kind   : JobKind
  base   : Nat
  deriving DecidableEq, Repr

/-- The port: intake, completion FIFO, notice set, enables, DMA job list (R173 to R180). The word position of the intake is the
length of the partial block, and the intake held indication is computed (`State.intakeHeld`). -/
structure Port where
  /-- The words of the partial block. -/
  partialBlock : List Word
  /-- The waiting block. -/
  waiting      : Option Block
  overrun      : Bool
  fifo         : List Completion
  readPos      : Nat
  /-- Bit n is the pending mark of the notice of NOTICES bit n (section 11.6). -/
  notices      : BitVec 15
  completionEnable : Bool
  noticeEnable : Bool
  /-- The DMA jobs that wait, oldest first. -/
  jobs         : List Job
  /-- The job on the channel. -/
  running      : Option Job
  /-- The data pins D0–D15 at the last read of OUTLET or NOTICES. -/
  dataOut      : Word
  /-- The word addresses MA0–MA17 and words that the last job to end moved to the computer's memory. -/
  dmaOut       : List (Nat × Word)
  deriving DecidableEq, Repr

/-! ### The fault list and counters (R103, R98, R29, R136, R85) -/

/-- The kinds of fault list entries (R103). -/
inductive FaultKind
  | dataError | noHeader | seekFault | markedBad | verifyFailed | guardWritten
  deriving DecidableEq, Repr

/-- Where a fault came from (R103). -/
inductive Origin
  | own | peer
  deriving DecidableEq, Repr

/-- The address of a fault list entry: a sector, or a cylinder alone (R103). -/
inductive FaultAddr
  | sector (a : SectorAddr)
  | cylinder (c : Nat)
  deriving DecidableEq, Repr

/-- A fault list entry (R103). -/
structure FaultEntry where
  addr      : FaultAddr
  kind      : FaultKind
  origin    : Origin
  firstTime : Clock
  repeats   : Nat
  deriving DecidableEq, Repr

/-- The fault list, oldest entry first, its overflow flag, and the four counters. -/
structure Faults where
  entries  : List FaultEntry
  overflow : Bool
  retry    : BitVec 16
  collide  : BitVec 16
  capture  : BitVec 16
  late     : BitVec 16
  deriving DecidableEq, Repr

/-! ### The zone map (chapter 10) -/

/-- Cache modes (R164). -/
inductive CacheMode
  | none | drop | capture
  deriving DecidableEq, Repr

/-- A zone entry (R164). -/
structure ZoneEntry where
  mode    : CacheMode
  noWrite : Bool
  deriving DecidableEq, Repr

/-- The four counter thresholds, as codes 0 to 3 (R166). -/
structure Thresholds where
  retry   : BitVec 2
  collide : BitVec 2
  capture : BitVec 2
  late    : BitVec 2
  deriving DecidableEq, Repr

/-- The zone map block. -/
structure Zones where
  map        : List ZoneEntry
  guardFirst : Nat
  guardLast  : Nat
  thresholds : Thresholds
  lock       : Bool
  configured : Bool
  deriving DecidableEq, Repr

/-! ### The line access unit (chapter 2) -/

/-- The access states (section 2.2). -/
inductive AccessState
  | off | idle | waiting | bidding | checking | holding | backoff
  deriving DecidableEq, Repr

/-- Where the gap count stands within a bid round (section 2.3). -/
inductive RoundWindow
  | window1 | window2 | tie | check
  deriving DecidableEq, Repr

/-- A holding of HOLD by the peer: an observed peer tenure (R31) or an unidentified holding (R33). -/
inductive PeerHolding
  | observed | unidentified
  deriving DecidableEq, Repr

/-- The line access unit (section 2.2). -/
structure Access where
  state       : AccessState
  turn        : Ident
  /-- The consecutive-collision count k. -/
  k           : Nat
  /-- The backoff timer: the length in µs it was started with, while it runs. -/
  backoff     : Option Nat
  tenureStart : Clock
  /-- The gap count: the window of the round in progress, or none while a gap is being counted. -/
  round       : Option RoundWindow
  /-- The bid urgency frozen at the last gap completion. -/
  frozen      : Nat
  /-- The peer's holding of the line that this station sees, if any. -/
  peerHolding : Option PeerHolding
  /-- LINE-HELD has been raised for this holding (R41). -/
  lineHeldRaised : Bool
  deriving DecidableEq, Repr

/-! ### The transfer sequencer (chapter 5) -/

/-- The sequencer's states (section 5.1). -/
inductive SeqState
  | idle | seeking | recalibrating | searching | reading | writing | verifying | updating
  deriving DecidableEq, Repr

/-- What the sequencer runs: a request, the refresh of a frame, or the label read (R80). -/
inductive Work
  | request (id : Nat)
  | refresh (frame : Nat)
  | label
  deriving DecidableEq, Repr

/-- The purpose of a sector's next visit (R88). -/
inductive Purpose
  | read | write | verify | done
  deriving DecidableEq, Repr

/-- The retry record's items for one sector (R88). -/
structure SectorRec where
  idx            : Nat
  purpose        : Purpose
  misses         : Nat
  headerRecovery : Bool
  attempts       : Nat
  rewrites       : Nat
  /-- The last visit for this purpose failed, so that the next one is a retry (R98). -/
  again          : Bool
  deriving DecidableEq, Repr

/-- The field being sent on WRD: the frame its words come from, the sector, and for an UPDATE the offset and the new word (R95). -/
structure Sending where
  frame : Nat
  addr  : SectorAddr
  patch : Option (Nat × Word)
  deriving DecidableEq, Repr

/-- The sequencer and the retry record of the work it runs. -/
structure Sequencer where
  state     : SeqState
  work      : Option Work
  /-- The work's cylinder. -/
  cyl       : Nat
  recs      : List SectorRec
  /-- The sectors still to be visited in the pass in progress (R91). -/
  pass      : List Nat
  /-- The sector index of the visit in progress. -/
  visit     : Option Nat
  /-- The SEEK of the positioning has been strobed (R89). -/
  strobed   : Bool
  /-- The positioning's recovery by recalibrate is used (R90). -/
  recovered : Bool
  /-- The work's mis-position recovery is used (R93). -/
  misUsed   : Bool
  retried   : Bool
  /-- The frame of the visit, and of an UPDATE from its read on. -/
  frame     : Option Nat
  sending   : Option Sending
  /-- A port reset is waiting for the state's end (R102). -/
  stopping  : Bool
  deriving DecidableEq, Repr

/-! ### The sector cache (chapter 6) -/

/-- Frame states (section 6.1). -/
inductive FrameState
  | free | filling | valid | stale | staged
  deriving DecidableEq, Repr

/-- A frame's record (section 6.1). The owner is the id of the request whose tag the spec names. The busy-out flag and the delivery
hold are computed from the DMA jobs (`State.busy`, `State.hold`). -/
structure Frame where
  state  : FrameState
  addr   : Option SectorAddr
  pinned : Bool
  owner  : Option Nat
  inDir  : Bool
  /-- For a STAGED frame, the sector index it is staged for. -/
  idx    : Option Nat
  /-- A FILLING frame of a NONE zone that has been read good and awaits its delivery (R112). -/
  filled : Bool
  deriving DecidableEq, Repr

/-- An entry of the refresh set: the frame, and when it entered (R80, R118). -/
structure RefreshEntry where
  frame   : Nat
  entered : Clock
  deriving DecidableEq, Repr

/-- An allocation that waits (R108): for a request (none for the label read), for the sector index given, as a STAGED frame or
as a FILLING one. -/
structure AllocWait where
  req    : Option Nat
  idx    : Nat
  staged : Bool
  deriving DecidableEq, Repr

/-- The sector cache and its frame store. -/
structure Cache where
  /-- The 64 frame records. -/
  frames       : List Frame
  /-- The frame store as byte cells, strictly rising in address, no cell equal to what an unlisted address reads as. Word w of the
  store (BA0–BA13) is bytes 2w (bits 15–8) and 2w + 1 (bits 7–0). -/
  store        : List Host.Cell
  /-- VALID and STALE frames, least recently used first (R108). -/
  lru          : List Nat
  /-- The refresh set, oldest entry first (R118). -/
  refresh      : List RefreshEntry
  /-- The label reservation is held (R107). -/
  labelReserved : Bool
  /-- The allocations that wait, in the order they began to (R108). -/
  waits        : List AllocWait
  deriving DecidableEq, Repr

/-! ### The line monitor (chapter 7) -/

/-- The monitor's states (section 7.1). -/
inductive MonState
  | inactive | idle | watching | capturing | holding
  deriving DecidableEq, Repr

/-- The peer motion that a rise of SKF would end (R126). -/
inductive PeerMotion
  | seekInRange | seekOutOfRange | recalibrate
  deriving DecidableEq, Repr

/-- A capture's verdict (R131). -/
inductive CapVerdict
  | good | bad | notGood
  deriving DecidableEq, Repr

/-- The line monitor (section 7.1). -/
structure Monitor where
  state    : MonState
  /-- The arm cylinder, none for UNKNOWN: shared with the sequencer and the scheduler. -/
  arm      : Option (Fin 400)
  /-- The observed head. -/
  head     : Nat
  /-- The header part of the capture buffer. -/
  header   : List Word
  /-- The data part of the capture buffer. -/
  data     : List Word
  kind     : Option CapKind
  addr     : Option SectorAddr
  verdict  : Option CapVerdict
  /-- The frame that a held capture is held for (R138). -/
  heldFor  : Option Nat
  /-- The frame whose held capture was abandoned while its delivery job runs (R120). -/
  abandonedFor : Option Nat
  /-- The observed head and SNUM recorded at the capture's beginning (R128). -/
  capHead  : Nat
  capSnum  : Nat
  motion   : Option PeerMotion
  deriving DecidableEq, Repr

/-! ### The update unit (chapter 8) and cartridge control (chapter 9) -/

/-- A word operation in progress (R139). -/
structure WordOp where
  op  : UpdateOp
  opA : Word
  opB : Word
  old : Word
  new : Word
  deriving DecidableEq, Repr

/-- The update unit (R139). -/
structure UpdateUnit where
  inProgress : Option WordOp
  flags      : CondFlags
  deriving DecidableEq, Repr

/-- The cartridge states (section 9.1). -/
inductive CartState
  | absent | loading | mounted | unusable | leaving | released
  deriving DecidableEq, Repr

/-- The states that can be recorded (R152). -/
inductive Recorded
  | loading | mounted | unusable
  deriving DecidableEq, Repr

/-- Cartridge control (R152). -/
structure Cartridge where
  state      : CartState
  recorded   : Option Recorded
  lastSerial : Option (BitVec 32)
  /-- The clock value at which the release timer runs out, while it runs. -/
  timer      : Option Clock
  rejectionOwed : Bool
  deriving DecidableEq, Repr

/-! ### Pins -/

/-- The input lines as the station last saw them: the drive's status lines (R9), the peer's PRES and CREL, and the wired-OR lines
beyond the station's own drive (R19). -/
structure Pins where
  rdy   : Bool
  ulr   : Bool
  wpt   : Bool
  skc   : Bool
  skf   : Bool
  snum  : BitVec 5
  pres  : Bool
  crel  : Bool
  hold  : Bool
  call  : Bool
  mark1 : Bool
  mark2 : Bool
  deriving DecidableEq, Repr

/-- The station's own drive of HOLD, CALL, the marks, PRES and CREL (R19). -/
structure StationLines where
  hold  : Bool
  call  : Bool
  mark1 : Bool
  mark2 : Bool
  pres  : Bool
  crel  : Bool
  deriving DecidableEq, Repr

/-- The drive's command lines as the station drives them (R10, R35). SEEK and RCAL are pulses within a command and have no level
between commands. -/
structure DriveLines where
  /-- The drivers are enabled, not at high impedance. -/
  enabled : Bool
  cyl     : BitVec 9
  /-- Head 1 selected. -/
  hsel    : Bool
  rdg     : Bool
  wrg     : Bool
  /-- The words of the field last sent on WRD: preamble, sync, data words and CRC (R3, R95). -/
  wrd     : List Word
  deriving DecidableEq, Repr

/-- One station, and the queue of the commands that wait for it, first in, first out. -/
structure State where
  pending  : List Instr
  /-- Power is applied (R20, R23). -/
  powered  : Bool
  pins     : Pins
  lines    : StationLines
  drive    : DriveLines
  /-- The station clock (R70). -/
  clock    : Clock
  /-- The identity read from the strap at power-on (R167). -/
  identity : Ident
  zones    : Zones
  port     : Port
  queue    : WorkQueue
  faults   : Faults
  access   : Access
  seq      : Sequencer
  cache    : Cache
  monitor  : Monitor
  unit     : UpdateUnit
  cart     : Cartridge
  /-- The model's own: how many free values have been drawn (log entry 8). -/
  freeDraws : Nat
  deriving DecidableEq, Repr

/-! ### The values at power-on -/

/-- All flags clear. -/
def CondFlags.clear : CondFlags := { z := false, c := false, n := false }

/-- A frame at power-on, and any FREE frame (R105). -/
def Frame.free : Frame :=
  { state := .free, addr := none, pinned := false, owner := none, inDir := false, idx := none, filled := false }

/-- The sequencer with no work (R87). -/
def Sequencer.idle : Sequencer :=
  { state := .idle, work := none, cyl := 0, recs := [], pass := [], visit := none, strobed := false, recovered := false,
    misUsed := false, retried := false, frame := none, sending := none, stopping := false }

/-- No line driven (R19, R23). -/
def StationLines.none : StationLines :=
  { hold := false, call := false, mark1 := false, mark2 := false, pres := false, crel := false }

/-- The command-line drivers at high impedance, the lines at their inactive levels (R10). -/
def DriveLines.off : DriveLines :=
  { enabled := false, cyl := 0, hsel := false, rdg := false, wrg := false, wrd := [] }

/-- No line asserted beyond the station's own drive, and the drive's lines deasserted. -/
def Pins.quiet : Pins :=
  { rdy := false, ulr := false, wpt := false, skc := false, skf := false, snum := 0, pres := false, crel := false,
    hold := false, call := false, mark1 := false, mark2 := false }

/-- The zone map at power-on (R164, R165, R166, R171, R172). -/
def Zones.powerOn : Zones :=
  { map := List.replicate 16 { mode := .none, noWrite := false }, guardFirst := 1, guardLast := 0,
    thresholds := { retry := 0, collide := 0, capture := 0, late := 0 }, lock := false, configured := false }

/-- The port at power-on (R173, R174, R176, R177, R178). -/
def Port.powerOn : Port :=
  { partialBlock := [], waiting := none, overrun := false, fifo := [], readPos := 0, notices := 0,
    completionEnable := false, noticeEnable := false, jobs := [], running := none, dataOut := 0, dmaOut := [] }

/-- The fault list and the counters at power-on (R104, R98, R29, R136, R85). -/
def Faults.powerOn : Faults :=
  { entries := [], overflow := false, retry := 0, collide := 0, capture := 0, late := 0 }

/-- The line access unit at power-on (R23). -/
def Access.powerOn : Access :=
  { state := .off, turn := .A, k := 0, backoff := none, tenureStart := 0, round := none, frozen := 0, peerHolding := none,
    lineHeldRaised := false }

/-- The sector cache at power-on (R105). -/
def Cache.powerOn : Cache :=
  { frames := List.replicate Config.frameCount Frame.free, store := [], lru := [], refresh := [], labelReserved := false,
    waits := [] }

/-- The line monitor at power-on (R124). -/
def Monitor.powerOn : Monitor :=
  { state := .inactive, arm := none, head := 0, header := [], data := [], kind := none, addr := none, verdict := none,
    heldFor := none, abandonedFor := none, capHead := 0, capSnum := 0, motion := none }

/-- Cartridge control at power-on (R152). -/
def Cartridge.powerOn : Cartridge :=
  { state := .absent, recorded := none, lastSerial := none, timer := none, rejectionOwed := false }

/-- A station right after power-on (R23, R42, R70, R87, R105, R124, R139, R152, R164 to R167, R171 to R177), strapped as A, with no
line asserted from outside. The strap, the outside levels and the frame store's contents are the model's choice (log entries 1
to 3); `Instr.powerOn` brings the strap and the levels found. -/
def State.reset : State :=
  { pending := [], powered := true, pins := Pins.quiet, lines := StationLines.none, drive := DriveLines.off, clock := 0,
    identity := .A, zones := Zones.powerOn, port := Port.powerOn, queue := { held := [], finished := [], nextId := 0 },
    faults := Faults.powerOn, access := Access.powerOn, seq := Sequencer.idle, cache := Cache.powerOn,
    monitor := Monitor.powerOn, unit := { inProgress := none, flags := CondFlags.clear }, cart := Cartridge.powerOn,
    freeDraws := 0 }

end Sys2Proof.Machine
end

