-- ==== Sys2Proof/Machine/Flags.lean ====
section
/-! DEFINITION. The arithmetic of the update unit (R140): the new word and the three condition flags of every operation. -/

namespace Sys2Proof.Machine

/-- The new word of an operation (R140). -/
def updateWord (op : UpdateOp) (a b old : Word) : Word :=
  match op with
  | .set => old ||| a
  | .clear => old &&& ~~~a
  | .test => old
  | .add => old + a
  | .storeIfEqual => if old = a then b else old

/-- Z of an operation (R140). -/
def updateZ (op : UpdateOp) (a b old : Word) : Bool :=
  match op with
  | .set | .clear | .add => updateWord op a b old == 0#16
  | .test => (old &&& a) == 0#16
  | .storeIfEqual => old == a

/-- C of an operation: the carry out of bit 15 of an ADD (R140). -/
def updateC (op : UpdateOp) (a old : Word) : Bool :=
  match op with
  | .add => decide (old.toNat + a.toNat ≥ 65536)
  | .set | .clear | .test | .storeIfEqual => false

/-- The three flags of an operation; N is bit 15 of the new word (R140). -/
def updateFlags (op : UpdateOp) (a b old : Word) : CondFlags :=
  { z := updateZ op a b old, c := updateC op a old, n := (updateWord op a b old).getLsbD 15 }

/-- A chain condition holds against Z (R145). -/
def Cond.holds (c : Cond) (f : CondFlags) : Bool :=
  match c with
  | .always => true
  | .ifZ => f.z
  | .ifNZ => !f.z

end Sys2Proof.Machine
end

