-- ==== Sys2Proof/Machine/Memory.lean ====
section
/-! DEFINITION. The frame store (R105): 32,768 bytes, word-addressed on the buffer bus (BA0–BA13), as a canonical list of byte cells.
The most significant byte of a word is the lower byte address, and an unlisted byte reads 0 (log entries 3 and 4). -/

namespace Sys2Proof.Machine

/-- The bytes of the frame store. -/
abbrev storeBytes : Nat := 32768

/-- What a byte address of the store that no cell lists reads as (log entry 3). -/
abbrev unlistedByte : Byte := 0

/-- The canonical form: addresses strictly rising and within the store, no cell equal to what an unlisted address reads as. -/
abbrev Memory.wf (m : List Host.Cell) : Prop :=
  m.Pairwise (fun x y => x.1 < y.1) ∧ ∀ x ∈ m, x.1 < storeBytes ∧ x.2 ≠ unlistedByte

/-- The byte at an address. -/
def readByte : List Host.Cell → Nat → Byte
  | [], _ => unlistedByte
  | (k, v) :: m, a => if k = a then v else readByte m a

/-- A byte stored, keeping the canonical form; an address outside the store cannot stand on the bus and changes nothing. -/
def writeCell : List Host.Cell → Nat → Byte → List Host.Cell
  | [], a, b => if b = unlistedByte then [] else [(a, b)]
  | (k, v) :: m, a, b =>
    if k < a then (k, v) :: writeCell m a b
    else
      let rest := if k = a then m else (k, v) :: m
      if b = unlistedByte then rest else (a, b) :: rest

/-- `writeCell` at an address of the store. -/
def writeByte (m : List Host.Cell) (a : Nat) (b : Byte) : List Host.Cell :=
  if a < storeBytes then writeCell m a b else m

/-- The word at a word address of the store. -/
def readWord (m : List Host.Cell) (w : Nat) : Word := readByte m (2 * w) ++ readByte m (2 * w + 1)

/-- A word stored at a word address. -/
def writeWord (m : List Host.Cell) (w : Nat) (x : Word) : List Host.Cell :=
  writeByte (writeByte m (2 * w) (x.extractLsb' 8 8)) (2 * w + 1) (x.extractLsb' 0 8)

/-- Consecutive words stored from a word address on. -/
def writeWords : List Host.Cell → Nat → List Word → List Host.Cell
  | m, _, [] => m
  | m, w, x :: xs => writeWords (writeWord m w x) (w + 1) xs

/-- The 256 words of frame `f`, from word 256 × f on (R105). -/
def readFrame (m : List Host.Cell) (f : Nat) : List Word :=
  (List.range Config.sectorWords).map (fun i => readWord m (Config.sectorWords * f + i))

/-- A sector's words placed in frame `f`; words past the 256 of a frame are not placed. -/
def writeFrame (m : List Host.Cell) (f : Nat) (ws : List Word) : List Host.Cell :=
  writeWords m (Config.sectorWords * f) (ws.take Config.sectorWords)

/-- One word of frame `f` replaced. -/
def writeFrameWord (m : List Host.Cell) (f off : Nat) (x : Word) : List Host.Cell :=
  writeWord m (Config.sectorWords * f + off) x

end Sys2Proof.Machine
end

