-- ==== Sys2Proof/Machine/Format.lean ====
section
/-! DEFINITION. The recorded formats of chapter 1: the CRC, the classes of a header and of a data field, the label. -/

namespace Sys2Proof.Machine

/-- One bit through the CRC register: the shift, and the exclusive-or with 1021h when the bit shifted out differs from the
presented bit (R5). The register is held as a natural number below 65,536. -/
def crcShift (r : Nat) (b : Bool) : Nat :=
  if r.testBit 15 != b then ((2 * r) % 65536) ^^^ 0x1021 else (2 * r) % 65536

/-- The register after a run of bits (R5). The split on the register makes an evaluation compute it bit by bit; `crcBits_cons` in
Laws says that it is `crcBits bs (crcShift r b)`. -/
def crcBits : List Bool → Nat → Nat
  | [], r => r
  | b :: bs, r =>
    match crcShift r b with
    | 0 => crcBits bs 0
    | n + 1 => crcBits bs (n + 1)

/-- The bits of a word, most significant first (R3). -/
def wordBits (w : Word) : List Bool := (List.range 16).map w.getMsbD

/-- The check word over words: register preset to FFFFh, no inversion (R5, R6). -/
def crc (ws : List Word) : Word := BitVec.ofNat 16 (crcBits (ws.flatMap wordBits) 0xFFFF)

/-- The words that a writing station sends at word-times 28–293: the data preamble, the data sync, the data words and their CRC (R3,
R95). -/
def writtenField (ws : List Word) : List Word := List.replicate 8 0xAAAA#16 ++ 0x1E3C#16 :: ws ++ [crc ws]

/-- The classes of a header against the address sought (R6). `wrongSector` takes every good header of the cylinder sought that is
not matching: R6 names the differing sector, and a differing head is read the same way (log entry 10). -/
inductive HeaderClass
  | matching | matchingBad | wrongSector
  | wrongCylinder (c : Nat)
  | unreadable
  deriving DecidableEq, Repr

/-- A header is good: sync found, five words received, and the check equal (R6). -/
def headerGood (h : HeaderField) : Bool :=
  h.sync && h.words.length == 5 && crc (h.words.take 4) == h.words.getD 4 0

/-- The cylinder, head and sector numbers of a header (R4). -/
def headerAddr (h : HeaderField) : SectorAddr :=
  { cyl := (h.words.getD 0 0).toNat, head := (h.words.getD 1 0).toNat, sec := (h.words.getD 2 0).toNat }

/-- The BAD mark, bit 15 of the flags word (R4). -/
def headerBadMark (h : HeaderField) : Bool := (h.words.getD 3 0).getLsbD 15

/-- The class of a header against the address sought (R6). -/
def headerClass (h : HeaderField) (a : SectorAddr) : HeaderClass :=
  if headerGood h then
    if headerAddr h = a then (if headerBadMark h then .matchingBad else .matching)
    else if (headerAddr h).cyl ≠ a.cyl then .wrongCylinder (headerAddr h).cyl
    else .wrongSector
  else .unreadable

/-- The numbers of an address lie within 0–399, 0–1 and 0–19 (R4, R127). -/
def SectorAddr.inRange (a : SectorAddr) : Bool := a.cyl < 400 && a.head < 2 && a.sec < 20

/-- The three ways a data field reads (R7). -/
inductive FieldClass
  | good | bad | missing
  deriving DecidableEq, Repr

/-- The words of a field pass the CRC: 257 words, the last one the CRC of the others (R5, R7). -/
def fieldWordsGood (ws : List Word) : Bool :=
  ws.length == Config.sectorWords + 1 && crc (ws.take Config.sectorWords) == ws.getD Config.sectorWords 0

/-- How a data field reads (R7). A field whose sync was found and that is not good, an incomplete one included, reads bad. -/
def fieldClass (d : DataField) : FieldClass :=
  if d.sync then (if fieldWordsGood d.words then .good else .bad) else .missing

/-- The 256 data words of a field. -/
def fieldData (d : DataField) : List Word := d.words.take Config.sectorWords

/-- The label sector (R8). -/
def labelAddr : SectorAddr := { cyl := 0, head := 0, sec := 0 }

/-- The label's verdict on the data words of the label sector: the serial when the label is accepted, none when its format code or
geometry rejects it (R8). -/
def labelSerial (ws : List Word) : Option (BitVec 32) :=
  if ws.getD 0 0 = 0x2240#16 ∧ ws.getD 1 0 = 400#16 ∧ ws.getD 2 0 = 2#16 ∧ ws.getD 3 0 = 20#16 then
    some (ws.getD 4 0 ++ ws.getD 5 0)
  else none

/-- The sector index of an address within its cylinder (R1). -/
def SectorAddr.index (a : SectorAddr) : Nat := a.head * Config.sectorsPerTrack + a.sec

/-- The sector of index `i` on cylinder `c` (R1). -/
def sectorAt (c i : Nat) : SectorAddr :=
  { cyl := c, head := i / Config.sectorsPerTrack, sec := i % Config.sectorsPerTrack }

end Sys2Proof.Machine
end

