-- ==== Sys2Proof/Machine/Operands.lean ====
section
/-! DEFINITION. The operands of the commands read as the spec reads them: the fields of a request block (section 11.6), the
configuration record, the levels sampled on the lines. -/

namespace Sys2Proof.Machine

/-- The kind that a kind code names (section 11.6). -/
def kindOfCode (c : BitVec 4) : Option Kind :=
  match c.toNat with
  | 0 => some .read
  | 1 => some .check
  | 2 => some .write
  | 3 => some .writeVerify
  | 4 => some .update
  | 5 => some .pin
  | 6 => some .unpin
  | 7 => some .discard
  | 8 => some .cancel
  | 9 => some .releaseCartridge
  | 10 => some .fetchFault
  | 11 => some .report
  | 12 => some .configure
  | _ => none

/-- The code of a kind (section 11.6). -/
def Kind.code : Kind → BitVec 4
  | .read => 0
  | .check => 1
  | .write => 2
  | .writeVerify => 3
  | .update => 4
  | .pin => 5
  | .unpin => 6
  | .discard => 7
  | .cancel => 8
  | .releaseCartridge => 9
  | .fetchFault => 10
  | .report => 11
  | .configure => 12

/-- The operation that an operation code names (section 11.6). -/
def opOfCode (c : BitVec 3) : Option UpdateOp :=
  match c.toNat with
  | 0 => some .set
  | 1 => some .clear
  | 2 => some .test
  | 3 => some .add
  | 4 => some .storeIfEqual
  | _ => none

/-- The chain condition that a code names (section 11.6). -/
def condOfCode (c : BitVec 2) : Option Cond :=
  match c.toNat with
  | 0 => some .always
  | 1 => some .ifZ
  | 2 => some .ifNZ
  | _ => none

/-- The six drive kinds (R43). -/
def Kind.isDrive : Kind → Bool
  | .read | .check | .write | .writeVerify | .update | .pin => true
  | .unpin | .discard | .cancel | .releaseCartridge | .fetchFault | .report | .configure => false

/-- WRITE and WRITE-VERIFY, the kinds whose frames are STAGED (R43). -/
def Kind.isWrite : Kind → Bool
  | .write | .writeVerify => true
  | _ => false

/-- The kinds that count as writing for hazard ordering (R43, R59). -/
def Kind.writesForHazards : Kind → Bool
  | .write | .writeVerify | .update => true
  | _ => false

/-- The kinds that a chain may hold (R49). -/
def Kind.chainable : Kind → Bool
  | .read | .check | .write | .writeVerify | .update => true
  | _ => false

/-- The eight words of a block read into its fields (section 11.6). -/
def blockOfWords (ws : List Word) : Block :=
  let w (i : Nat) : Word := ws.getD i 0
  { kindCode := (w 0).extractLsb' 4 4
    body :=
      { tag := (w 0).extractLsb' 8 8
        opCode := (w 0).extractLsb' 1 3
        cyl := (w 1).extractLsb' 7 9
        head := (w 1).extractLsb' 5 2
        sector := (w 1).extractLsb' 0 5
        count := (w 2).extractLsb' 8 8
        offset := (w 2).extractLsb' 0 8
        mem := (w 4).extractLsb' 0 2 ++ w 3
        bypass := (w 4).getLsbD 4
        dropIfLate := (w 4).getLsbD 5
        continues := (w 4).getLsbD 8
        condCode := (w 4).extractLsb' 9 2
        deadline := w 5
        opA := w 6
        opB := w 7 } }

/-- The first sector's index of a block: head × 20 + sector (R42). -/
def blockIndex (b : BlockBody) : Nat := b.head.toNat * Config.sectorsPerTrack + b.sector.toNat

/-- The disk address of a block. -/
def blockAddr (b : BlockBody) : SectorAddr :=
  { cyl := b.cyl.toNat, head := b.head.toNat, sec := b.sector.toNat }

/-- The sector indices a block names (R42). -/
def blockIndices (b : BlockBody) : List Nat := List.range' (blockIndex b) b.count.toNat

/-- The sector indices of a request (R42). -/
def Request.indices (r : Request) : List Nat := List.range' r.addr.index r.count

/-- Those not yet done (R73). -/
def Request.undone (r : Request) : List Nat := r.indices.filter (fun i => !r.done.contains i)

/-- The request covers the sector (R42). -/
def Request.covers (r : Request) (a : SectorAddr) : Bool := r.addr.cyl == a.cyl && r.indices.contains a.index

/-- The levels sampled on the lines come to stand on the input pins. -/
def Pins.sample (p : Pins) (l : Lines) : Pins :=
  { p with snum := l.snum, wpt := l.wpt, skc := l.skc, skf := l.skf, call := l.call, crel := l.crel }

/-- `Pins.sample` on the state. -/
def State.sample (s : State) (l : Lines) : State := { s with pins := s.pins.sample l }

/-- The drive records at the cell: WRG effective (R14). -/
def cellEffective (c : GateCell) : Bool := c.wrg && c.rdy && c.skc && !c.wpt

/-- The outcomes of R129 over a peer's gate. -/
inductive GateVerdict
  | noWrite | whole | broken
  deriving DecidableEq, Repr

/-- A peer's gate judged (R129): no write when the conditions hold at no cell, a whole write when they hold from before the data
sync to the end of the CRC word, a broken one otherwise. -/
def gateVerdict (g : Gate) : GateVerdict :=
  if (g.early ++ g.late).any cellEffective then
    if g.early.getLast?.any cellEffective && g.late.all cellEffective then .whole else .broken
  else .noWrite

/-- The kind of the capture (R128, R129): none when the peer dropped RDG and its gate, if any, is no write. -/
def fieldKind (d : PeerField) : Option CapKind :=
  match d with
  | .read => some .read
  | .write g => if gateVerdict g = .noWrite then none else some .write

/-- The field is a whole write of the peer's (R129). -/
def fieldWhole (d : PeerField) : Bool :=
  match d with
  | .read => false
  | .write g => gateVerdict g == .whole

/-- A zone entry of the configuration record: bits 1–0 the mode code, bit 15 the write permission (section 11.6). Code 3 names no
mode and is refused before it is read here (R169). -/
def zoneEntryOfWord (w : Word) : ZoneEntry :=
  { mode := match (w.extractLsb' 0 2).toNat with
            | 0 => .none
            | 1 => .drop
            | _ => .capture
    noWrite := w.getLsbD 15 }

/-- The configuration record is refused BAD-CONFIG (R169). -/
def configBad (ws : List Word) : Bool :=
  (List.range 16).any (fun i => (ws.getD i 0).extractLsb' 0 2 == 3#2)
    || decide ((ws.getD 16 0).toNat > 399) || decide ((ws.getD 17 0).toNat > 399)
    || [0, 4, 8, 12].any (fun k => decide (((ws.getD 18 0).extractLsb' k 4).toNat > 3))

/-- The threshold codes of word 18 of the configuration record (section 11.6). -/
def thresholdsOfWord (w : Word) : Thresholds :=
  { retry := w.extractLsb' 12 2, collide := w.extractLsb' 8 2, capture := w.extractLsb' 4 2, late := w.extractLsb' 0 2 }

end Sys2Proof.Machine
end

