-- ==== Sys2Proof/Machine/Ops.lean ====
section
/-! DEFINITION. The operations all blocks share: clock comparison, notices, counters, the fault list, the zone of a sector. -/

namespace Sys2Proof.Machine

/-! ### The station clock (R70) -/

/-- The signed 32-bit difference x − y (R70). -/
def clockDiff (x y : Clock) : Int := (x - y).toInt

/-- x is after y (R70). -/
def clockAfter (x y : Clock) : Bool := decide (0 < clockDiff x y)

/-- x is before y (R70). -/
def clockBefore (x y : Clock) : Bool := decide (clockDiff x y < 0)

/-- A slack clamped to −32,768..32,767, as a word (R68, R77). -/
def clampWord (x : Int) : Word := BitVec.ofInt 16 (max (-32768) (min 32767 x))

/-! ### Notices (R176) -/

/-- The 15 notice kinds. -/
inductive Notice
  | cartridgeLeaving | cartridgeReady | cartridgeRejected | cartridgeGone | releaseTimeout | peerArrived | peerLeft
  | lineTrouble | lineHeld | guardWritten | faultListed | countRetry | countCollide | countCapture | countLate
  deriving DecidableEq, Repr

/-- The NOTICES bit of a notice (section 11.6). -/
def Notice.bit : Notice → Nat
  | .cartridgeLeaving => 0
  | .cartridgeReady => 1
  | .cartridgeRejected => 2
  | .cartridgeGone => 3
  | .releaseTimeout => 4
  | .peerArrived => 5
  | .peerLeft => 6
  | .lineTrouble => 7
  | .lineHeld => 8
  | .guardWritten => 9
  | .faultListed => 10
  | .countRetry => 11
  | .countCollide => 12
  | .countCapture => 13
  | .countLate => 14

/-- The notice set with the mark of `n` set (R176). -/
def setMark (set : BitVec 15) (n : Notice) : BitVec 15 := set ||| (1#15 <<< n.bit)

/-- A notice raised; an unconfigured station raises none (R21, R23, R152, R176). -/
def State.raise (s : State) (n : Notice) : State :=
  if s.zones.configured then { s with port := { s.port with notices := setMark s.port.notices n } } else s

/-- `raise` when the condition holds. -/
def State.raiseIf (s : State) (c : Bool) (n : Notice) : State := if c then s.raise n else s

/-! ### Counters (R166) -/

/-- The counter value is at a multiple of the threshold of the code (R166). -/
def thresholdHit (code : BitVec 2) (v : BitVec 16) : Bool :=
  match code.toNat with
  | 0 => false
  | 1 => v.toNat % 16 == 0
  | 2 => v.toNat % 256 == 0
  | _ => v.toNat % 4096 == 0

/-- RETRY incremented (R98). -/
def State.countRetry (s : State) : State :=
  State.raiseIf { s with faults := { s.faults with retry := s.faults.retry + 1 } }
    (thresholdHit s.zones.thresholds.retry (s.faults.retry + 1)) .countRetry

/-- COLLIDE incremented (R29). -/
def State.countCollide (s : State) : State :=
  State.raiseIf { s with faults := { s.faults with collide := s.faults.collide + 1 } }
    (thresholdHit s.zones.thresholds.collide (s.faults.collide + 1)) .countCollide

/-- CAPTURE incremented (R136). -/
def State.countCapture (s : State) : State :=
  State.raiseIf { s with faults := { s.faults with capture := s.faults.capture + 1 } }
    (thresholdHit s.zones.thresholds.capture (s.faults.capture + 1)) .countCapture

/-- LATE incremented (R85). -/
def State.countLate (s : State) : State :=
  State.raiseIf { s with faults := { s.faults with late := s.faults.late + 1 } }
    (thresholdHit s.zones.thresholds.late (s.faults.late + 1)) .countLate

/-! ### The fault list (R103) -/

/-- The entry stands for this fault. -/
def FaultEntry.same (e : FaultEntry) (a : FaultAddr) (k : FaultKind) : Bool := e.addr == a && e.kind == k

/-- An entry met again: its repeat count goes up, 255 at most (R103). -/
def FaultEntry.again (e : FaultEntry) : FaultEntry := { e with repeats := if e.repeats < 255 then e.repeats + 1 else e.repeats }

/-- A fault reaches the list: merged, appended or dropped (R103). -/
def State.listFault (s : State) (a : FaultAddr) (k : FaultKind) (o : Origin) : State :=
  if s.faults.entries.any (·.same a k) then
    { s with faults :=
        { s.faults with entries := s.faults.entries.map (fun e => if e.same a k then e.again else e) } }
  else if s.faults.entries.length < Config.maxFaults then
    State.raise
      { s with faults :=
          { s.faults with entries := s.faults.entries ++
              [{ addr := a, kind := k, origin := o, firstTime := s.clock, repeats := 1 }] } } .faultListed
  else { s with faults := { s.faults with overflow := true } }

/-! ### The zone map (R164, R165) -/

/-- The zone entry of a cylinder (R164). -/
def Zones.entry (z : Zones) (c : Nat) : ZoneEntry :=
  z.map.getD (c / Config.zoneCylinders) { mode := .none, noWrite := false }

/-- The cache mode of a cylinder's zone. -/
def Zones.mode (z : Zones) (c : Nat) : CacheMode := (z.entry c).mode

/-- The zone of the cylinder keeps frames in the directory: DROP or CAPTURE (R106). -/
def Zones.caches (z : Zones) (c : Nat) : Bool := z.mode c != .none

/-- The cylinder lies in the guard range (R165). -/
def Zones.guarded (z : Zones) (c : Nat) : Bool := decide (z.guardFirst ≤ c) && decide (c ≤ z.guardLast)

/-- The sector is guarded against the peer: in the guard range, or the label sector (R133, R165). -/
def Zones.guardsSector (z : Zones) (a : SectorAddr) : Bool := z.guarded a.cyl || a == labelAddr

/-- The station does not write the sector: a NO-WRITE zone, the guard range or the label sector (R49, R95, R165). -/
def Zones.refusesWrite (z : Zones) (a : SectorAddr) : Bool := (z.entry a.cyl).noWrite || z.guardsSector a

/-- The arm cylinder a strobe or a header names: 0–399, or none. -/
def armOf (c : Nat) : Option (Fin 400) := if h : c < 400 then some ⟨c, h⟩ else none

/-! ### Free values -/

/-- A free value drawn (log entry 8). -/
def State.drawWord (s : State) : Word × State := (Config.freeWord s.freeDraws, { s with freeDraws := s.freeDraws + 1 })

/-! ### Held requests -/

/-- The held request with the id. -/
def State.request (s : State) (id : Nat) : Option Request := s.queue.held.find? (fun r => r.id == id)

/-- The held request with the id changed. -/
def State.modify (s : State) (id : Nat) (f : Request → Request) : State :=
  { s with queue := { s.queue with held := s.queue.held.map (fun r => if r.id == id then f r else r) } }

end Sys2Proof.Machine
end

