-- ==== Sys2Proof/Machine/Cache.lean ====
section
/-! DEFINITION. The sector cache (chapter 6): frames, directory, reservations, allocation and eviction, deliveries and retiring,
takeover, the refresh set, and the coherence actions on the peer's traffic. -/

namespace Sys2Proof.Machine

/-! ### Frames, directory, order -/

/-- The job delivers from frame `f`. -/
def Job.delivers (j : Job) (f : Nat) : Bool :=
  match j.kind with
  | .delivery g _ => g == f
  | .staging _ _ | .report _ | .configure => false

/-- The jobs running and queued. -/
def State.allJobs (s : State) : List Job := s.port.running.toList ++ s.port.jobs

/-- The delivery hold of a frame: the delivery jobs queued or running that read it (R116). -/
def State.hold (s : State) (f : Nat) : Nat := (s.allJobs.filter (·.delivers f)).length

/-- The busy-out flag of a frame: a delivery job is running from it (R116). -/
def State.busy (s : State) (f : Nat) : Bool := s.port.running.any (·.delivers f)

/-- The record of frame `f`. -/
def State.frame (s : State) (f : Nat) : Frame := s.cache.frames.getD f Frame.free

/-- The record of frame `f` replaced. -/
def State.setFrame (s : State) (f : Nat) (fr : Frame) : State :=
  { s with cache := { s.cache with frames := s.cache.frames.set f fr } }

/-- The numbers of the frames. -/
def State.frameNumbers (s : State) : List Nat := List.range s.cache.frames.length

/-- The directory maps the sector to this frame (R106). -/
def Frame.holds (fr : Frame) (a : SectorAddr) : Bool := fr.inDir && fr.addr == some a

/-- The directory frame of a sector (R106). -/
def State.dirFrame (s : State) (a : SectorAddr) : Option Nat := s.cache.frames.findIdx? (·.holds a)

/-- The VALID directory frame of a sector, the one that serves hits (R110). -/
def State.validFrame (s : State) (a : SectorAddr) : Option Nat :=
  (s.dirFrame a).filter (fun f => (s.frame f).state == .valid)

/-- The frame moves to the most recent end of the LRU order (R108). -/
def State.touch (s : State) (f : Nat) : State :=
  { s with cache := { s.cache with lru := s.cache.lru.filter (· != f) ++ [f] } }

/-- The frame leaves the LRU order (R108). -/
def State.leaveLru (s : State) (f : Nat) : State :=
  { s with cache := { s.cache with lru := s.cache.lru.filter (· != f) } }

/-- The frame leaves the refresh set (R118). -/
def State.leaveRefresh (s : State) (f : Nat) : State :=
  { s with cache := { s.cache with refresh := s.cache.refresh.filter (·.frame != f) } }

/-- The frame enters the refresh set at the newest end, once at most (R118). -/
def State.enterRefresh (s : State) (f : Nat) : State :=
  if s.cache.refresh.any (·.frame == f) then s
  else { s with cache := { s.cache with refresh := s.cache.refresh ++ [{ frame := f, entered := s.clock }] } }

/-- A peer tenure that the station observed begin is in progress (R31). -/
def State.peerTenure (s : State) : Bool := s.access.peerHolding == some .observed

/-- The buffer emptied: nothing of the capture is kept. -/
def Monitor.emptied (m : Monitor) : Monitor :=
  { m with header := [], data := [], kind := none, addr := none, verdict := none, heldFor := none }

/-- The monitor with no capture held: it leaves HOLDING for WATCHING or IDLE (R138), its buffer empty (the example of section 6.7; for a
capture dropped, log entry 57). A capture that is still being dealt with keeps the buffer until its end. -/
def Monitor.unheld (m : Monitor) (tenure : Bool) : Monitor :=
  if m.state = .holding then { m.emptied with state := if tenure then .watching else .idle } else { m with heldFor := none }

/-- A capture held for frame `f` is dropped (R138). -/
def State.dropHeld (s : State) (f : Nat) : State :=
  if s.monitor.heldFor = some f then { s with monitor := s.monitor.unheld s.peerTenure } else s

/-- The sequencer is refreshing frame `f`. -/
def State.refreshing (s : State) (f : Nat) : Bool := s.seq.work == some (.refresh f)

/-- Frame `f` becomes FREE: it leaves the directory, the LRU order and the refresh set, and a capture held for it is dropped
(R105, R108, R122). -/
def State.freeFrame (s : State) (f : Nat) : State :=
  (((s.dropHeld f).leaveLru f).leaveRefresh f).setFrame f Frame.free

/-- Frame `f` retires (R116): STALE, out of the directory, unpinned, kept for the jobs that read it. -/
def State.retire (s : State) (f : Nat) : State :=
  (((s.dropHeld f).leaveLru f).leaveRefresh f).setFrame f
    { s.frame f with state := .stale, inDir := false, pinned := false, owner := none }

/-- The release of frame `f` is ordered: freed at once, or retired while its delivery hold is above 0 (R116). A refresh that reads into
a frame so freed goes on, its result not used (log entry 54). -/
def State.release (s : State) (f : Nat) : State := if s.hold f == 0 then s.freeFrame f else s.retire f

/-- The release of a frame whose zone has turned to NONE: one that a refresh reads into becomes FREE when the refresh ends (R170), and
stands retired until then (log entry 14). -/
def State.releaseTurned (s : State) (f : Nat) : State := if s.refreshing f then s.retire f else s.release f

/-- The frame is retiring (R116). -/
def Frame.retiring (fr : Frame) : Bool := fr.state == .stale && !fr.inDir

/-- Nothing reads frame `f` any more: it is retiring, or holds a sector of a NONE zone read good for a READ, and its hold is 0. R112
frees the latter at its delivery's end; one that never had a delivery, the memory having refused another of the request (R100), is
free at once by the model's choice (log entry 52). -/
def State.spent (s : State) (f : Nat) : Bool :=
  let fr := s.frame f
  s.hold f == 0 && ((fr.retiring && !s.refreshing f) || (fr.state == .filling && fr.filled))

/-- The frames whose deliveries have ended become FREE (R112, R113, R116). -/
def State.sweep (s : State) : State :=
  s.frameNumbers.foldl (fun t f => if t.spent f then t.freeFrame f else t) s

/-! ### Promises (R107) -/

/-- The frame counts as available to the promise: FREE, or VALID, unpinned and not busy-out (R107). -/
def State.isAvailable (s : State) (f : Nat) : Bool :=
  let fr := s.frame f
  fr.state == .free || (fr.state == .valid && !fr.pinned && !s.busy f)

/-- The available frames (R107). -/
def State.available (s : State) : Nat := (s.frameNumbers.filter s.isAvailable).length

/-- The reserved count: the frames-reserved fields of all held requests plus the label reservation (R105). -/
def State.reservedCount (s : State) : Nat :=
  (s.queue.held.map (·.reserved)).sum + (if s.cache.labelReserved then 1 else 0)

/-- The pinned count (R105). -/
def State.pinnedCount (s : State) : Nat := (s.cache.frames.filter (·.pinned)).length

/-- The free count (R105). -/
def State.freeCount (s : State) : Nat := (s.cache.frames.filter (·.state == .free)).length

/-- The frames promised as pins to the held PIN requests (R117). -/
def State.promisedPins (s : State) : Nat := (s.queue.held.map (·.promised.length)).sum

/-- The cache can promise `need` more frames (R107). -/
def State.canPromise (s : State) (need : Nat) : Bool := decide (s.reservedCount + need ≤ s.available)

/-- The sector is in a pinned frame (R51). -/
def State.isPinned (s : State) (a : SectorAddr) : Bool :=
  (s.dirFrame a).any (fun f => (s.frame f).pinned)

/-! ### Jobs -/

/-- A DMA job becomes ready (R178). -/
def State.queueJob (s : State) (j : Job) : State := { s with port := { s.port with jobs := s.port.jobs ++ [j] } }

/-- The first word address of the job for a sector of a request: memory address + 256 × (index − first index) (R52, R100, R178). -/
def Request.sectorBase (r : Request) (idx : Nat) : Nat := r.mem + Config.sectorWords * (idx - r.addr.index)

/-- A delivery job is queued for a sector of a READ, unless the memory has refused a delivery of the request (R100). -/
def State.queueDelivery (s : State) (r : Request) (idx f : Nat) : State :=
  if r.refusedAt.isSome then s
  else s.queueJob { req := r.id, orphan := false, kind := .delivery f idx, base := r.sectorBase idx }

/-- The job belongs to the request. -/
def Job.isFor (j : Job) (id : Nat) : Bool := j.req == id && !j.orphan

/-- The job is a delivery job. -/
def Job.isDelivery (j : Job) : Bool :=
  match j.kind with
  | .delivery _ _ => true
  | _ => false

/-- The job is a staging job. -/
def Job.isStaging (j : Job) : Bool :=
  match j.kind with
  | .staging _ _ => true
  | _ => false

/-- A delivery job of the request is queued or in progress. -/
def State.delivering (s : State) (id : Nat) : Bool := s.allJobs.any (fun j => j.isFor id && j.isDelivery)

/-- A staging job of the request is queued or in progress, or a STAGED frame of it waits for its allocation (R53, R109). -/
def State.stagingOpen (s : State) (id : Nat) : Bool :=
  s.allJobs.any (fun j => j.isFor id && j.isStaging) || s.cache.waits.any (fun w => w.req == some id && w.staged)

/-- The jobs of the request leave the list; one that is running stops (R178). -/
def State.dropJobs (s : State) (id : Nat) : State :=
  { s with port := { s.port with jobs := s.port.jobs.filter (fun j => !j.isFor id)
                                 running := s.port.running.filter (fun j => !j.isFor id) } }

/-! ### Allocation (R108) -/

/-- Frame `f` may be evicted: VALID, unpinned, not busy-out, delivery hold 0 (R108). -/
def State.evictable (s : State) (f : Nat) : Bool :=
  let fr := s.frame f
  fr.state == .valid && !fr.pinned && !s.busy f && s.hold f == 0

/-- A frame for an allocation: a FREE one first, else the least recently used evictable one, evicted (R108). Of several FREE frames
the lowest-numbered, which is the model's choice (log entry 51). -/
def State.allocate (s : State) : Option (Nat × State) :=
  match s.cache.frames.findIdx? (·.state == .free) with
  | some f => some (f, s)
  | none => (s.cache.lru.find? s.evictable).map (fun f => (f, s.freeFrame f))

/-- One frame of a request's reservation is used or returned. -/
def Request.useReserved (r : Request) : Request := { r with reserved := r.reserved - 1 }

/-- Frame `f` becomes a STAGED frame of the request, and its staging job is queued (R109). -/
def State.giveStaged (s : State) (r : Request) (idx f : Nat) : State :=
  ((s.setFrame f { Frame.free with state := .staged, owner := some r.id, idx := some idx }).modify r.id Request.useReserved).queueJob
    { req := r.id, orphan := false, kind := .staging f idx, base := r.sectorBase idx }

/-- Frame `f` becomes a FILLING frame of the request for sector `a` (R112, R115). A CHECK's frame, one for a NONE zone and one for a
sector that has a directory frame stand outside the directory. -/
def State.giveFilling (s : State) (r : Request) (a : SectorAddr) (f : Nat) : State :=
  (s.setFrame f { Frame.free with
      state := .filling
      addr := some a
      owner := some r.id
      inDir := s.zones.caches a.cyl && r.kind != .check && (s.dirFrame a).isNone }).modify r.id Request.useReserved

/-- Frame `f` is lent to the label read, against the label reservation (R107, R115). -/
def State.giveLabel (s : State) (f : Nat) : State :=
  let t := s.setFrame f { Frame.free with state := .filling, addr := some labelAddr }
  { t with cache := { t.cache with labelReserved := false } }

/-- The frame goes to the allocation that waited for it. -/
def State.giveFrame (s : State) (w : AllocWait) (f : Nat) : State :=
  match w.req with
  | none => s.giveLabel f
  | some id =>
    match s.request id with
    | none => s
    | some r => if w.staged then s.giveStaged r w.idx f else s.giveFilling r (sectorAt r.addr.cyl w.idx) f

/-- The waiting allocations served in their order, as long as a frame can be found (R108). -/
def State.serveList (s : State) : List AllocWait → State
  | [] => { s with cache := { s.cache with waits := [] } }
  | w :: ws =>
    match s.allocate with
    | none => { s with cache := { s.cache with waits := w :: ws } }
    | some (f, t) => (t.giveFrame w f).serveList ws

/-- `serveList` over the allocations that wait. -/
def State.serveWaits (s : State) : State := s.serveList s.cache.waits

/-- An allocation is asked for: it joins those that wait, and they are served (R108). -/
def State.allocOrWait (s : State) (w : AllocWait) : State := s.serveList (s.cache.waits ++ [w])

/-- Frames freed are taken up: retiring frames whose jobs have ended become FREE, then waiting allocations are served (R116). -/
def State.tidy (s : State) : State := s.sweep.serveWaits

/-- The request's allocations no longer wait. -/
def State.dropWaits (s : State) (id : Nat) : State :=
  { s with cache := { s.cache with waits := s.cache.waits.filter (fun w => w.req != some id) } }

/-- The frame is the request's, STAGED or FILLING without a sector read good (R109, R113). -/
def Frame.unreadOf (fr : Frame) (id : Nat) : Bool :=
  fr.owner == some id && (fr.state == .staged || (fr.state == .filling && !fr.filled))

/-- The STAGED frames and the unread FILLING frames of a request become FREE (R53, R109, R113, R114). -/
def State.releaseOwned (s : State) (id : Nat) : State :=
  s.frameNumbers.foldl (fun t f => if (t.frame f).unreadOf id then t.freeFrame f else t) s

/-! ### Filling, takeover, writing (R106, R112, R114, R115) -/

/-- Words placed in frame `f` of the store. -/
def State.putWords (s : State) (f : Nat) (ws : List Word) : State :=
  { s with cache := { s.cache with store := writeFrame s.cache.store f ws } }

/-- Frame `f` becomes the VALID directory frame of sector `a`, pinned if `pin` or if the frame it takes over from was; the previous
frame is released (R106, R112). -/
def State.enterDirectory (s : State) (f : Nat) (a : SectorAddr) (pin : Bool) : State :=
  let prev := (s.dirFrame a).filter (· != f)
  let pinned := pin || (s.frame f).pinned || prev.any (fun g => (s.frame g).pinned)
  let t := match prev with
    | some g => s.release g
    | none => s
  ((t.setFrame f { Frame.free with state := .valid, addr := some a, pinned := pinned, inDir := true }).leaveRefresh f).touch f

/-- A frame read good for a READ, a PIN or an UPDATE is settled by its zone (R112, R115): in a caching zone it becomes the VALID
directory frame; in a NONE zone a READ's frame awaits its delivery and an UPDATE's stays FILLING. -/
def State.settleRead (s : State) (r : Request) (f : Nat) (a : SectorAddr) (ws : List Word) : State :=
  let t := s.putWords f ws
  if t.zones.caches a.cyl then t.enterDirectory f a (r.kind == .pin)
  else t.setFrame f { t.frame f with filled := r.kind == .read }

/-- A STAGED frame whose sector is written (R114). -/
def State.settleWritten (s : State) (f : Nat) (a : SectorAddr) : State :=
  if s.zones.caches a.cyl then s.enterDirectory f a false else s.freeFrame f

/-- A pinned frame becomes STALE and enters the refresh set (R118). -/
def State.stalePinned (s : State) (f : Nat) : State :=
  (s.setFrame f { s.frame f with state := .stale }).enterRefresh f

/-- The directory frame of a sector is invalidated: a pinned one becomes STALE and enters the refresh set, another is released
(R114, R119). -/
def State.invalidate (s : State) (f : Nat) : State :=
  if (s.frame f).pinned then s.stalePinned f else s.release f

/-- A torn sector: its directory frame, if any, is invalidated (R114). -/
def State.torn (s : State) (a : SectorAddr) : State :=
  match s.dirFrame a with
  | none => s
  | some f => s.invalidate f

/-! ### Coherence with the peer (R119 to R121, R138) -/

/-- The frame takes a capture's words: VALID, out of the refresh set, most recent (R119). -/
def State.takeWords (s : State) (f : Nat) (ws : List Word) : State :=
  let t := s.putWords f ws
  ((t.setFrame f { t.frame f with state := .valid }).leaveRefresh f).touch f

/-- A good capture of a busy-out frame is held: the frame becomes STALE (R120). -/
def State.holdCapture (s : State) (f : Nat) : State :=
  let t := s.setFrame f { s.frame f with state := .stale }
  { t with monitor := { t.monitor with heldFor := some f } }

/-- A write without good capture over directory frame `f` (R119, last column). Where a held capture of the frame was abandoned while
its job still runs, this capture is held in its place (R120). -/
def State.writtenWithoutGood (s : State) (f : Nat) : State :=
  let t := s.invalidate f
  if (s.frame f).pinned && s.busy f && s.monitor.abandonedFor == some f then
    { t with monitor := { t.monitor with heldFor := some f } }
  else t

/-- A peer write of sector `a` reported to the cache (R119). -/
def State.peerWrite (s : State) (a : SectorAddr) (good : Bool) (ws : List Word) : State :=
  match s.dirFrame a with
  | none => s
  | some f =>
    if !good then s.writtenWithoutGood f
    else if !(s.frame f).pinned && s.zones.mode a.cyl == .drop then s.release f
    else if s.busy f then s.holdCapture f
    else s.takeWords f ws

/-- A good capture of a peer read of sector `a` (R121). -/
def State.peerRead (s : State) (a : SectorAddr) (ws : List Word) : State :=
  match s.dirFrame a with
  | none => s
  | some f =>
    if (s.frame f).state == .stale then (if s.busy f then s.holdCapture f else s.takeWords f ws) else s

/-- An unlocated write: every directory frame of the head and sector, on whatever cylinder, is treated as written without good
capture (R130). R118 and R130 give the pinned ones that become STALE by it no order of entry into the refresh set; that they enter in
frame-number order is the model's choice (log entry 62). -/
def State.unlocatedWrite (s : State) (head sec : Nat) : State :=
  s.frameNumbers.foldl (fun t f =>
    let fr := t.frame f
    if fr.inDir && fr.addr.any (fun a => a.head == head && a.sec == sec) then t.writtenWithoutGood f else t) s

/-- The running delivery job of frame `f` has ended: a capture held for it is applied (R120, R138), and an abandonment is over. -/
def State.applyHeld (s : State) (f : Nat) : State :=
  let t := if s.monitor.abandonedFor = some f then { s with monitor := { s.monitor with abandonedFor := none } } else s
  if t.monitor.heldFor = some f then
    let u := { t with monitor := t.monitor.unheld t.peerTenure }
    if t.monitor.verdict = some .good then u.takeWords f (t.monitor.data.take Config.sectorWords) else u.invalidate f
  else t

/-- A held capture is abandoned because another capture begins: the frame stays STALE; a pinned one enters the refresh set, another
retires (R120). -/
def State.abandonHeld (s : State) : State :=
  match s.monitor.heldFor with
  | none => s
  | some f =>
    let t := { s with monitor := { s.monitor with heldFor := none, abandonedFor := some f } }
    if (t.frame f).pinned then t.enterRefresh f else t.release f

/-! ### Changes to the whole cache (R122) -/

/-- Every frame that meets the test is acted on, in frame-number order. -/
def State.overFrames (s : State) (p : Frame → Bool) (act : State → Nat → State) : State :=
  s.frameNumbers.foldl (fun t f => if p (t.frame f) then act t f else t) s

/-- Every frame that meets the test is released. -/
def State.releaseAll (s : State) (p : Frame → Bool) : State := s.overFrames p State.release

/-- Free unpinned frames: every VALID frame that is unpinned (R122). -/
def State.freeUnpinned (s : State) : State := s.releaseAll (fun fr => fr.state == .valid && !fr.pinned)

/-- Free all frames: every VALID and STALE frame (R122). -/
def State.freeAllFrames (s : State) : State := s.releaseAll (fun fr => fr.state == .valid || fr.state == .stale)

/-- Free the frames of the zones that `turned` says (R122, R170). -/
def State.freeZoneFrames (s : State) (turned : Nat → Bool) : State :=
  s.overFrames (fun fr => (fr.state == .valid || fr.state == .stale)
    && fr.addr.any (fun a => turned (a.cyl / Config.zoneCylinders))) State.releaseTurned

/-- Every STALE pinned frame re-enters the refresh set, oldest first by LRU order (R118, R155). A frame that is in the set gives up the
place that it kept until now (R163) and takes its new one, entered now (log entry 53). -/
def State.reenterStale (s : State) : State :=
  s.cache.lru.foldl (fun t f =>
    let fr := t.frame f
    if fr.state == .stale && fr.pinned then (t.leaveRefresh f).enterRefresh f else t) s

end Sys2Proof.Machine
end

