-- ==== Sys2Proof/Machine/Requests.lean ====
section
/-! DEFINITION. Held requests from acceptance to posting (chapter 3): hazard ordering, the completion record, finishing, posting, and
the consultation of the cache. -/

namespace Sys2Proof.Machine

/-! ### Hazard ordering (R59) -/

/-- The two requests are members of one chain (R149). -/
def Request.sameChain (o r : Request) : Bool := o.chain.isSome && o.chain == r.chain

/-- The older request `o` blocks `r`: they overlap and either writes (R59). -/
def Request.blocks (o r : Request) : Bool :=
  decide (o.id < r.id) && o.kind.isDrive && r.kind.isDrive && !o.sameChain r && o.addr.cyl == r.addr.cyl
    && o.hazard.any r.hazard.contains && (!o.hazardWritten.isEmpty || !r.hazardWritten.isEmpty)

/-- The request is blocked (R59). -/
def State.blocked (s : State) (r : Request) : Bool := s.queue.held.any (·.blocks r)

/-! ### Sectors done (R69) -/

/-- A source joined to a request's source: the first sector sets it, another way makes it MIXED (R69). -/
def joinSource (old : Option Source) (new : Source) : Option Source :=
  match old with
  | none => some new
  | some x => if x = new then some new else some .mixed

/-- A sector becomes done (R69); a held PIN's promise of its pin falls (R117). -/
def Request.markDone (r : Request) (idx : Nat) (src : Source) : Request :=
  if r.done.contains idx then r
  else { r with done := r.done ++ [idx], source := joinSource r.source src, promised := r.promised.filter (· != idx) }

/-! ### The completion record (R67 to R69) -/

/-- The outcome is a success (R68). -/
def ReqOutcome.isSuccess : ReqOutcome → Bool
  | .done | .doneRetried | .skipped | .empty => true
  | _ => false

/-- The outcome is a failure of a held request (R68); NO-CARTRIDGE is one for a request that was held. -/
def ReqOutcome.isFailure : ReqOutcome → Bool
  | .dataError | .noHeader | .seekFault | .writeProtected | .markedBad | .verifyFailed | .memoryError | .expired
  | .cancelled | .chainAborted | .cartridgeRemoved | .noCartridge => true
  | _ => false

/-- A sector address as a word, laid out as word 1 of the request block (section 11.6). -/
def SectorAddr.word (a : SectorAddr) : Word :=
  BitVec.ofNat 9 a.cyl ++ (BitVec.ofNat 2 a.head ++ BitVec.ofNat 5 a.sec)

/-- The first sector not yet done, which a request ended before or without reaching the drive reports (R68). -/
def Request.firstUndone (r : Request) : SectorAddr := sectorAt r.addr.cyl (r.undone.headD r.addr.index)

/-- LATE for a finish at `now` with the outcome (R84). -/
def Request.isLate (r : Request) (now : Clock) (o : ReqOutcome) : Bool :=
  r.explicit && r.due.any (clockAfter now) && o != .expired && o != .cancelled

/-- Word B of a failure: the slack at start, or for a request never started the due time less the finish time (R68). -/
def Request.failSlack (r : Request) (now : Clock) : Word :=
  clampWord (r.slack.getD (clockDiff (r.due.getD now) now))

/-- The source a record carries (R69). -/
def Request.recordSource (r : Request) : Source :=
  match r.kind with
  | .read | .check | .pin => r.source.getD .disk
  | _ => .disk

/-- The completion record of a held request that enters FINISHED at `now`, but for words A and B of a failure (R67, R68, R69). -/
def Request.record (r : Request) (now : Clock) (o : ReqOutcome) (a b : Word) : Completion :=
  { tag := r.tag, kindCode := r.kind.code, outcome := o, late := r.isLate now o, written := r.written && o.isSuccess
    flags := if o.isSuccess then r.flags else CondFlags.clear
    source := r.recordSource, sectors := r.done.length, wordA := a, wordB := b, time := now.extractLsb' 0 16 }

/-- Words A and B, with the state after any free value drawn (R68; log entry 8 for a REPORT or CONFIGURE that fails). -/
def State.failureWords (s : State) (r : Request) (o : ReqOutcome) : Word × Word × State :=
  if o.isFailure then
    if r.kind.isDrive then ((r.failAt.getD r.firstUndone).word, r.failSlack s.clock, s)
    else
      let (a, t) := s.drawWord
      let (b, u) := t.drawWord
      (a, b, u)
  else if r.kind = .update && o != .skipped && o.isSuccess then (r.oldWord, r.newWord, s)
  else (0, 0, s)

/-! ### Finishing (R53, R54) -/

/-- The held request enters FINISHED with the outcome: its record is fixed and waits to be posted, its jobs and allocations leave,
its STAGED and unread frames become FREE, its reservation is returned, and the LATE counter takes it (R54, R85). -/
def State.finish (s : State) (id : Nat) (o : ReqOutcome) : State :=
  match s.request id with
  | none => s
  | some r =>
    if r.state = .finished then s
    else
      let (a, b, t) := s.failureWords r o
      let rec' := r.record s.clock o a b
      let u := (((t.dropJobs id).dropWaits id).releaseOwned id).modify id
        (fun q => { q with state := .finished, reserved := 0, promised := [], outcome := some o })
      let v := { u with queue := { u.queue with finished := u.queue.finished ++ [(id, rec')] } }
      if rec'.late || o == .expired then v.countLate else v

/-- The requests enter FINISHED in turn, each with its outcome. -/
def State.finishAll (s : State) (l : List (Nat × ReqOutcome)) : State := l.foldl (fun t p => t.finish p.1 p.2) s

/-- A request's outcome is fixed: it enters DELIVERING while delivery jobs of its own remain, and FINISHED otherwise. A success whose
delivery the memory has refused becomes MEMORY-ERROR (R54, R100). The flags it reports are the update unit's, for an UPDATE or a
chain member (R67, R151). -/
def State.endRequest (s : State) (id : Nat) (o : ReqOutcome) (at? : Option SectorAddr) : State :=
  match s.request id with
  | none => s
  | some r =>
    let refused := if o.isSuccess then r.refusedAt else none
    let o' := if refused.isSome then .memoryError else o
    let at' := match refused with
      | some i => some (sectorAt r.addr.cyl i)
      | none => at?
    let flags := if r.kind = .update || r.chain.isSome then s.unit.flags else CondFlags.clear
    let t := s.modify id (fun q => { q with outcome := some o', failAt := at', flags := flags })
    if t.delivering id then
      ((t.dropWaits id).releaseOwned id).modify id (fun q => { q with state := .delivering })
    else t.finish id o'

/-- A delivery job of the request has ended or was dropped: in DELIVERING it enters FINISHED with its last one (R54). -/
def State.deliveryEnded (s : State) (id : Nat) : State :=
  match s.request id with
  | none => s
  | some r =>
    if r.state = .delivering && !s.delivering id then s.finish id (r.outcome.getD .done) else s

/-! ### The consultation of the cache (R79, R110, R111) -/

/-- The request is one that the cache is consulted for: a READ without BYPASS or a PIN in WAITING, not blocked, not a chain member
(R79). -/
def State.consults (s : State) (r : Request) : Bool :=
  r.state == .waiting && r.chain.isNone && (r.kind == .pin || (r.kind == .read && !r.bypass)) && !s.blocked r

/-- A hit on frame `f` for a sector of a READ or PIN (R110, R111). -/
def State.hit (s : State) (r : Request) (idx f : Nat) : State :=
  let t := (s.modify r.id (fun q => (q.markDone idx .cache).useReserved)).touch f
  if r.kind = .pin then t.setFrame f { t.frame f with pinned := true } else t.queueDelivery r idx f

/-- The sectors of the request that VALID directory frames hold are taken as done (R110, R111), in index order (R43; for a PIN log entry
58). -/
def State.takeHits (s : State) (r : Request) : State :=
  r.undone.foldl (fun t idx =>
    match t.validFrame (sectorAt r.addr.cyl idx) with
    | some f => t.hit r idx f
    | none => t) s

/-- No sector of the request is left to do. -/
def State.allDone (s : State) (id : Nat) : Bool := (s.request id).any (·.undone.isEmpty)

/-- The cache is consulted for a request; one left with no sector to do completes at once (R53, R79). -/
def State.consult (s : State) (id : Nat) : State :=
  match s.request id with
  | none => s
  | some r =>
    if s.consults r then
      let t := s.takeHits r
      if t.allDone id then t.endRequest id .done none else t
    else s

/-- The cache is consulted for every request of R79. R79, R110 and R178 give the requests consulted at one moment no order: that they are
taken in order of acceptance, which orders their delivery jobs and the moves of the LRU order, is the model's choice (log entry 58). -/
def State.consultAll (s : State) : State := (s.queue.held.map (·.id)).foldl (fun t id => t.consult id) s

/-! ### Posting (R55) -/

/-- The record may be posted before the others of its chain: no earlier member is still held (R55). -/
def State.postable (s : State) (id : Nat) : Bool :=
  match s.request id with
  | none => true
  | some r => !s.queue.held.any (fun o => o.sameChain r && decide (o.id < r.id))

/-- A finished request is waiting for a FIFO place (R47, R55). -/
def State.finishedWaiting (s : State) : Bool := s.queue.finished.any (fun p => s.postable p.1)

/-- The ids of the blocked requests. -/
def State.blockedIds (s : State) : List Nat := (s.queue.held.filter s.blocked).map (·.id)

/-- The record of the finished request `id` enters the FIFO: its slot and tag are free, the blocks it exerted end, and each request
whose block has lifted is taken up (R55, R59, R60), several in order of acceptance (log entry 58). That
the cache is consulted for the requests concerned alone is the model's choice (R79, log entry 70). -/
def State.postRecord (s : State) (id : Nat) (c : Completion) : State :=
  let t := { s with
    port := { s.port with fifo := s.port.fifo ++ [c] }
    queue := { s.queue with held := s.queue.held.filter (fun r => r.id != id)
                            finished := s.queue.finished.filter (fun p => p.1 != id) } }
  (s.blockedIds.filter (fun i => !t.blockedIds.contains i)).foldl (fun u i => u.consult i) t

/-- Records are posted, the one that entered FINISHED first before the others, while the FIFO has a place; at most `fuel` of them. -/
def State.postUpTo (s : State) : Nat → State
  | 0 => s
  | fuel + 1 =>
    if s.port.fifo.length < Config.fifoPlaces then
      match s.queue.finished.find? (fun p => s.postable p.1) with
      | none => s
      | some p => (s.postRecord p.1 p.2).postUpTo fuel
    else s

/-- Every finished request that a free FIFO place is there for is posted (R55). -/
def State.post (s : State) : State := s.postUpTo (s.queue.held.length + s.queue.finished.length)

/-- A record placed in the FIFO at processing: a refusal or an immediate completion (R47, R174). -/
def State.place (s : State) (c : Completion) : State := { s with port := { s.port with fifo := s.port.fifo ++ [c] } }

/-- The records that entered FINISHED from the `n`th on are put in the order of acceptance, as those of one event are (R55). -/
def State.orderFinished (s : State) (n : Nat) : State :=
  { s with queue := { s.queue with
      finished := s.queue.finished.take n ++ (s.queue.finished.drop n).insertionSort (fun p q => p.1 ≤ q.1) } }

/-! ### Staging and chains (R53, R56) -/

/-- The held members of the request's chain, or the request alone, in order of acceptance. -/
def State.group (s : State) (r : Request) : List Request :=
  match r.chain with
  | none => [r]
  | some c => s.queue.held.filter (fun o => o.chain == some c)

/-- The ids of `group`. -/
def State.groupIds (s : State) (r : Request) : List Nat := (s.group r).map (·.id)

/-- The staged members of a chain open at the intake (R56). -/
def State.stagedMembers (s : State) : List Request := s.queue.held.filter (fun r => r.state == .pendingChain)

/-- A staging job of the request has ended: with the last one, the request or its whole chain enters WAITING (R53, R56).
That no cache is consulted for the others in WAITING at this entry is the model's choice (R79, log entry 70). -/
def State.stagingEnded (s : State) (id : Nat) : State :=
  match s.request id with
  | none => s
  | some r =>
    if r.state = .staging && !(s.groupIds r).any s.stagingOpen then
      (s.groupIds r).foldl (fun t i => t.modify i (fun q => { q with state := .waiting })) s
    else s

end Sys2Proof.Machine
end

