-- ==== Sys2Proof/Machine/Sched.lean ====
section
/-! DEFINITION. The scheduler (chapter 4): cost and slack, urgency, candidates, selection, expiry. -/

namespace Sys2Proof.Machine

/-! ### Cost and slack (R72 to R77) -/

/-- The seek estimate T (R74). -/
def seekEstimate (arm : Option (Fin 400)) (c : Nat) : Nat :=
  match arm with
  | none => 55
  | some a =>
    let d := if c < a.val then a.val - c else c - a.val
    if d = 0 then 0 else 5 + (d + 7) / 8

/-- The rotational wait W: from the arrival sector q = (p + 1 + T) mod 20 to the sector s mod 20 (R75). -/
def rotationalWait (p t s : Nat) : Nat :=
  let q := (p + 1 + t) % 20
  (s % 20 + 20 - q) % 20

/-- The transfer time X of a request with span n (R76). -/
def transferTime (k : Kind) (op : UpdateOp) (n : Nat) : Nat :=
  match k with
  | .writeVerify => n + 20 * ((n + 19) / 20)
  | .update => if op = .test then 1 else 21
  | _ => n

/-- The first index of a request's remaining work (R73). -/
def Request.firstIndex (r : Request) : Nat := r.undone.headD r.addr.index

/-- The span of a request's remaining work (R73). -/
def Request.span (r : Request) : Nat :=
  match r.undone.getLast? with
  | none => 0
  | some l => l + 1 - r.firstIndex

/-- The cost K of work on cylinder `c` from index `i` with transfer time `x` (R77). -/
def State.cost (s : State) (c i x : Nat) : Nat :=
  let t := seekEstimate s.monitor.arm c
  t + rotationalWait s.pins.snum.toNat t i + x

/-- The cost of a request (R77). -/
def State.requestCost (s : State) (r : Request) : Nat :=
  s.cost r.addr.cyl r.firstIndex (transferTime r.kind r.op r.span)

/-- The slack S = (D − now) − K (R77). -/
def State.requestSlack (s : State) (r : Request) : Int :=
  clockDiff (r.due.getD s.clock) s.clock - (s.requestCost r : Int)

/-- The urgency of a slack (R78). -/
def urgencyOf (slack : Int) : Nat := if slack ≤ 25 then 3 else if slack ≤ 100 then 2 else 1

/-! ### Candidates (R79, R80) -/

/-- A candidate as the selection rule sees it. Refresh and label candidates have no slack (R80). -/
structure Candidate where
  work    : Work
  slack   : Option Int
  cost    : Nat
  age     : Clock
  urgency : Nat
  deriving DecidableEq, Repr

/-- The request is a candidate, the cartridge state apart (R79). -/
def State.isCandidate (s : State) (r : Request) : Bool :=
  r.kind.isDrive && r.state == .waiting && (r.chain.isNone || r.chain == some r.id) && !s.blocked r && !r.undone.isEmpty

/-- A request as a candidate. -/
def State.requestCandidate (s : State) (r : Request) : Candidate :=
  { work := .request r.id, slack := some (s.requestSlack r), cost := s.requestCost r, age := r.accepted,
    urgency := urgencyOf (s.requestSlack r) }

/-- A held request of this station writes the sector (R80). -/
def State.writeHeld (s : State) (a : SectorAddr) : Bool :=
  s.queue.held.any (fun r => r.kind.isDrive && r.addr.cyl == a.cyl && r.hazardWritten.contains a.index)

/-- The refresh candidate of an entry of the refresh set, if it is one (R80, R118). -/
def State.refreshCandidate (s : State) (e : RefreshEntry) : Option Candidate :=
  match (s.frame e.frame).addr with
  | none => none
  | some a =>
    if s.hold e.frame == 0 && !s.writeHeld a then
      some { work := .refresh e.frame, slack := none, cost := s.cost a.cyl a.index 1, age := e.entered, urgency := 1 }
    else none

/-- The label read as a candidate (R80). -/
def State.labelCandidate (s : State) : Candidate :=
  { work := .label, slack := none, cost := s.cost 0 0 1, age := s.clock, urgency := 2 }

/-- The candidate set (R79, R80): requests in order of acceptance, then the refresh set in its order; the label read alone while
LOADING. -/
def State.candidates (s : State) : List Candidate :=
  match s.cart.state with
  | .mounted =>
    (s.queue.held.filter s.isCandidate).map s.requestCandidate ++ s.cache.refresh.filterMap s.refreshCandidate
  | .loading => if s.cache.labelReserved then [s.labelCandidate] else []
  | .absent | .unusable | .leaving | .released => []

/-- The bid urgency: the highest urgency among the candidates, 0 with none (R78). -/
def State.bidUrgency (s : State) : Nat := (s.candidates.map (·.urgency)).foldl max 0

/-! ### Selection (R81) -/

/-- The candidate takes part in step 1 of the selection: slack of 100 or less (R81). -/
def Candidate.pressing (c : Candidate) : Bool := c.slack.any (· ≤ 100)

/-- `c` comes before `d` by cost and then age (R81). -/
def Candidate.cheaper (c d : Candidate) : Bool :=
  decide (c.cost < d.cost) || (c.cost == d.cost && clockBefore c.age d.age)

/-- `c` comes before `d` in step 1: by slack, then cost, then age (R81). -/
def Candidate.tighter (c d : Candidate) : Bool :=
  let x := c.slack.getD 0
  let y := d.slack.getD 0
  decide (x < y) || (x == y && c.cheaper d)

/-- The first of the candidates that none after it comes before. -/
def pickFirst (before : Candidate → Candidate → Bool) : List Candidate → Option Candidate
  | [] => none
  | c :: cs => some (cs.foldl (fun best d => if before d best then d else best) c)

/-- The candidate the selection rule takes (R81). -/
def selectCandidate (cs : List Candidate) : Option Candidate :=
  if cs.any (·.pressing) then pickFirst Candidate.tighter (cs.filter (·.pressing))
  else pickFirst Candidate.cheaper cs

/-! ### Expiry (R83) -/

/-- The request is expired at a test (R83). A chain's members carry the first member's deadline and options. -/
def State.expires (s : State) (r : Request) : Bool :=
  r.kind.isDrive && r.dropIfLate && r.explicit && r.state == .waiting && !s.delivering r.id
    && r.due.any (fun d => !clockBefore s.clock d)

/-- The expiry test: every expired request enters FINISHED with EXPIRED, and records are posted (R83). -/
def State.expire (s : State) : State :=
  (s.finishAll ((s.queue.held.filter s.expires).map (fun r => (r.id, ReqOutcome.expired)))).post

/-- What precedes every evaluation at a gap completion or a selection point: expiry, then the consultation of the cache (R26, R79,
R82). R82 orders the two at a selection point; R26, R79 and R83 do not at a gap completion, where the same order is the model's choice
(log entry 65). -/
def State.prepare (s : State) : State := s.expire.consultAll.post.tidy

end Sys2Proof.Machine
end

