-- ==== Sys2Proof/Machine/Line.lean ====
section
/-! DEFINITION. The line access unit (chapter 2): when a station has drive work, how a round is joined, left and lost, the release of
the line, the yield call. -/

namespace Sys2Proof.Machine

/-- The cartridge state permits drive work (R24). -/
def CartState.permits (c : CartState) : Bool := c == .loading || c == .mounted

/-- The station has drive work and a cartridge state that permits it (R24). -/
def State.hasWork (s : State) : Bool := decide (1 ≤ s.bidUrgency) && s.cart.state.permits

/-- The other identity. -/
def Ident.other : Ident → Ident
  | .A => .B
  | .B => .A

/-- The change between IDLE and WAITING; a station that returns to IDLE drops a yield call (R24, R38). -/
def State.settleAccess (s : State) : State :=
  match s.access.state with
  | .idle => if s.hasWork then { s with access := { s.access with state := .waiting } } else s
  | .waiting =>
    if s.hasWork then s
    else { s with access := { s.access with state := .idle }, lines := { s.lines with call := false } }
  | .off | .bidding | .checking | .holding | .backoff => s

/-- The station stops driving HOLD, CALL and the marks (R25, R27, R29). -/
def State.dropRound (s : State) : State :=
  { s with lines := { s.lines with hold := false, call := false, mark1 := false, mark2 := false } }

/-- The state that follows a withdrawal, a backoff or a release: WAITING with drive work, IDLE without (R24, R30, R37). -/
def State.restingState (s : State) : AccessState := if s.hasWork then .waiting else .idle

/-- A bidder withdraws: it drops CALL and its marks and leaves for WAITING (R27, R28). -/
def State.withdraw (s : State) : State :=
  let t := s.dropRound
  State.settleAccess { t with access := { t.access with state := .waiting } }

/-- A holding of HOLD that the station did not see begin is taken as unidentified; the arm cylinder becomes UNKNOWN (R33, R125). -/
def State.takeUnidentified (s : State) : State :=
  { s with access := { s.access with peerHolding := some .unidentified, lineHeldRaised := false }
           monitor := { s.monitor with arm := none } }

/-- The peer's HOLD stands asserted where the station's own count places no identity check and its own tenure does not run, and no
holding has been taken for it (R33). -/
def State.holdUntaken (s : State) : Bool :=
  s.pins.hold && s.pins.pres && s.access.peerHolding.isNone && s.access.round != some .check &&
    (match s.access.state with
     | .idle | .waiting | .backoff => true
     | .off | .bidding | .checking | .holding => false)

/-- A station that looks at HOLD and finds it so takes an unidentified holding: at its own release, and at the next moment after a
collision (R33; log entry 56). -/
def State.findHold (s : State) : State := if s.holdUntaken then s.takeUnidentified else s

/-- The holder releases the line: gates closed, HOLD deasserted, drivers at high impedance, the gap restarted (R25, R37); a HOLD that
the peer drives then stands alone (R33). -/
def State.releaseLine (s : State) : State :=
  State.findHold { s with
    lines := { s.lines with hold := false, call := false, mark1 := false, mark2 := false }
    drive := { s.drive with enabled := false, cyl := 0, hsel := false, rdg := false, wrg := false }
    access := { s.access with state := s.restingState, round := none } }

/-- The yield call: WAITING, urgency 3, a peer tenure that was observed to begin (R38). -/
def State.callIfUrgent (s : State) : State :=
  if s.access.state = .waiting && s.peerTenure && s.bidUrgency == 3 then { s with lines := { s.lines with call := true } } else s

/-- The identity's mark of the peer, beyond the station's own drive (R29, R31). -/
def State.peerMark (s : State) (mark1 mark2 : Bool) : Bool :=
  match s.identity with
  | .A => mark2
  | .B => mark1

/-- The station's own identity mark, beyond its own drive (R31). -/
def State.ownMark (s : State) (mark1 mark2 : Bool) : Bool :=
  match s.identity with
  | .A => mark1
  | .B => mark2

/-- The backoff in µs for the count k at the identity (R30). -/
def backoffLength (i : Ident) (k : Nat) : Nat :=
  match i with
  | .A => 250 * 2 ^ (k - 1)
  | .B => 500 * 2 ^ (k - 1)

/-- A change of the peer's PRES as the line access unit takes it: turn mark A, gap restarted, a round of its own abandoned (R21,
R25). -/
def State.presChanged (s : State) : State :=
  let t := { s with access := { s.access with turn := .A, round := none } }
  match t.access.state with
  | .bidding | .checking => t.withdraw
  | .off | .idle | .waiting | .holding | .backoff => t

/-- The monitor is told that an observed peer tenure starts (R125). -/
def Monitor.tenureBegins (m : Monitor) : Monitor := { m with state := if m.state = .idle then .watching else m.state }

/-- A peer tenure is observed to begin (R31). -/
def State.peerTenureBegins (s : State) : State :=
  { s with access := { s.access with turn := s.identity, peerHolding := some .observed, lineHeldRaised := false }
           monitor := s.monitor.tenureBegins }

/-- The release conditions of R36 against the candidate that the selection would take. -/
def State.mustRelease (s : State) (c : Candidate) : Bool :=
  decide ((Config.tenureBudget : Int) ≤ clockDiff s.clock s.access.tenureStart)
    || (s.pins.pres && s.pins.call && decide (c.urgency < 3))
    || !s.cart.state.permits

end Sys2Proof.Machine
end

