-- ==== Sys2Proof/Machine/Cartridge.lean ====
section
/-! DEFINITION. Cartridge control (chapter 9): the drain, the label verdict, release, cancel and loss of ready. -/

namespace Sys2Proof.Machine

/-- The queued staging jobs of a request leave the list, and one in progress stops (R157). -/
def State.dropStaging (s : State) (id : Nat) : State :=
  { s with port := { s.port with
      jobs := s.port.jobs.filter (fun j => !(j.isFor id && j.isStaging))
      running := s.port.running.filter (fun j => !(j.isFor id && j.isStaging)) } }

/-- One drive request meets the drain (R157, R158). -/
def State.drainOne (s : State) (o : ReqOutcome) (id : Nat) : State :=
  match s.request id with
  | none => s
  | some r =>
    match r.state with
    | .staging | .waiting =>
      if r.kind.isDrive then
        ((((s.dropStaging id).dropWaits id).releaseOwned id).modify id (fun q => { q with reserved := 0 })).endRequest id o none
      else s
    | .pendingChain =>
      (((s.dropStaging id).dropWaits id).releaseOwned id).modify id
        (fun q => { q with reserved := 0, mark := some (q.mark.getD o) })
    | .running | .delivering | .finished => s

/-- The drain with outcome O: the cache is consulted, then every drive request in STAGING or WAITING is ended and every member of an
open chain is marked (R157, R158). The records stand in the order of R55. -/
def State.drain (s : State) (o : ReqOutcome) : State :=
  let t := s.consultAll
  ((t.queue.held.map (·.id)).foldl (fun u id => u.drainOne o id) t).orderFinished s.queue.finished.length

/-- An accepted label's order to the cache (R155). -/
def State.remount (s : State) (serial : BitVec 32) : State :=
  let t := if s.cart.lastSerial = some serial then s.freeUnpinned.reenterStale else s.freeAllFrames
  { t with cart := { t.cart with lastSerial := some serial } }

/-- A label accepted (R155), or in LEAVING and RELEASED applied to the recorded state (R161). -/
def State.labelAccepted (s : State) (serial : BitVec 32) : State :=
  match s.cart.state with
  | .loading =>
    let t := s.remount serial
    State.raise { t with cart := { t.cart with state := .mounted } } .cartridgeReady
  | .leaving | .released =>
    let t := s.remount serial
    { t with cart := { t.cart with recorded := some .mounted } }
  | .absent | .mounted | .unusable => s

/-- UNUSABLE entered with its announcement and its drain (R156, R162). -/
def State.enterUnusable (s : State) : State :=
  (State.raise { s with cart := { s.cart with state := .unusable } } .cartridgeRejected).drain .noCartridge

/-- A label rejected (R156), or in LEAVING and RELEASED applied to the recorded state (R161). -/
def State.labelRejected (s : State) : State :=
  match s.cart.state with
  | .loading => State.enterUnusable { s with cart := { s.cart with lastSerial := none } }
  | .leaving | .released =>
    { s with cart := { s.cart with lastSerial := none, recorded := some .unusable, rejectionOwed := true } }
  | .absent | .mounted | .unusable => s

/-- The verdict on a label read: the words of a good read, or none when the read failed (R8). -/
def State.labelVerdict (s : State) (ws : Option (List Word)) : State :=
  match ws.bind labelSerial with
  | some serial => s.labelAccepted serial
  | none => s.labelRejected

/-- The release timer is started to run out 30,000 ms from now (R159). -/
def State.startTimer (s : State) : State :=
  { s with cart := { s.cart with timer := some (s.clock + BitVec.ofNat 32 Config.releaseDelay) } }

/-- LEAVING entered from the state recorded (R153, R159). -/
def State.enterLeaving (s : State) (from_ : Recorded) : State :=
  State.raise (State.startTimer { s with cart := { s.cart with state := .leaving, recorded := some from_ } }) .cartridgeLeaving

/-- RELEASED entered: the timer stopped, CREL asserted (R22, R160). -/
def State.enterReleased (s : State) : State :=
  { s with cart := { s.cart with state := .released, timer := none }, lines := { s.lines with crel := true } }

/-- The state that a recorded state stands for. -/
def Recorded.state : Recorded → CartState
  | .loading => .loading
  | .mounted => .mounted
  | .unusable => .unusable

/-- The unload is cancelled: the timer stopped, CREL deasserted, the recorded state entered (R162). -/
def State.cancelUnload (s : State) (r : Recorded) : State :=
  let t := { s with cart := { s.cart with timer := none, recorded := none, state := r.state }
                    lines := { s.lines with crel := false } }
  match r with
  | .mounted => t.raise .cartridgeReady
  | .loading => t
  | .unusable =>
    if s.cart.rejectionOwed then State.enterUnusable { t with cart := { t.cart with rejectionOwed := false } } else t

/-- LOADING entered with the label reservation (R107, R153, R154). -/
def State.enterLoading (s : State) : State :=
  { s with cart := { s.cart with state := .loading }, cache := { s.cache with labelReserved := true } }

/-- ABSENT entered at the fall of RDY, the drain apart (R163). -/
def State.enterAbsent (s : State) : State :=
  State.raise
    { s with
      cart := { s.cart with state := .absent, timer := none, recorded := none, rejectionOwed := false }
      lines := { s.lines with crel := false }
      cache := { s.cache with labelReserved := false }
      monitor := { s.monitor with arm := none } } .cartridgeGone

end Sys2Proof.Machine
end

