-- ==== Sys2Proof/Machine/Sequencer.lean ====
section
/-! DEFINITION. The transfer sequencer (chapter 5) and the selection point that starts its work (R82): positioning, passes and visits,
reading, writing, the update, the end of work, chains (chapter 8). -/

namespace Sys2Proof.Machine

/-! ### Gates and motions -/

/-- The gates closed (R87). -/
def State.closeGates (s : State) : State := { s with drive := { s.drive with rdg := false, wrg := false } }

/-- The gates closed, and the head and cylinder lines at their inactive levels (R35, R87, R101). -/
def State.lineInactive (s : State) : State :=
  { s with drive := { s.drive with rdg := false, wrg := false, hsel := false, cyl := 0 } }

/-- The sequencer's record changed. -/
def State.mapSeq (s : State) (f : Sequencer → Sequencer) : State := { s with seq := f s.seq }

/-- The sequencer in IDLE, driving no command line, its retry record discarded (R87, R88). -/
def State.seqIdle (s : State) : State := { s.lineInactive with seq := Sequencer.idle }

/-- One retry counted (R98). -/
def State.retryCounted (s : State) : State := (s.mapSeq (fun q => { q with retried := true })).countRetry

/-- SEEK strobed with the work's cylinder on CYL; the arm cylinder is set at the strobe, and the drive deasserts SKC and SKF (R9,
R89). The spec does not say how long CYL keeps the cylinder after the strobe: that it keeps it until the work ends is the model's
choice, and so it is for HSEL between visits (log entry 61). -/
def State.strobeSeek (s : State) : State :=
  { s with
    drive := { s.drive with cyl := BitVec.ofNat 9 s.seq.cyl }
    pins := { s.pins with skc := false, skf := false }
    monitor := { s.monitor with arm := armOf s.seq.cyl }
    seq := { s.seq with state := .seeking, strobed := true } }

/-- SEEKING entered: the strobe at once when SKC or SKF is asserted, else the wait for a motion under way (R89). -/
def State.beginSeek (s : State) : State :=
  let t := s.closeGates.mapSeq (fun q => { q with state := .seeking, strobed := false, visit := none, pass := [] })
  if t.pins.skc || t.pins.skf then t.strobeSeek else t

/-- A recalibrate strobed: one retry, the arm cylinder 0, the pass broken off (R90, R92, R93). -/
def State.recalibrate (s : State) : State :=
  let t := s.closeGates.mapSeq (fun q => { q with state := .recalibrating, strobed := false, visit := none, pass := [] })
  ({ t with pins := { t.pins with skc := false, skf := false }, monitor := { t.monitor with arm := some 0 } }).retryCounted

/-- SEARCHING with no visit in progress: the gates closed, the next slot awaited (R91). -/
def State.search (s : State) : State :=
  s.closeGates.mapSeq (fun q => { q with state := .searching, visit := none })

/-- The start of work's positioning: none when the arm is on the cylinder (R89). -/
def State.position (s : State) : State :=
  if s.monitor.arm.isSome && s.monitor.arm == armOf s.seq.cyl then s.search
  else (s.mapSeq (fun q => { q with recovered := false })).beginSeek

/-! ### The retry record -/

/-- A sector's record at the start of work (R88). -/
def SectorRec.start (p : Purpose) (idx : Nat) : SectorRec :=
  { idx := idx, purpose := p, misses := 0, headerRecovery := false, attempts := 0, rewrites := 0, again := false }

/-- The record of a sector. -/
def Sequencer.recOf (q : Sequencer) (idx : Nat) : SectorRec :=
  (q.recs.find? (·.idx == idx)).getD (SectorRec.start .read idx)

/-- The record of a sector changed. -/
def Sequencer.setRec (q : Sequencer) (idx : Nat) (f : SectorRec → SectorRec) : Sequencer :=
  { q with recs := q.recs.map (fun r => if r.idx == idx then f r else r) }

/-- The pending sectors, in ascending index order (R91). -/
def Sequencer.pendingIdx (q : Sequencer) : List Nat := (q.recs.filter (·.purpose != .done)).map (·.idx)

/-- The sector where work that is between visits fails: the visit in progress, or the lowest pending sector (R90, R101). -/
def Sequencer.failIdx (q : Sequencer) : Nat := q.visit.getD (q.pendingIdx.headD 0)

/-- The address of a sector of the work. -/
def Sequencer.sectorAddr (q : Sequencer) (idx : Nat) : SectorAddr := sectorAt q.cyl idx

/-! ### The start of work (R82, R89, R112, R115, R144) -/

/-- The purpose with which a request's sectors begin (R91). -/
def Kind.purpose (k : Kind) : Purpose := if k.isWrite then .write else .read

/-- The sectors for which a request's start allocates FILLING frames: each pending one for a READ or PIN, one for a CHECK or UPDATE,
none for a write, whose frames are STAGED (R112, R115). -/
def Request.fillIdx (r : Request) : List Nat :=
  match r.kind with
  | .read | .pin => r.undone
  | .check | .update => r.undone.take 1
  | _ => []

/-- A request, or a chain's member, is started on the sequencer: a new retry record, its frames allocated, the arm positioned (R89,
R112, R115, R144). -/
def State.startMember (s : State) (r : Request) : State :=
  let t := { s with seq := { Sequencer.idle with
    work := some (.request r.id), cyl := r.addr.cyl, recs := r.undone.map (SectorRec.start r.kind.purpose) } }
  (r.fillIdx.foldl (fun u i => u.allocOrWait { req := some r.id, idx := i, staged := false }) t).position

/-- The work the scheduler named is started (R82). A request's slack is recorded for every member of its chain, and the condition
flags are cleared (R139, R144). A refresh reads into its frame (R118); the label read takes its reserved frame (R107, R115). -/
def State.startWork (s : State) (c : Candidate) : State :=
  match c.work with
  | .request id =>
    match s.request id with
    | none => s
    | some r =>
      let t := (s.groupIds r).foldl (fun u i => u.modify i (fun q => { q with state := .running, slack := c.slack })) s
      let u := { t with unit := { inProgress := none, flags := CondFlags.clear } }
      u.startMember ((u.request id).getD r)
  | .refresh f =>
    let a := (s.frame f).addr.getD labelAddr
    ({ s with seq := { Sequencer.idle with
      work := some (.refresh f), cyl := a.cyl, recs := [SectorRec.start .read a.index] } }).position
  | .label =>
    (({ s with seq := { Sequencer.idle with
      work := some .label, cyl := 0, recs := [SectorRec.start .read 0] } }).allocOrWait
        { req := none, idx := 0, staged := false }).position

/-- A selection point: expiry, the cache consulted, the candidate found, the release conditions tested, and the work started or the
line released (R36, R82). -/
def State.selectionPoint (s : State) : State :=
  let t := s.prepare
  match selectCandidate t.candidates with
  | none => t.releaseLine
  | some c => if t.mustRelease c then t.releaseLine else t.startWork c

/-! ### The end of work (R99, R144 to R148) -/

/-- The chain members after one that succeeded: each in turn is tested, skipped, or started (R144, R145). Says whether one was
started. -/
def State.runChain (s : State) : List Nat → State × Bool
  | [] => (s, false)
  | id :: ids =>
    match s.request id with
    | none => s.runChain ids
    | some r =>
      if r.cond.holds s.unit.flags then (s.startMember r, true)
      else (s.endRequest id .skipped none).runChain ids

/-- The members of the request's chain that follow it and are RUNNING. -/
def State.laterMembers (s : State) (r : Request) : List Nat :=
  if r.chain.isNone then []
  else ((s.group r).filter (fun o => decide (r.id < o.id) && o.state == .running)).map (·.id)

/-- The flags at the end of a request's drive work: a success of a member other than an UPDATE sets Z, a failure clears all (R142,
R146, R147). -/
def endFlags (r : Request) (o : ReqOutcome) (f : CondFlags) : CondFlags :=
  if o.isSuccess then (if r.chain.isSome && r.kind != .update then { f with z := true } else f) else CondFlags.clear

/-- The running request's outcome on the drive, before any record is posted: the gates closed, the flags settled, the outcome fixed
(R54, R99, R142, R146). -/
def State.requestDecided (s : State) (r : Request) (o : ReqOutcome) (at? : Option SectorAddr) : State :=
  let t := { s.seqIdle with unit := { inProgress := none, flags := endFlags r o s.unit.flags } }
  t.endRequest r.id o at?

/-- The running request fails on the drive: the later members of its chain end CHAIN-ABORTED (R147). -/
def State.requestFails (s : State) (r : Request) (o : ReqOutcome) (at_ : SectorAddr) : State :=
  (s.requestDecided r o (some at_)).finishAll ((s.laterMembers r).map (fun i => (i, ReqOutcome.chainAborted)))

/-- The running request succeeds on the drive: the later members of its chain follow. Says whether one was started (R99, R144). -/
def State.requestSucceeds (s : State) (r : Request) (o : ReqOutcome) : State × Bool :=
  let (t, started) := (s.requestDecided r o none).runChain (s.laterMembers r)
  (t.post, started)

/-- The FILLING frame lent to the label read (R115). -/
def State.labelFrame (s : State) : Option Nat :=
  s.cache.frames.findIdx? (fun fr => fr.state == .filling && fr.owner.isNone && !fr.inDir && fr.addr == some labelAddr)

/-- The frame lent to the label read becomes FREE, and an allocation of it no longer waits. -/
def State.freeLabelFrame (s : State) : State :=
  let t := { s with cache := { s.cache with waits := s.cache.waits.filter (fun w => w.req.isSome) } }
  match t.labelFrame with
  | none => t
  | some f => t.freeFrame f

/-- The sectors of a WRITE-VERIFY whose WRG has opened and that are not yet taken as written (R96, R114; log entry 12). -/
def Sequencer.unverified (q : Sequencer) : List Nat :=
  (q.recs.filter (fun r => r.purpose == .verify || (r.purpose == .write && decide (0 < r.rewrites)))).map (·.idx)

/-- The torn sectors of failed write work are settled (R114). A sector refused WRITE-PROTECTED leaves its directory frame as it
stands. R114 and R118 give several of them no order of entry into the refresh set; index order is the model's choice (log entry 63). -/
def State.settleFailedWrite (s : State) (o : ReqOutcome) : State :=
  let keep := if o = .writeProtected then s.seq.visit else none
  (s.seq.unverified.filter (fun i => keep != some i)).foldl (fun t i => t.torn (t.seq.sectorAddr i)) s

/-- The work in progress fails (R99): at a sector, with the fault it lists, if any. The label read's failure is a rejection (R8); a
refresh that fails leaves the refresh set, its frame STALE (R118). -/
def State.workFails (s : State) (o : ReqOutcome) (fault : Option (FaultAddr × FaultKind)) (at_ : SectorAddr) : State :=
  let t := match fault with
    | none => s
    | some (a, k) => s.listFault a k .own
  match t.seq.work with
  | none => t.seqIdle
  | some (.request id) =>
    match t.request id with
    | none => t.seqIdle
    | some r => (((t.settleFailedWrite o).requestFails r o at_).post.tidy).selectionPoint
  | some (.refresh f) => ((t.seqIdle.leaveRefresh f).tidy).selectionPoint
  | some .label => ((t.seqIdle.freeLabelFrame.labelVerdict none).post.tidy).selectionPoint

/-- The frame that the field in progress goes into or comes from. -/
def Sequencer.fieldFrame (q : Sequencer) : Option Nat :=
  match q.state with
  | .reading => q.frame
  | .writing => q.sending.map (·.frame)
  | .idle | .seeking | .recalibrating | .searching | .verifying | .updating => none

/-- The frame of the field in progress, while it is the running request's own: at a port reset it is settled at the end of the field
(R102, R123). A refresh and a label read own none, and an UPDATE's frame that has become VALID is the directory's: released meanwhile it
may be another request's (R109). -/
def State.fieldFrame (s : State) : Option Nat :=
  match s.seq.work with
  | some (.request id) => s.seq.fieldFrame.filter (fun f => (s.frame f).owner == some id)
  | some (.refresh _) | some .label | none => none

/-- The frame of a field waits to be settled: STAGED, or FILLING without a sector read good (R113, R114). -/
def Frame.unsettled (fr : Frame) : Bool := fr.state == .staged || (fr.state == .filling && !fr.filled)

/-- The sequencer has stopped for a port reset: the frame of the field in progress goes back unless it has been settled as written, a
label read's frame goes back to the label reservation, and the line is released (R39, R102, R114, R123). -/
def State.stopEnds (s : State) : State :=
  let t := match s.seq.work with
    | some .label =>
      let u := s.freeLabelFrame
      { u with cache := { u.cache with labelReserved := u.cache.labelReserved || u.cart.state != CartState.absent } }
    | _ =>
      match s.fieldFrame with
      | some f => if (s.frame f).unsettled then s.freeFrame f else s
      | none => s
  t.seqIdle.tidy.releaseLine

/-- No sector of the work is pending. -/
def Sequencer.noPending (q : Sequencer) : Bool := q.pendingIdx.isEmpty

/-- The request's work has succeeded (R99): DONE, or DONE-RETRIED when a retry was counted. -/
def State.workSucceeds (s : State) (r : Request) : State :=
  let o : ReqOutcome := if s.seq.retried then .doneRetried else .done
  match s.requestSucceeds r o with
  | (t, true) => t.tidy
  | (t, false) => t.tidy.selectionPoint

/-- After a sector became done: the end of the work when none is pending, else the next visit. -/
def State.continueRequest (s : State) (id : Nat) : State :=
  if s.seq.noPending then
    match s.request id with
    | none => s.seqIdle
    | some r => s.workSucceeds r
  else s.search.tidy

/-! ### Positioning and its recovery (R89, R90) -/

/-- The positioning has failed: SEEK-FAULT, listed with the cylinder alone, at the lowest sector whose visit has not succeeded (R90);
for a released refresh too (log entry 54). -/
def State.positioningFails (s : State) : State :=
  s.workFails .seekFault (some (.cylinder s.seq.cyl, .seekFault)) (s.seq.sectorAddr (s.seq.pendingIdx.headD 0))

/-- A seek of the positioning has failed: the recovery once, then the failure (R90). -/
def State.seekFails (s : State) : State :=
  if s.seq.recovered then s.positioningFails
  else (s.mapSeq (fun q => { q with recovered := true })).recalibrate

/-- The arm cylinder becomes UNKNOWN. -/
def State.armUnknown (s : State) : State := { s with monitor := { s.monitor with arm := none } }

/-! ### Headers (R92, R93) -/

/-- The refresh in progress reads into a frame that was released under it: retired by the change of its zone (R170, log entry 14), or
FREE, or another request's by now (R64, R116). Its result is not used; it goes on to the end of the visit in progress, or of its next
visit or a positioning that fails (R170; log entry 54). -/
def State.refreshVoid (s : State) : Bool :=
  match s.seq.work with
  | some (.refresh f) => !(s.frame f).inDir
  | some (.request _) | some .label | none => false

/-- The refresh of a released frame ends: a frame that was retired under it becomes FREE (R116, R170); one that was FREE at once is left
as it stands, since it may be another request's by now. -/
def State.endVoidRefresh (s : State) : State := (s.seqIdle.tidy).selectionPoint

/-- A header miss of the visited sector (R92): NO-HEADER at the fourth, the header recovery at the second, else the pass goes on. -/
def State.headerMiss (s : State) (idx : Nat) : State :=
  let m := (s.seq.recOf idx).misses + 1
  let used := (s.seq.recOf idx).headerRecovery
  let t := s.mapSeq (fun q => q.setRec idx (fun r => { r with misses := m, again := true }))
  if 4 ≤ m then
    t.workFails .noHeader (some (.sector (t.seq.sectorAddr idx), .noHeader)) (t.seq.sectorAddr idx)
  else if 2 ≤ m && !used then
    ((t.mapSeq (fun q => { q.setRec idx (fun r => { r with headerRecovery := true }) with recovered := false })).recalibrate)
  else t.search

/-- A good header of another cylinder (R93): the arm cylinder is corrected; the recovery once in a work, then a header miss. A cylinder
outside 0–399 leaves a free value (log entry 9). -/
def State.misPosition (s : State) (idx c : Nat) : State :=
  let arm := if c < Config.cylinders then armOf c else Config.armOutOfRange c
  let t := { s with monitor := { s.monitor with arm := arm } }
  if t.seq.misUsed then t.headerMiss idx
  else (t.mapSeq (fun q => { q with misUsed := true, recovered := false })).recalibrate

/-- The patch an UPDATE's write makes: its offset and the new word (R97). -/
def State.updatePatch (s : State) (id : Nat) : Option (Nat × Word) :=
  match s.request id with
  | none => none
  | some r => if r.kind = .update then some (r.offset, r.newWord) else none

/-- A WRITE visit with a matching header (R95): refused WRITE-PROTECTED, or WRG opened in the splice gap. -/
def State.openWrite (s : State) (idx : Nat) : State :=
  let a := s.seq.sectorAddr idx
  if s.zones.refusesWrite a || s.pins.wpt then s.workFails .writeProtected none a
  else
    let patch := match s.seq.work with
      | some (.request id) => s.updatePatch id
      | _ => none
    { s with
      drive := { s.drive with rdg := false, wrg := true }
      seq := { s.seq with state := .writing
                          sending := some { frame := s.seq.frame.getD 0, addr := a, patch := patch } } }

/-- A matching header: the visit goes on to its purpose (R92). -/
def State.headerMatched (s : State) (idx : Nat) : State :=
  match (s.seq.recOf idx).purpose with
  | .write => s.openWrite idx
  | .verify => s.mapSeq (fun q => { q with state := .verifying })
  | .read | .done => s.mapSeq (fun q => { q with state := .reading })

/-- The header of the visited slot, classed and taken up (R92, R93). The visit of a released refresh ends at a header that does not
match, one of another cylinder included, which then leaves the arm cylinder as it stands (R170; log entry 55). -/
def State.takeHeader (s : State) (idx : Nat) (h : HeaderField) : State :=
  let a := s.seq.sectorAddr idx
  match headerClass h a with
  | .matching => s.headerMatched idx
  | c =>
    if s.refreshVoid then s.endVoidRefresh
    else
      match c with
      | .matchingBad => s.workFails .markedBad (some (.sector a, .markedBad)) a
      | .wrongCylinder k => s.misPosition idx k
      | .matching | .wrongSector | .unreadable => s.headerMiss idx

/-! ### Visits (R91) -/

/-- The frame that a visit of the sector uses, once it is allocated (R94, R95, R108). -/
def State.visitFrame (s : State) (idx : Nat) : Option Nat :=
  match s.seq.work with
  | none => none
  | some (.refresh f) => some f
  | some .label => s.labelFrame
  | some (.request id) =>
    match s.request id with
    | none => none
    | some r =>
      match r.kind with
      | .write | .writeVerify =>
        s.cache.frames.findIdx? (fun fr => fr.state == .staged && fr.owner == some id && fr.idx == some idx)
      | .check => s.cache.frames.findIdx? (fun fr => fr.state == .filling && fr.owner == some id)
      | .update =>
        if s.seq.frame.isSome then s.seq.frame
        else s.cache.frames.findIdx? (fun fr => fr.state == .filling && fr.owner == some id)
      | _ =>
        s.cache.frames.findIdx? (fun fr =>
          fr.state == .filling && fr.owner == some id && fr.addr == some (sectorAt r.addr.cyl idx))

/-- A CHECK's single frame follows the sector being read (R115). -/
def State.followCheck (s : State) (f idx : Nat) : State :=
  match s.seq.work with
  | some (.request id) =>
    match s.request id with
    | some r => if r.kind = .check then s.setFrame f { s.frame f with addr := some (sectorAt r.addr.cyl idx) } else s
    | none => s
  | _ => s

/-- The visits that remain in the pass; a new pass takes every pending sector (R91). -/
def Sequencer.currentPass (q : Sequencer) : List Nat := if q.pass.isEmpty then q.pendingIdx else q.pass

/-- The visit begins: HSEL set, RDG asserted, SEARCHING; one retry when it repeats a failed visit (R91, R98). HSEL then keeps its head
until the next visit or the end of the work, by the model's choice (log entry 61). -/
def State.beginVisit (s : State) (idx f : Nat) (rest : List Nat) : State :=
  let t := if (s.seq.recOf idx).again then s.retryCounted else s
  let u := t.followCheck f idx
  { u with
    drive := { u.drive with hsel := decide (Config.sectorsPerTrack ≤ idx), rdg := true }
    seq := { u.seq.setRec idx (fun r => { r with again := false }) with
      state := .searching, visit := some idx, pass := rest, frame := some f } }

/-- The SPL of a slot: the next pending sector's visit begins when the slot is its own; a visit whose frame is not yet allocated
passes its slot unused (R91, R108). -/
def State.slotArrives (s : State) : State :=
  match s.seq.currentPass with
  | [] => s
  | idx :: rest =>
    if s.pins.snum.toNat = idx % Config.sectorsPerTrack then
      match s.visitFrame idx with
      | some f => s.beginVisit idx f rest
      | none => s.mapSeq (fun q => { q with pass := rest })
    else s

/-! ### Data fields (R94, R96, R97) -/

/-- A sector's record after it became done. -/
def State.recDone (s : State) (idx : Nat) : State :=
  s.mapSeq (fun q => q.setRec idx (fun r => { r with purpose := .done, again := false }))

/-- The update unit operates (R97, R140, R141): the UPDATE succeeds without a write when the word is unchanged, and else its sector's
purpose becomes WRITE. -/
def State.operate (s : State) (r : Request) (idx : Nat) (old : Word) : State :=
  let new := updateWord r.op r.opA r.opB old
  let t := { s with unit :=
    { inProgress := some { op := r.op, opA := r.opA, opB := r.opB, old := old, new := new }
      flags := updateFlags r.op r.opA r.opB old } }
  let u := t.modify r.id (fun q => { q with oldWord := old, newWord := new })
  if new = old then (u.recDone idx).continueRequest r.id
  else
    (u.closeGates.mapSeq (fun q =>
      { q.setRec idx (fun x => { x with purpose := .write, again := false }) with
        state := .updating, visit := none, pass := [] })).tidy

/-- A sector of a request read good (R94, R97, R112). -/
def State.requestReadGood (s : State) (r : Request) (idx f : Nat) (ws : List Word) : State :=
  let a := sectorAt r.addr.cyl idx
  let t := s.modify r.id (fun q => q.markDone idx .disk)
  match r.kind with
  | .check => ((t.putWords f ws).recDone idx).continueRequest r.id
  | .update => (t.settleRead r f a ws).operate r idx (ws.getD r.offset 0)
  | .read => (((t.settleRead r f a ws).queueDelivery r idx f).recDone idx).continueRequest r.id
  | _ => ((t.settleRead r f a ws).recDone idx).continueRequest r.id

/-- The words of a good field placed in the frame that the visit reads into (R94). -/
def State.putRead (s : State) (ws : List Word) : State :=
  match s.seq.frame with
  | none => s
  | some f => s.putWords f ws

/-- A data field read for data and read good (R94, R118). The words of a label read go into its lent frame and to cartridge
control. -/
def State.readGood (s : State) (idx : Nat) (ws : List Word) : State :=
  match s.seq.work with
  | none => s.seqIdle
  | some .label => (((s.putRead ws).seqIdle.freeLabelFrame.labelVerdict (some ws)).post.tidy).selectionPoint
  | some (.refresh f) => (((s.seqIdle.takeWords f ws)).tidy).selectionPoint
  | some (.request id) =>
    match s.request id with
    | none => s.seqIdle
    | some r => s.requestReadGood r idx (s.seq.frame.getD 0) ws

/-- A data field read for data and not read good: an attempt, and DATA-ERROR at the ninth (R94). The model counts failed reads alone, as
the words of R94 say; the example of section 5.10 shows the attempts of a sector go up at its good retry as well (log entry 60). -/
def State.readBad (s : State) (idx : Nat) : State :=
  let n := (s.seq.recOf idx).attempts + 1
  let t := s.mapSeq (fun q => q.setRec idx (fun r => { r with attempts := n, again := true }))
  if 9 ≤ n then
    t.workFails .dataError (some (.sector (t.seq.sectorAddr idx), .dataError)) (t.seq.sectorAddr idx)
  else t.search

/-- The words a write sends: those of its frame, with an UPDATE's new word at its offset (R95, R97). -/
def State.sendingWords (s : State) (x : Sending) : List Word :=
  match x.patch with
  | none => readFrame s.cache.store x.frame
  | some (off, w) => (readFrame s.cache.store x.frame).set off w

/-- The field has been sent and WRG closed: preamble, sync, words and CRC have stood on WRD (R3, R5, R95). -/
def State.sent (s : State) (x : Sending) : State :=
  let t := s.closeGates
  { t with drive := { t.drive with wrd := writtenField (s.sendingWords x) } }

/-- An UPDATE's frame takes the new word at the close of WRG, if it still holds the sector (R97, R115; log entry 13). R97 has the cache
take the frame as it does any written sector, R108 and R115 name no move in the LRU order for it; that it keeps its place is the model's
choice (log entry 66). -/
def State.patchFrame (s : State) (x : Sending) : State :=
  match x.patch with
  | none => s
  | some (off, w) =>
    if (s.frame x.frame).addr = some x.addr then
      { s with cache := { s.cache with store := writeFrameWord s.cache.store x.frame off w } }
    else s

/-- A field whose write a port reset let finish: settled as a written sector (R102, R114, R123). -/
def State.stopWritten (s : State) (x : Sending) : State :=
  match x.patch with
  | none => s.settleWritten x.frame x.addr
  | some _ => s.patchFrame x

/-- The sector of a request whose WRG has closed (R95, R97). -/
def State.requestWritten (s : State) (r : Request) (idx : Nat) (x : Sending) : State :=
  match r.kind with
  | .writeVerify =>
    (s.mapSeq (fun q => { q.setRec idx (fun y => { y with purpose := .verify, again := false }) with sending := none })).search
  | .update =>
    (((s.patchFrame x).modify r.id (fun q => { q with written := true })).recDone idx).continueRequest r.id
  | _ =>
    (((s.settleWritten x.frame x.addr).modify r.id (fun q => q.markDone idx .disk)).recDone idx).continueRequest r.id

/-- A read-back that read good: the sector is written (R96). -/
def State.verifiedGood (s : State) (r : Request) (idx : Nat) : State :=
  (((s.settleWritten (s.seq.frame.getD 0) (sectorAt r.addr.cyl idx)).modify r.id (fun q => q.markDone idx .disk)).recDone
    idx).continueRequest r.id

/-- A read-back that did not read good: a rewrite, two at most, counted as one retry; then VERIFY-FAILED (R96, R98). -/
def State.verifiedBad (s : State) (idx : Nat) : State :=
  if (s.seq.recOf idx).rewrites < 2 then
    ((s.mapSeq (fun q => q.setRec idx (fun r =>
      { r with purpose := .write, rewrites := r.rewrites + 1, again := false }))).retryCounted).search
  else s.workFails .verifyFailed (some (.sector (s.seq.sectorAddr idx), .verifyFailed)) (s.seq.sectorAddr idx)

end Sys2Proof.Machine
end

