-- ==== Sys2Proof/Machine/Layout.lean ====
section
/-! DEFINITION. The words that software sees (section 11.6): the completion record, STATUS and the interrupt, the fault entry in a
FETCH-FAULT record, the REPORT. -/

namespace Sys2Proof.Machine

/-- The outcome codes. -/
def ReqOutcome.code : ReqOutcome → BitVec 8
  | .done => 0x00
  | .doneRetried => 0x01
  | .skipped => 0x02
  | .empty => 0x03
  | .notConfigured => 0x10
  | .badKind => 0x11
  | .badAddress => 0x12
  | .badMemory => 0x13
  | .duplicateTag => 0x14
  | .chainSpan => 0x15
  | .chainTooLong => 0x16
  | .noWrite => 0x17
  | .notCached => 0x18
  | .noCartridge => 0x19
  | .queueFull => 0x1A
  | .noBuffer => 0x1B
  | .pinLimit => 0x1C
  | .notFound => 0x1D
  | .tooLate => 0x1E
  | .notLeaving => 0x1F
  | .locked => 0x20
  | .busy => 0x21
  | .badConfig => 0x22
  | .dataError => 0x30
  | .noHeader => 0x31
  | .seekFault => 0x32
  | .writeProtected => 0x33
  | .markedBad => 0x34
  | .verifyFailed => 0x35
  | .memoryError => 0x36
  | .expired => 0x37
  | .cancelled => 0x38
  | .chainAborted => 0x39
  | .cartridgeRemoved => 0x3A

/-- The source codes. -/
def Source.code : Source → BitVec 2
  | .disk => 0
  | .cache => 1
  | .peer => 2
  | .mixed => 3

/-- A flag as a bit. -/
abbrev bit (b : Bool) : BitVec 1 := BitVec.ofBool b

/-- Word `i` of a completion record, 0 to 5. -/
def Completion.word (c : Completion) (i : Nat) : Word :=
  match i with
  | 0 => c.tag ++ (c.kindCode ++ 0#4)
  | 1 => c.outcome.code ++ (0#3 ++ (bit c.late ++ (bit c.written ++ (bit c.flags.z ++ (bit c.flags.c ++ bit c.flags.n)))))
  | 2 => c.source.code ++ (0#8 ++ BitVec.ofNat 6 c.sectors)
  | 3 => c.wordA
  | 4 => c.wordB
  | _ => c.time

/-- The cartridge state codes of STATUS. -/
def CartState.code : CartState → BitVec 3
  | .absent => 0
  | .loading => 1
  | .mounted => 2
  | .unusable => 3
  | .leaving => 4
  | .released => 5

/-- A CONFIGURE is held (R66, R168). -/
def State.configureHeld (s : State) : Bool := s.queue.held.any (fun r => r.kind == .configure)

/-- The intake is held (R173). -/
def State.intakeHeld (s : State) : Bool := s.port.waiting.isSome || s.configureHeld

/-- The station holds the line (R35). -/
def State.holdingLine (s : State) : Bool := s.access.state == .holding

/-- What a read of STATUS returns; the read changes nothing (R175). -/
def State.statusWord (s : State) : Word :=
  bit s.zones.configured ++ (s.cart.state.code ++ (BitVec.ofNat 5 s.port.fifo.length ++ (bit (s.port.notices != 0) ++
    (bit s.intakeHeld ++ (bit s.port.overrun ++ (bit (!s.faults.entries.isEmpty) ++ (bit s.faults.overflow ++
      (bit s.pins.pres ++ bit s.holdingLine))))))))

/-- The station asserts IRQ (R177). -/
def State.irq (s : State) : Bool :=
  (!s.port.fifo.isEmpty && s.port.completionEnable) || (s.port.notices != 0 && s.port.noticeEnable)

/-- The fault kind codes. -/
def FaultKind.code : FaultKind → BitVec 4
  | .dataError => 0
  | .noHeader => 1
  | .seekFault => 2
  | .markedBad => 3
  | .verifyFailed => 4
  | .guardWritten => 5

/-- The origin codes. -/
def Origin.code : Origin → BitVec 1
  | .own => 0
  | .peer => 1

/-- Word A of a FETCH-FAULT record: the address; a cylinder alone carries head 3 and sector 0. -/
def FaultEntry.wordA (e : FaultEntry) : Word :=
  match e.addr with
  | .sector a => a.word
  | .cylinder c => SectorAddr.word { cyl := c, head := 3, sec := 0 }

/-- Word B of a FETCH-FAULT record: kind, origin and repeat count. -/
def FaultEntry.wordB (e : FaultEntry) : Word := e.kind.code ++ (0#3 ++ (e.origin.code ++ BitVec.ofNat 8 e.repeats))

/-- The turn mark bit of the REPORT. -/
def Ident.code : Ident → BitVec 1
  | .A => 0
  | .B => 1

/-- The last word of a REPORT: turn mark, UNKNOWN, arm cylinder. -/
def State.armWord (s : State) : Word :=
  s.access.turn.code ++ (0#5 ++ (bit s.monitor.arm.isNone ++ BitVec.ofNat 9 (s.monitor.arm.elim 0 (·.val))))

/-- The ten words of a REPORT taken now (R179). -/
def State.reportWords (s : State) : List Word :=
  [s.faults.retry, s.faults.collide, s.faults.capture, s.faults.late, s.clock.extractLsb' 16 16, s.clock.extractLsb' 0 16,
    BitVec.ofNat 16 s.queue.held.length, BitVec.ofNat 8 s.pinnedCount ++ BitVec.ofNat 8 s.freeCount,
    BitVec.ofNat 16 s.reservedCount, s.armWord]

end Sys2Proof.Machine
end

