-- ==== Sys2Proof/Machine/Admission.lean ====
section
/-! DEFINITION. Admission (section 3.3): the request a block asks for, the eleven checks, the tests of CANCEL, RELEASE-CARTRIDGE and
CONFIGURE, the FIFO places a block needs, and what is done for a block once it is refused or accepted. -/

namespace Sys2Proof.Machine

/-! ### The request that a block asks for (R42, R46, R52, R56, R58, R71) -/

/-- The frames a kind needs (R43). -/
def Kind.need (k : Kind) (count : Nat) : Nat :=
  match k with
  | .read | .pin | .write | .writeVerify => count
  | .check | .update => 1
  | .unpin | .discard | .cancel | .releaseCartridge | .fetchFault | .report | .configure => 0

/-- The request record a block would get if it were accepted now, in WAITING with nothing reserved. A later chain member takes the
deadline, the options and the due time of the first (R46, R52, R58). -/
def State.draft (s : State) (k : Kind) (b : BlockBody) : Request :=
  let first := s.stagedMembers.head?
  { id := s.queue.nextId, tag := b.tag, kind := k, addr := blockAddr b, count := b.count.toNat, mem := b.mem.toNat
    explicit := first.elim (b.deadline != 0) (·.explicit)
    bypass := b.bypass
    dropIfLate := first.elim b.dropIfLate (·.dropIfLate)
    continues := b.continues
    cond := (condOfCode b.condCode).getD .always
    offset := b.offset.toNat
    op := (opOfCode b.opCode).getD .set
    opA := b.opA
    opB := b.opB
    accepted := s.clock
    due := if k.isDrive then
        some ((first.bind (·.due)).getD
          (s.clock + BitVec.ofNat 32 (if b.deadline = 0 then Config.implicitDeadline else b.deadline.toNat)))
      else none
    state := .waiting
    done := []
    source := none
    reserved := 0
    slack := none
    chain := if k.chainable && (b.continues || first.isSome) then some (first.elim s.queue.nextId (·.id)) else none
    hazard := if k.isDrive then blockIndices b else []
    hazardWritten := if k.writesForHazards then blockIndices b else []
    promised := []
    outcome := none
    failAt := none
    mark := none
    refusedAt := none
    written := false
    oldWord := 0
    newWord := 0
    flags := CondFlags.clear }

/-! ### Carrying out from the cache at admission (R50, R111) -/

/-- The sectors of a request are all held in VALID frames. -/
def State.allValid (s : State) (r : Request) : Bool :=
  r.indices.all (fun i => (s.validFrame (sectorAt r.addr.cyl i)).isSome)

/-- The READ is served at admission (R50). -/
def State.readServed (s : State) (k : Kind) (b : BlockBody) : Bool :=
  let r := s.draft k b
  k == .read && !b.bypass && r.chain.isNone && !s.blocked r && s.allValid r

/-- The sectors of a request that are not in pinned frames (R51, R117). -/
def State.unpinnedSectors (s : State) (r : Request) : List Nat :=
  r.indices.filter (fun i => !s.isPinned (sectorAt r.addr.cyl i))

/-- A PIN would exceed the 48 pinned frames (R51). -/
def State.overPinLimit (s : State) (r : Request) : Bool :=
  decide (Config.maxPinned < s.pinnedCount + s.promisedPins + (s.unpinnedSectors r).length)

/-- The PIN is carried out at admission: all its sectors VALID, the spare of R107 no less than the frames it would pin, and the pin
limit kept (R50, R111). -/
def State.pinServed (s : State) (k : Kind) (b : BlockBody) : Bool :=
  let r := s.draft k b
  k == .pin && !s.blocked r && s.allValid r && s.canPromise (s.unpinnedSectors r).length && !s.overPinLimit r

/-! ### The checks (R48 to R51, R61, R63, R66, R168) -/

/-- The block belongs to a chain: it carries CONTINUES or staged members await it. For a CANCEL and a CONFIGURE only the staged members
count (R49, R61, R168). -/
def State.inChain (s : State) (k : Kind) (b : BlockBody) : Bool :=
  !s.stagedMembers.isEmpty || (b.continues && k != .cancel && k != .configure)

/-- Check 3 (R48). -/
def badAddress (k : Kind) (b : BlockBody) (later : Bool) : Bool :=
  ((k.isDrive || k == .unpin || k == .discard) &&
    (decide (399 < b.cyl.toNat) || decide (1 < b.head.toNat) || decide (19 < b.sector.toNat) || b.count == 0
      || decide (40 < b.count.toNat) || decide (40 < blockIndex b + b.count.toNat)))
  || (k == .update && b.count != 1)
  || (k.isDrive && !later && decide (Config.maxDeadline < b.deadline.toNat))

/-- Check 4 (R48). -/
def badMemory (k : Kind) (b : BlockBody) : Bool :=
  match k with
  | .read | .write | .writeVerify => decide (Config.lastMemoryWord + 1 < b.mem.toNat + b.count.toNat * Config.sectorWords)
  | .report => decide (Config.lastMemoryWord < b.mem.toNat + 9)
  | .configure => decide (Config.lastMemoryWord < b.mem.toNat + 19)
  | _ => false

/-- The kind and operation write for admission: WRITE, WRITE-VERIFY, and an UPDATE other than TEST (R43, R49). -/
def writesForAdmission (k : Kind) (b : BlockBody) : Bool :=
  k.isWrite || (k == .update && opOfCode b.opCode != some .test)

/-- Check 7, NO-WRITE (R49). -/
def State.refusedNoWrite (s : State) (k : Kind) (b : BlockBody) : Bool :=
  writesForAdmission k b && (blockIndices b).any (fun i => s.zones.refusesWrite (sectorAt b.cyl.toNat i))

/-- What the tests of a CANCEL find: NOT-FOUND, TOO-LATE, or nothing against it (R61). -/
def State.cancelVerdict (s : State) (b : BlockBody) : Option ReqOutcome :=
  match s.queue.held.find? (fun r => r.tag == b.opA.extractLsb' 0 8) with
  | none => some .notFound
  | some r =>
    if r.chain.any (· != r.id) then some .notFound
    else if !r.kind.isDrive || r.state == .running || r.state == .delivering || r.state == .finished || s.delivering r.id then
      some .tooLate
    else none

/-- The tests of the immediate kinds that can refuse: CANCEL (R61), RELEASE-CARTRIDGE (R63), CONFIGURE (R168). -/
def State.immediateVerdict (s : State) (k : Kind) (b : BlockBody) : Option ReqOutcome :=
  match k with
  | .cancel => s.cancelVerdict b
  | .releaseCartridge => if s.cart.state = .leaving then none else some .notLeaving
  | .configure => if s.zones.lock then some .locked else if s.queue.held.isEmpty then none else some .busy
  | _ => none

/-- The checks of a block of kind `k` in their order, each with the outcome it refuses with (R48 to R51). -/
def State.checks (s : State) (k : Kind) (b : BlockBody) : List (Bool × ReqOutcome) :=
  let staged := s.stagedMembers
  let later := !staged.isEmpty
  let served := s.readServed k b || s.pinServed k b
  [ (!s.zones.configured && k != .configure, .notConfigured),
    ((k == .update && (opOfCode b.opCode).isNone) || (condOfCode b.condCode).isNone, .badKind),
    (badAddress k b later, .badAddress),
    (badMemory k b, .badMemory),
    (s.queue.held.any (fun r => r.tag == b.tag), .duplicateTag),
    (s.inChain k b && !k.chainable, .badKind),
    (staged.head?.any (fun f => f.addr.cyl != b.cyl.toNat), .chainSpan),
    (decide (Config.maxChain ≤ staged.length + 1) && b.continues, .chainTooLong),
    (s.refusedNoWrite k b, .noWrite),
    (k == .pin && !s.zones.caches b.cyl.toNat, .notCached),
    (k.isDrive && !s.cart.state.permits && !served, .noCartridge),
    ((k == .report || (k.isDrive && !s.pinServed k b)) && decide (Config.maxHeld ≤ s.queue.held.length), .queueFull),
    (k.isDrive && !served && !s.canPromise (k.need b.count.toNat), .noBuffer),
    (k == .pin && s.overPinLimit (s.draft k b), .pinLimit) ]

/-- The outcome of the first check that fails. -/
def firstFailed (l : List (Bool × ReqOutcome)) : Option ReqOutcome := (l.find? (·.1)).map (·.2)

/-- The refusal of a block, if any (R47, R48). -/
def State.refusal (s : State) (blk : Block) : Option ReqOutcome :=
  match kindOfCode blk.kindCode with
  | none => some (if s.zones.configured then .badKind else .notConfigured)
  | some k => (firstFailed (s.checks k blk.body)).orElse (fun _ => s.immediateVerdict k blk.body)

/-! ### The FIFO places a block needs (R47) -/

/-- The block closes a chain some member of which is marked failed or drained (R148, R158). -/
def State.closesMarked (s : State) (b : BlockBody) : Bool :=
  !b.continues && s.stagedMembers.any (·.mark.isSome)

/-- The requests that a CANCEL's success ends: its target, or the target's chain (R62). -/
def State.cancelTargets (s : State) (b : BlockBody) : List Nat :=
  match s.queue.held.find? (fun r => r.tag == b.opA.extractLsb' 0 8) with
  | none => []
  | some r => s.groupIds r

/-- The records that an accepted block's processing places in the FIFO at once (R47, R158). -/
def State.placesOf (s : State) (k : Kind) (b : BlockBody) : Nat :=
  match k with
  | .unpin | .discard | .releaseCartridge | .fetchFault => 1
  | .cancel => 1 + (s.cancelTargets b).length
  | .report | .configure => 0
  | .read | .check | .write | .writeVerify | .update | .pin =>
    if s.pinServed k b then 1
    else if s.closesMarked b then s.stagedMembers.length + 1
    else 0

/-- The records that a block's processing places in the FIFO at once (R47). -/
def State.placesNeeded (s : State) (blk : Block) : Nat :=
  match s.refusal blk, kindOfCode blk.kindCode with
  | none, some k => s.placesOf k blk.body
  | _, _ => 1 + s.stagedMembers.length

/-- The block is held for want of places: it needs some, and the FIFO lacks them or a finished request waits for one (R47). -/
def State.lacksPlaces (s : State) (blk : Block) : Bool :=
  let n := s.placesNeeded blk
  decide (0 < n) && (decide (Config.fifoPlaces < s.port.fifo.length + n) || s.finishedWaiting)

/-! ### Refusing and answering at processing -/

/-- The record of a block answered at its processing (R67 to R69). -/
def State.answer (s : State) (blk : Block) (o : ReqOutcome) (src : Source) (n : Nat) : Completion :=
  { tag := blk.body.tag, kindCode := blk.kindCode, outcome := o, late := false, written := false, flags := CondFlags.clear,
    source := src, sectors := n, wordA := 0, wordB := 0, time := s.clock.extractLsb' 0 16 }

/-- A block refused: the staged members of its chain end first, the marked ones with their mark (R47, R57, R148, R158). -/
def State.refuse (s : State) (blk : Block) (o : ReqOutcome) : State :=
  let staged := s.stagedMembers
  let t := (s.finishAll (staged.map (fun r => (r.id, r.mark.getD .chainAborted)))).postUpTo staged.length
  (t.place (t.answer blk o .disk 0)).post

/-! ### Accepting a drive request (R52, R56, R109) -/

/-- The record joins the held requests. -/
def State.insert (s : State) (r : Request) : State :=
  { s with queue := { s.queue with held := s.queue.held ++ [r], nextId := s.queue.nextId + 1 } }

/-- A write's STAGED frames are asked for, one a sector in index order (R52, R109). -/
def State.stage (s : State) (r : Request) : State :=
  if r.kind.isWrite then
    r.indices.foldl (fun t i => t.allocOrWait { req := some r.id, idx := i, staged := true }) s
  else s

/-- A chain closes with the member `last` (R56, R58): its sectors become the union of its members'; with a marked member all end at
once (R148, R158), else it enters STAGING or WAITING, and nothing is consulted (log entry 70). -/
def State.closeChain (s : State) (last : Request) : State :=
  let members := s.group last
  let ids := members.map (·.id)
  if members.any (·.mark.isSome) then
    (s.finishAll (members.map (fun r => (r.id, r.mark.getD .chainAborted)))).post
  else
    let hz := (members.map (·.hazard)).flatten.eraseDups
    let hw := (members.map (·.hazardWritten)).flatten.eraseDups
    let next : ReqState := if ids.any s.stagingOpen then .staging else .waiting
    ids.foldl (fun t i => t.modify i (fun q => { q with hazard := hz, hazardWritten := hw, state := next })) s

/-- A lone request that stands in WAITING has the cache consulted for it (R79); a READ served at admission ends so (R50). That it is consulted
for this request alone, and for none when a write or a chain enters WAITING, is the model's choice (log entry 70). -/
def State.enterWaiting (s : State) (id : Nat) : State := (s.consult id).post

/-- A drive request accepted (R52). -/
def State.acceptDrive (s : State) (k : Kind) (b : BlockBody) : State :=
  let d := s.draft k b
  let need := if s.readServed k b then 0 else k.need b.count.toNat
  let first : ReqState :=
    if d.chain.isSome then .pendingChain else if k.isWrite then .staging else .waiting
  let r := { d with state := first, reserved := need, promised := if k = .pin then s.unpinnedSectors d else [] }
  let t := (s.insert r).stage r
  if r.chain.isSome then (if b.continues then t else t.closeChain r)
  else if k.isWrite then t
  else t.enterWaiting r.id

/-- A PIN carried out at processing: its frames pinned, most recent (R50, R111). -/
def State.pinNow (s : State) (r : Request) : State :=
  r.indices.foldl (fun t i =>
    match t.validFrame (sectorAt r.addr.cyl i) with
    | some f => (t.setFrame f { t.frame f with pinned := true }).touch f
    | none => t) s

/-! ### The immediate kinds (R61 to R66, R168) -/

/-- UNPIN of one frame: VALID it stays, STALE it is released (R64). -/
def State.unpinFrame (s : State) (f : Nat) : State :=
  if (s.frame f).state = .stale then s.release f else s.setFrame f { s.frame f with pinned := false }

/-- One sector of a range: the frame of the directory that meets the test is acted on and counted (R64). -/
def State.overSector (test : Frame → Bool) (act : State → Nat → State) (p : State × Nat) (a : SectorAddr) : State × Nat :=
  match p.1.dirFrame a with
  | some f => if test (p.1.frame f) then (act p.1 f, p.2 + 1) else p
  | none => p

/-- The frames over a block's range acted on, with their number (R64). -/
def State.overRange (s : State) (b : BlockBody) (test : Frame → Bool) (act : State → Nat → State) : State × Nat :=
  (blockIndices b).foldl (fun p i => State.overSector test act p (sectorAt b.cyl.toNat i)) (s, 0)

/-- UNPIN over the range (R64). -/
def State.unpinRange (s : State) (b : BlockBody) : State × Nat := s.overRange b (·.pinned) State.unpinFrame

/-- DISCARD over the range (R64). -/
def State.discardRange (s : State) (b : BlockBody) : State × Nat :=
  s.overRange b (fun fr => fr.state == .valid && !fr.pinned) State.release

/-- FETCH-FAULT (R65, R68). -/
def State.fetchFault (s : State) (blk : Block) : State :=
  match s.faults.entries with
  | [] => s.place { s.answer blk .empty .disk 0 with time := 0 }
  | e :: es =>
    let t := { s with faults := { s.faults with entries := es, overflow := s.faults.overflow && !es.isEmpty } }
    t.place { s.answer blk .done .disk 0 with wordA := e.wordA, wordB := e.wordB, time := e.firstTime.extractLsb' 0 16 }

/-- CANCEL of a target that is not too late (R62). -/
def State.cancelTarget (s : State) (blk : Block) : State :=
  let ids := s.cancelTargets blk.body
  let t := (s.finishAll (ids.map (fun i => (i, ReqOutcome.cancelled)))).postUpTo ids.length
  (t.place (t.answer blk .done .disk 0)).post

/-- RELEASE-CARTRIDGE in LEAVING: its record, then the release and the drain (R63, R160). -/
def State.releaseCartridge (s : State) (blk : Block) : State :=
  (((s.place (s.answer blk .done .disk 0)).enterReleased).drain .cartridgeRemoved).post

/-- A REPORT or a CONFIGURE accepted: held, its job queued (R66, R168). -/
def State.acceptHeld (s : State) (k : Kind) (b : BlockBody) (kind : State → JobKind) : State :=
  let r := { s.draft k b with state := .running }
  let t := s.insert r
  t.queueJob { req := r.id, orphan := false, kind := kind t, base := b.mem.toNat }

/-- An accepted block of kind `k` is carried out (R45, R52). -/
def State.carryOut (s : State) (k : Kind) (blk : Block) : State :=
  let b := blk.body
  match k with
  | .read | .check | .write | .writeVerify | .update => s.acceptDrive k b
  | .pin =>
    if s.pinServed k b then (s.pinNow (s.draft k b)).place (s.answer blk .done .cache b.count.toNat) else s.acceptDrive k b
  | .unpin => let (t, n) := s.unpinRange b; t.place (t.answer blk .done .disk n)
  | .discard => let (t, n) := s.discardRange b; t.place (t.answer blk .done .disk n)
  | .cancel => s.cancelTarget blk
  | .releaseCartridge => s.releaseCartridge blk
  | .fetchFault => s.fetchFault blk
  | .report => s.acceptHeld k b (fun t => .report t.reportWords)
  | .configure => s.acceptHeld k b (fun _ => .configure)

/-! ### Processing a block (R47, R173) -/

/-- Waiting work is taken up after a command: frames, records, the access state. R55, R108 and R178 do not order a staging job that an
allocation served queues and a delivery job that a posted record's lifted block queues, where one event brings both; that the
allocations are served first is the model's choice (log entry 64). -/
def State.settle (s : State) : State := s.tidy.post.settleAccess

/-- A block is processed, or waits in the intake for want of FIFO places (R47). -/
def State.process (s : State) (blk : Block) : State :=
  if s.lacksPlaces blk then { s with port := { s.port with waiting := some blk } }
  else
    (match s.refusal blk, kindOfCode blk.kindCode with
     | none, some k => s.carryOut k blk
     | some o, _ => s.refuse blk o
     | none, none => s).settle

/-- A block is completed at the intake (R47, R173): it waits behind a held CONFIGURE; while another block waits its word is discarded
and the overrun set. -/
def State.completeBlock (s : State) (blk : Block) : State :=
  if s.port.waiting.isSome then { s with port := { s.port with overrun := true } }
  else
    let t := { s with port := { s.port with partialBlock := [] } }
    if t.configureHeld then { t with port := { t.port with waiting := some blk } } else t.process blk

/-- The waiting block is handed to admission again (R47, R173). -/
def State.takeBlock (s : State) : State :=
  match s.port.waiting with
  | none => s
  | some blk => State.process { s with port := { s.port with waiting := none } } blk

/-- The waiting block is processed again when a FIFO place is free that no finished request waits for, and no CONFIGURE holds the intake
(R47, R174). -/
def State.tryHeld (s : State) : State :=
  if !s.configureHeld && !s.finishedWaiting && decide (s.port.fifo.length < Config.fifoPlaces) then s.takeBlock else s

/-- The intake after an event that led from `s` to `t`: a CONFIGURE whose record has entered the FIFO leaves the intake to the block that
waits behind it (R66, R168). -/
def State.leftByConfigure (s t : State) : State := if s.configureHeld && !t.configureHeld then t.takeBlock else t

end Sys2Proof.Machine
end

