-- ==== Sys2Proof/Machine/Watch.lean ====
section
/-! DEFINITION. Watching the peer (chapter 7): the peer's motions and headers, the beginning of a capture, its address, and the four
steps of its end. -/

namespace Sys2Proof.Machine

/-! ### The arm cylinder and the observed head (R126, R127) -/

/-- The monitor's record changed. -/
def State.mapMonitor (s : State) (f : Monitor → Monitor) : State := { s with monitor := f s.monitor }

/-- The drive takes a strobe: RDY asserted and SKC or SKF asserted (R11, R126). -/
def Pins.accepts (p : Pins) : Bool := p.rdy && (p.skc || p.skf)

/-- SKC and SKF deasserted, as they are from the acceptance of a strobe on (R9). -/
def Pins.moving (p : Pins) : Pins := { p with skc := false, skf := false }

/-- A peer SEEK strobe in an observed tenure (R126). -/
def State.peerSeek (s : State) (cyl : Nat) : State :=
  if s.pins.accepts then
    let t := { s with pins := s.pins.moving }
    if cyl < Config.cylinders then
      t.mapMonitor (fun m => { m with arm := armOf cyl, motion := some .seekInRange })
    else t.mapMonitor (fun m => { m with motion := some .seekOutOfRange })
  else s

/-- A peer RCAL strobe in an observed tenure (R126). -/
def State.peerRecalibrate (s : State) : State :=
  if s.pins.rdy then
    State.mapMonitor { s with pins := s.pins.moving } (fun m => { m with arm := some 0, motion := some .recalibrate })
  else s

/-- SKF rises in an observed peer tenure (R126). -/
def State.peerFault (s : State) : State :=
  match s.monitor.motion with
  | some .seekInRange | some .recalibrate => s.mapMonitor (fun m => { m with arm := none, motion := none })
  | some .seekOutOfRange => s.mapMonitor (fun m => { m with motion := none })
  | none => s

/-- The address a header gives, when it is good and its numbers lie within range (R127, R130). -/
def headerLocates (ws : List Word) : Option SectorAddr :=
  let h : HeaderField := { sync := true, words := ws }
  if headerGood h && (headerAddr h).inRange then some (headerAddr h) else none

/-- A good header within range corrects the arm cylinder (R127). -/
def State.correctArm (s : State) (ws : List Word) : State :=
  match headerLocates ws with
  | some a => s.mapMonitor (fun m => { m with arm := armOf a.cyl })
  | none => s

/-! ### Beginning a capture (R128) -/

/-- A capture begins: a held one is abandoned first, and the header, the observed head and SNUM are recorded (R128, R138). -/
def State.beginCapture (s : State) (ws : List Word) : State :=
  let t := s.abandonHeld
  t.mapMonitor (fun m => { m with
    state := .capturing, header := ws.take 5, data := [], kind := none, addr := none, verdict := none, heldFor := none
    capHead := m.head, capSnum := s.pins.snum.toNat })

/-- A capture ends with nothing reported and the monitor goes on watching (R128). -/
def State.endUnreported (s : State) : State := s.mapMonitor (fun m => { m.emptied with state := .watching })

/-! ### The address of a capture (R130) -/

/-- Where a capture lies: at a sector address, unlocated on a head and sector number, or nowhere. -/
inductive CapPlace
  | located (a : SectorAddr)
  | unlocated (head sec : Nat)
  | discarded
  deriving DecidableEq, Repr

/-- The place of the capture in the buffer (R130). -/
def State.capturePlace (s : State) (k : CapKind) : CapPlace :=
  match headerLocates s.monitor.header, k, s.monitor.arm with
  | some a, _, _ => .located a
  | none, .read, _ => .discarded
  | none, .write, some c => .located { cyl := c.val, head := s.monitor.capHead, sec := s.monitor.capSnum }
  | none, .write, none => .unlocated s.monitor.capHead s.monitor.capSnum

/-- The verdict of a completed capture (R129, R131): a write marked before, broken, or with a bad CRC is written without good
capture. -/
def captureVerdict (marked : Bool) (k : CapKind) (c : PeerCapture) : CapVerdict :=
  match k with
  | .read => if fieldWordsGood c.words then .good else .bad
  | .write => if fieldWordsGood c.words && fieldWhole c.field && !marked then .good else .notGood

/-! ### Step 1: the guard (R133) -/

/-- A located peer write checked against the guard range and the label sector (R133). -/
def State.guardCheck (s : State) (a : SectorAddr) : State :=
  if s.zones.guardsSector a then (s.listFault (.sector a) .guardWritten .peer).raise .guardWritten else s

/-! ### Step 3: overheard completion (R134, R135) -/

/-- The capture is offered to the request (R134). -/
def State.offered (s : State) (k : CapKind) (a : SectorAddr) (r : Request) : Bool :=
  (s.cart.state == .mounted || s.cart.state == .leaving) && r.state == .waiting && r.chain.isNone
    && (r.kind == .read || r.kind == .pin || (r.kind == .check && k == .read)) && !s.blocked r && r.covers a
    && !r.done.contains a.index

/-- A sector of a request marked done by a capture, and counted (R135, R136). -/
def State.overheardDone (s : State) (id : Nat) (idx : Nat) : State :=
  (s.modify id (fun q => q.markDone idx .peer)).countCapture

/-- A READ or PIN takes the words in a frame of its own reservation, settled as if its sequencer had read them; nothing when the
allocation would have to wait (R121, R135). -/
def State.overheardOwn (s : State) (r : Request) (a : SectorAddr) (ws : List Word) : Option State :=
  match s.allocate with
  | none => none
  | some (f, t) =>
    let u := (((t.giveFilling r a f).settleRead r f a ws).overheardDone r.id a.index)
    some (if r.kind = .read then u.queueDelivery r a.index f else u)

/-- A later READ or PIN takes the sector from the directory frame just settled, as a hit would (R135). -/
def State.overheardHit (s : State) (r : Request) (a : SectorAddr) (f : Nat) : State :=
  let t := ((s.modify r.id Request.useReserved).touch f).overheardDone r.id a.index
  if r.kind = .pin then t.setFrame f { t.frame f with pinned := true } else t.queueDelivery r a.index f

/-- A CHECK takes its verdict; its frame returns with its last sector (R121, R135). -/
def State.overheardCheck (s : State) (r : Request) (a : SectorAddr) : State :=
  let t := s.overheardDone r.id a.index
  if t.allDone r.id then t.modify r.id Request.useReserved else t

/-- One request served with a capture's sector. The flag says whether a READ or PIN has been served before (R135). -/
def State.overheardOne (k : CapKind) (a : SectorAddr) (ws : List Word) (p : State × Bool) (id : Nat) : State × Bool :=
  match p.1.request id with
  | none => p
  | some r =>
    if p.1.offered k a r then
      let next : Option (State × Bool) :=
        if r.kind = .check then some (p.1.overheardCheck r a, p.2)
        else
          match (if p.2 && p.1.zones.caches a.cyl then p.1.validFrame a else none) with
          | some f => some (p.1.overheardHit r a f, true)
          | none => (p.1.overheardOwn r a ws).map (fun t => (t, true))
      match next with
      | none => p
      | some (t, b) => (if t.allDone id then t.endRequest id .done none else t, b)
    else p

/-- The capture offered to the waiting requests in the order of their acceptance (R134, R135). -/
def State.overheard (s : State) (k : CapKind) (a : SectorAddr) (ws : List Word) : State :=
  ((s.queue.held.map (·.id)).foldl (State.overheardOne k a ws) (s, false)).1

/-! ### Step 4: the label (R137) -/

/-- The capture is taken as this station's label read (R137). -/
def State.takesLabel (s : State) (k : CapKind) (v : CapVerdict) (a : SectorAddr) : Bool :=
  s.cart.state == .loading && s.cache.labelReserved && k == .read && v == .good && a == labelAddr
    && headerClass { sync := true, words := s.monitor.header } labelAddr == .matching

/-- The overheard label: the reservation given up, the verdict given (R107, R137). -/
def State.overheardLabel (s : State) (ws : List Word) : State :=
  State.labelVerdict { s with cache := { s.cache with labelReserved := false } } (some ws)

/-! ### The end of a capture (R131, R132, R138) -/

/-- Steps 1 to 4 for a capture at a sector address (R132). -/
def State.dealWith (s : State) (k : CapKind) (v : CapVerdict) (a : SectorAddr) (ws : List Word) : State :=
  match k with
  | .write =>
    let t := (s.guardCheck a).peerWrite a (v == .good) ws
    if v = .good then t.overheard k a ws else t
  | .read =>
    if v = .good then
      let t := (s.peerRead a ws).overheard k a ws
      if t.takesLabel k v a then t.overheardLabel ws else t
    else s

/-- A completed capture is dealt with by its place (R130, R132). An unlocated write counts as written without good capture, whatever its
CRC. -/
def State.dealPlaced (s : State) (k : CapKind) (v : CapVerdict) (ws : List Word) : State :=
  match s.capturePlace k with
  | .discarded => s
  | .unlocated h n => (s.mapMonitor (fun m => { m with verdict := some .notGood })).unlocatedWrite h n
  | .located a => (s.mapMonitor (fun m => { m with addr := some a })).dealWith k v a ws

/-- The monitor after a completed capture: HOLDING while the cache holds it, else watching (R131, R138). -/
def Monitor.afterCapture (m : Monitor) (tenure : Bool) : Monitor :=
  if m.heldFor.isSome then { m with state := .holding }
  else { m.emptied with state := if tenure then .watching else .idle }

/-- A read or write capture completes (R131, R132). -/
def State.captureDealt (s : State) (k : CapKind) (c : PeerCapture) : State :=
  let v := captureVerdict s.monitor.verdict.isSome k c
  let ws := c.words.take Config.sectorWords
  let t := s.mapMonitor (fun m => { m with kind := some k, verdict := some v, data := c.words })
  let u := t.dealPlaced k v ws
  u.mapMonitor (fun m => m.afterCapture u.peerTenure)

/-- The kind of the capture in progress: the one it was marked with, or what the peer did gives it (R128, R129). -/
def Monitor.kindOf (m : Monitor) (d : PeerField) : Option CapKind :=
  match m.kind with
  | some k => some k
  | none => fieldKind d

/-- The capture in progress reaches the end of its CRC word; one whose gate turns out no write is of kind none (R129, R131). -/
def State.captureCompletes (s : State) (c : PeerCapture) : State :=
  match s.monitor.kindOf c.field with
  | some k => s.captureDealt k c
  | none => s.endUnreported

/-- A partial write capture is reported as written without good capture (R131, R133). -/
def State.reportPartial (s : State) : State :=
  match s.capturePlace .write with
  | .discarded => s
  | .unlocated h n => s.unlocatedWrite h n
  | .located a => (s.guardCheck a).peerWrite a false []

/-- A capture in progress is cut short: a write by R129 is reported, and the buffer is emptied (R131). -/
def State.cutShort (s : State) (cap : Option PeerField) : State :=
  if s.monitor.state = .capturing then
    let t := if s.monitor.kind = some .write || cap.any (fun d => s.monitor.kindOf d == some .write) then s.reportPartial else s
    t.endUnreported
  else s

/-- An observed peer tenure or an unidentified holding ends; a capture in progress is partial (R40, R125, R131). -/
def State.holdingEnds (s : State) (cap : Option PeerField) : State :=
  let t := if s.peerTenure then s.cutShort cap else s
  { t with
    access := { t.access with peerHolding := none, lineHeldRaised := false }
    monitor := { t.monitor with state := if t.monitor.state = .watching then .idle else t.monitor.state } }

end Sys2Proof.Machine
end

