-- ==== Sys2Proof/Machine/Channel.lean ====
section
/-! DEFINITION. The data channel and what hangs on it: the configuration record applied (R169 to R171), the ends of DMA jobs (R178), the
port reset (R180). -/

namespace Sys2Proof.Machine

/-! ### The configuration applied (R170, R171) -/

/-- The zone turned to NONE from a caching mode (R170). -/
def turnedToNone (old new : Zones) (z : Nat) : Bool :=
  old.caches (z * Config.zoneCylinders) && !new.caches (z * Config.zoneCylinders)

/-- The zone map that a valid record puts in force (R170, R172). -/
def Zones.ofRecord (z : Zones) (ws : List Word) : Zones :=
  { z with
    map := (List.range 16).map (fun i => zoneEntryOfWord (ws.getD i 0))
    guardFirst := (ws.getD 16 0).toNat
    guardLast := (ws.getD 17 0).toNat
    thresholds := thresholdsOfWord (ws.getD 18 0)
    lock := z.lock || (ws.getD 19 0).getLsbD 0 }

/-- Cartridge control at the first configuration takes the drive's levels as it finds them (R153). -/
def State.cartFound (s : State) : State :=
  if s.pins.rdy then
    if s.pins.ulr then
      State.enterLeaving { s with cache := { s.cache with labelReserved := true } } .loading
    else s.enterLoading
  else s

/-- The effects of the first configuration (R20, R21, R23, R33, R124, R153, R171). -/
def State.firstConfiguration (s : State) : State :=
  let t := { s with
    zones := { s.zones with configured := true }
    lines := { s.lines with pres := true, crel := false }
    access := { Access.powerOn with state := .idle }
    monitor := { Monitor.powerOn with state := .idle } }
  let u := if t.pins.pres && t.pins.hold then t.takeUnidentified else t
  u.cartFound

/-- A valid record applied as one change (R170). -/
def State.applyRecord (s : State) (ws : List Word) : State :=
  let new := s.zones.ofRecord ws
  let t := State.freeZoneFrames { s with zones := new } (turnedToNone s.zones new)
  if s.zones.configured then t else t.firstConfiguration

/-- The record of a CONFIGURE judged, and applied or refused (R168, R169). -/
def State.judgeRecord (s : State) (id : Nat) (ws : List Word) : State :=
  if configBad ws then s.finish id .badConfig else (s.applyRecord ws).finish id .done

/-! ### The jobs of the channel (R178) -/

/-- The channel free. -/
def State.channelFree (s : State) : State := { s with port := { s.port with running := none } }

/-- Words moved to the computer's memory at consecutive word addresses (R178). -/
def State.movedOut (s : State) (base : Nat) (ws : List Word) : State :=
  { s with port := { s.port with dmaOut := (List.range' base ws.length).zip ws } }

/-- The oldest job is started on a free channel (R178). -/
def State.startJob (s : State) : State :=
  match s.port.running, s.port.jobs with
  | none, j :: js => { s with port := { s.port with running := some j, jobs := js } }
  | _, _ => s

/-- The words of a staging job reach its frame, unless a port reset has emptied its request (R52, R180). -/
def State.stageWords (s : State) (j : Job) (f : Nat) (ws : List Word) : State :=
  if j.orphan then s else s.putWords f ws

/-- A job has moved its last word (R53, R54, R66, R116, R178). Of a word that an UPDATE replaces in a frame under its delivery job the spec
does not say which is moved; a delivery moves the words as they stand at its end, by the model's choice (log entry 67). -/
def State.jobDone (s : State) (j : Job) (ws : List Word) : State :=
  match j.kind with
  | .staging f _ =>
    let t := (s.stageWords j f ws).channelFree
    if j.orphan then t else t.stagingEnded j.req
  | .delivery f _ =>
    let t := (((s.movedOut j.base (readFrame s.cache.store f)).channelFree.applyHeld f).sweep)
    if j.orphan then t else t.deliveryEnded j.req
  | .report ws' => ((s.movedOut j.base ws').channelFree).finish j.req .done
  | .configure => s.channelFree.judgeRecord j.req ws

/-- A staging job met a memory that does not answer (R53, R148): a lone request ends; a member of an open chain is marked failed; a
closed chain ends as one. -/
def State.stagingRefused (s : State) (id : Nat) : State :=
  match s.request id with
  | none => s
  | some r =>
    if r.state = .pendingChain then
      (((s.dropStaging id).dropWaits id).releaseOwned id).modify id (fun q => { q with mark := some (q.mark.getD .memoryError) })
    else
      s.finishAll ((s.group r).map (fun o => (o.id, if o.id = id then .memoryError else .chainAborted)))

/-- The queued delivery jobs of a request leave the list (R100). -/
def State.dropDeliveries (s : State) (id : Nat) : State :=
  { s with port := { s.port with jobs := s.port.jobs.filter (fun j => !(j.isFor id && j.isDelivery)) } }

/-- A delivery job met a memory that does not answer (R100). -/
def State.deliveryRefused (s : State) (id idx : Nat) : State :=
  match s.request id with
  | none => s
  | some r =>
    let at_ := sectorAt r.addr.cyl idx
    let t := (s.dropDeliveries id).modify id (fun q => { q with refusedAt := some idx })
    let o := r.outcome.getD .done
    if r.state = .delivering then
      if o.isSuccess then (t.modify id (fun q => { q with failAt := some at_ })).finish id .memoryError else t.finish id o
    else if r.state = .waiting then (t.modify id (fun q => { q with failAt := some at_ })).finish id .memoryError
    else t

/-- A job has ended at a word that the computer did not answer, `n` words having moved (R53, R66, R100, R148, R168, R178). -/
def State.jobRefused (s : State) (j : Job) (n : Nat) (ws : List Word) : State :=
  match j.kind with
  | .staging f _ =>
    let t := (s.stageWords j f (ws.take n)).channelFree
    if j.orphan then t else t.stagingRefused j.req
  | .delivery f idx =>
    let t := (s.movedOut j.base ((readFrame s.cache.store f).take n)).channelFree.applyHeld f
    let u := if j.orphan then t else t.deliveryRefused j.req idx
    u.sweep
  | .report ws' => ((s.movedOut j.base (ws'.take n)).channelFree).finish j.req .memoryError
  | .configure => s.channelFree.finish j.req .memoryError

/-! ### The port reset (R39, R102, R123, R139, R180) -/

/-- The job that a port reset leaves on the channel: a staging or delivery job completes its sector for no request (R180). -/
def Job.orphaned (j : Job) : Option Job :=
  match j.kind with
  | .staging _ _ | .delivery _ _ => some { j with orphan := true }
  | .report _ | .configure => none

/-- The port after a port reset (R173, R174, R176, R177, R180). -/
def Port.afterReset (p : Port) : Port := { Port.powerOn with running := p.running.bind Job.orphaned, dataOut := p.dataOut, dmaOut := p.dmaOut }

/-- The frame is freed by a port reset: STAGED or FILLING with no sector read good, and neither in the field in progress nor lent to
the label read (R123). -/
def Frame.emptiedByReset (fr : Frame) : Bool :=
  fr.state == .staged || (fr.state == .filling && !fr.filled && fr.owner.isSome)

/-- The frames settled by a port reset (R123). -/
def State.resetFrames (s : State) : State :=
  let t := { s with cache := { s.cache with waits := s.cache.waits.filter (fun w => w.req.isNone) } }
  t.frameNumbers.foldl (fun u f =>
    if (u.frame f).emptiedByReset && t.fieldFrame != some f then u.freeFrame f else u) t

/-- The sequencer takes a port reset: it stops at once, or at the end of its motion or field (R102). -/
def State.resetSequencer (s : State) : State :=
  match s.seq.state with
  | .idle => if s.access.state = .holding then s.releaseLine else s
  | .searching | .updating => s.stopEnds
  | .seeking | .recalibrating | .reading | .writing | .verifying => s.mapSeq (fun q => { q with stopping := true })

/-- The port reset, in every state of the station (R180). -/
def State.portReset (s : State) : State :=
  let t := { s with
    port := s.port.afterReset
    queue := { s.queue with held := [], finished := [] }
    unit := { inProgress := none, flags := CondFlags.clear } }
  t.resetFrames.resetSequencer.settle

end Sys2Proof.Machine
end

