-- ==== Sys2Proof/Machine/Events.lean ====
section
/-! DEFINITION. What the meanings of the commands share: a station without power takes nothing (R20), an unconfigured one follows no
line event (R21, R23, R124, R152). -/

namespace Sys2Proof.Machine

/-- The outcome of a command. -/
abbrev Result := Host.Outcome State Fault Refusal

/-- The effect `f` on a station with power; without power nothing happens (R20, R23). -/
def State.live (s : State) (f : State → State) : Result := .next (if s.powered then f s else s)

/-- A millisecond passes (R70): the station clock advances by one, and wraps, and a HOLD that still stands untaken is found (R33). Nothing
else happens of itself: every other event of the spec that time brings has its own command (log entries 15, 56). -/
def State.tick (s : State) : State := if s.powered then State.findHold { s with clock := s.clock + 1 } else s

/-- The effect `f` on a configured station; an unconfigured one follows no event of the line or the drive (R21, R23, R124, R152). -/
def State.whenConfigured (s : State) (f : State → State) : State := if s.zones.configured then f s else s

/-- The effect `f` during a peer tenure that the station observed begin (R125, R126, R127). -/
def State.inPeerTenure (s : State) (f : State → State) : State := if s.peerTenure then f s else s

end Sys2Proof.Machine
end

