-- ==== Sys2Proof/Machine/CartridgeEvents.lean ====
section
/-! DEFINITION. The edges of RDY and ULR and the release timer's end (chapter 9, R101). -/

namespace Sys2Proof.Machine

/-- The drive's lines at the rise of RDY: SKC asserted, SNUM about to count from 0 (R2, R15). -/
def Pins.ready (p : Pins) : Pins := { p with rdy := true, skc := true, skf := false, snum := 0 }

/-- The drive's lines at the fall of RDY (R2, R9, R17, R18). -/
def Pins.unready (p : Pins) : Pins := { p with rdy := false, skc := false, skf := false, snum := 0 }

/-- RDY rises on a configured station (R126, R154). -/
def State.arrival (s : State) : State :=
  let t := s.mapMonitor (fun m => { m with arm := some 0 })
  if t.cart.state = .absent then t.enterLoading else t

/-- The sector whose WRG the fall of RDY cuts short is torn (R101, R114, R115). -/
def State.tornByFall (s : State) : State :=
  match s.seq.state, s.seq.sending with
  | .writing, some x => s.torn x.addr
  | _, _ => s

/-- The work in progress ends at the fall of RDY (R101, R102): a request fails CARTRIDGE-REMOVED, a refresh and a label read end
without verdict, work already stopping for a port reset stops. -/
def State.workCutByFall (s : State) : State :=
  let t := s.tornByFall.lineInactive
  if t.seq.stopping then t.stopEnds
  else
    match t.seq.work with
    | none => t.seqIdle
    | some (.request id) =>
      match t.request id with
      | none => t.seqIdle
      | some r => (t.settleFailedWrite .cartridgeRemoved).requestFails r .cartridgeRemoved (t.seq.sectorAddr t.seq.failIdx)
    | some (.refresh _) => t.seqIdle
    | some .label => t.seqIdle.freeLabelFrame

/-- A holder whose work has ended comes to its selection point (R39). -/
def State.pointIfHolding (s : State) : State :=
  if s.access.state = .holding && s.seq.work.isNone then s.selectionPoint else s

/-- RDY falls in a state other than ABSENT (R163): ABSENT is entered, the running work fails, the drain is made, and the records stand
in the order of R55. -/
def State.departure (s : State) : State :=
  let t := (s.enterAbsent.workCutByFall).drain .cartridgeRemoved
  (((t.orderFinished s.queue.finished.length).post).tidy).pointIfHolding

/-- RDY falls on a configured station (R126, R131, R163). The spec gives no order between the report of a write that the fall cuts short and
the arm cylinder becoming UNKNOWN: that the report comes first, so that a write whose header was not received good is located by the arm
cylinder as it stood (R130) and checked against the guard, is the model's choice (log entry 59). -/
def State.loseReady (s : State) (cap : Option PeerField) : State :=
  let t := (if s.peerTenure then s.cutShort cap else s).armUnknown
  (if t.cart.state = .absent then t else t.departure).settle

/-- ULR rises with RDY asserted (R159). -/
def State.unloadAsked (s : State) : State :=
  match s.cart.state with
  | .mounted => s.enterLeaving .mounted
  | .loading => s.enterLeaving .loading
  | .unusable => s.enterLeaving .unusable
  | .absent | .leaving | .released => s

/-- ULR falls with RDY asserted (R162). -/
def State.unloadCancelled (s : State) : State :=
  match s.cart.state, s.cart.recorded with
  | .leaving, some r | .released, some r => s.cancelUnload r
  | _, _ => s

/-- The release timer runs out (R160). -/
def State.releaseTimeout (s : State) : State :=
  if s.cart.state = .leaving && s.cart.timer.isSome then
    (s.enterReleased.drain .cartridgeRemoved).raise .releaseTimeout
  else s

/-- RDY_RISES (R15, R126, R154). -/
def execRdyRises (s : State) : Result :=
  s.live (fun t => State.whenConfigured { t with pins := t.pins.ready } (·.arrival.settle))

/-- RDY_FALLS (R18, R101, R126, R131, R163). -/
def execRdyFalls (cap : Option PeerField) (l : Lines) (s : State) : Result :=
  s.live (fun t =>
    let u := t.sample l
    State.whenConfigured { u with pins := u.pins.unready } (·.loseReady cap))

/-- ULR_RISES (R16, R159). -/
def execUlrRises (s : State) : Result :=
  s.live (fun t => State.whenConfigured { t with pins := { t.pins with ulr := true } }
    (fun u => if u.pins.rdy then u.unloadAsked.settle else u))

/-- ULR_FALLS (R16, R162). -/
def execUlrFalls (s : State) : Result :=
  s.live (fun t => State.whenConfigured { t with pins := { t.pins with ulr := false } }
    (fun u => if u.pins.rdy then u.unloadCancelled.settle else u))

/-- RELEASE_TIMER_EXPIRES (R160). -/
def execReleaseTimerExpires (s : State) : Result := s.live (·.releaseTimeout.settle)

end Sys2Proof.Machine
end

