-- ==== Sys2Proof/Machine/DmaEvents.lean ====
section
/-! DEFINITION. The data channel's events (R178). -/

namespace Sys2Proof.Machine

/-- The running job has moved its last word; then the records, the frames and the block behind a CONFIGURE are taken up (R116, R168,
R178). -/
def State.jobEnds (s : State) (ws : List Word) : State :=
  match s.port.running with
  | none => s
  | some j => s.leftByConfigure (s.jobDone j ws).settle

/-- The running job has ended at a word not answered (R178). -/
def State.jobStops (s : State) (n : Nat) (ws : List Word) : State :=
  match s.port.running with
  | none => s
  | some j => s.leftByConfigure (s.jobRefused j n ws).settle

/-- DMA_JOB_START (R116, R178). -/
def execDmaJobStart (s : State) : Result := s.live State.startJob

/-- DMA_JOB_ENDS (R53, R54, R66, R116, R168 to R171, R178). -/
def execDmaJobEnds (words : List Word) (s : State) : Result := s.live (·.jobEnds words)

/-- DMA_NO_ANSWER (R53, R66, R100, R148, R168, R178). -/
def execDmaNoAnswer (moved : Nat) (words : List Word) (s : State) : Result := s.live (·.jobStops moved words)

end Sys2Proof.Machine
end

