-- ==== Sys2Proof/Machine/LineEvents.lean ====
section
/-! DEFINITION. The drive line's events (chapter 2): the peer's PRES, HOLD, the gap and the windows of a round, backoff, yield call,
LINE-HELD. -/

namespace Sys2Proof.Machine

/-- The access record changed. -/
def State.mapAccess (s : State) (f : Access → Access) : State := { s with access := f s.access }

/-- The level of a line beyond the station's own drive: none while the peer is absent (R21). -/
def State.seen (s : State) (level : Bool) : Bool := level && s.pins.pres

/-! ### The peer's PRES and HOLD -/

/-- The peer's PRES rises on a configured station (R21, R25, R33, R39). -/
def State.peerArrives (s : State) : State :=
  let t := (s.raise .peerArrived).presChanged
  if t.pins.hold && t.access.state != .holding then t.takeUnidentified else t

/-- The peer's PRES falls on a configured station (R21, R25, R40). -/
def State.peerLeaves (s : State) (cap : Option PeerField) : State := ((s.holdingEnds cap).raise .peerLeft).presChanged

/-- A bidder's or checker's own round goes on through a pulse of HOLD; another station's gap count restarts (R24, R25, R34). -/
def State.restartGap (s : State) : State :=
  match s.access.state with
  | .bidding | .checking => s
  | .off | .idle | .waiting | .holding | .backoff => s.mapAccess (fun a => { a with round := none })

/-- HOLD falls beyond the station's own drive, with the peer present (R25, R40). In the check window of a station that does not proceed, a
pulse that falls again only restarts the gap (`holdBegins`, log entry 69). -/
def State.holdEnds (s : State) (cap : Option PeerField) : State := (s.holdingEnds cap).restartGap

/-- HOLD rises beyond the station's own drive where no identity check falls: an unidentified holding (R33, R34, R125). A pulse that
rises and falls within the check window of a station that does not proceed is taken for no holding, and its fall restarts the gap: R34 would
have it an unidentified holding, R31 and R33 would not; the model's choice (log entry 69). -/
def State.holdBegins (s : State) : State :=
  if s.access.round = some .check || s.access.state = .holding || s.access.peerHolding.isSome then s
  else s.takeUnidentified

/-! ### The round (R25 to R29) -/

/-- The gap can complete: HOLD is deasserted, and no round of the station's own is running (R25). -/
def State.gapCounts (s : State) : Bool :=
  !s.seen s.pins.hold &&
    (match s.access.state with
     | .idle | .waiting | .backoff => true
     | .off | .bidding | .checking | .holding => false)

/-- The station joins the round with its frozen urgency, or does not and a yield call falls (R26, R27, R38). -/
def State.joinRound (s : State) : State :=
  let u := s.bidUrgency
  if s.access.state = .waiting && s.hasWork then
    { s with access := { s.access with state := .bidding, frozen := u, round := some .window1 }
             lines := { s.lines with call := true, mark1 := decide (2 ≤ u), mark2 := false } }
  else
    { s with access := { s.access with frozen := u, round := some .window1 }, lines := { s.lines with call := false } }

/-- A gap completes: expiry and consultation, then the urgency is frozen and the round joined (R25, R26, R83). -/
def State.gapCompletes (s : State) : State := if s.gapCounts then s.prepare.settleAccess.joinRound else s

/-- The end of window 1 at a bidder (R27). -/
def State.endWindow1 (s : State) (mark1 : Bool) : State :=
  if s.access.frozen == 1 && s.seen mark1 then s.withdraw
  else { s with lines := { s.lines with mark1 := false, mark2 := s.access.frozen == 1 || s.access.frozen == 3 } }

/-- The end of window 2 at a surviving bidder (R27, R28). -/
def State.endWindow2 (s : State) (mark2 : Bool) : State :=
  if s.access.frozen == 2 && s.seen mark2 then s.withdraw
  else { s with lines := { s.lines with mark1 := s.identity == s.access.turn, mark2 := false } }

/-- The end of the tie window at a survivor: it withdraws, or enters the identity check (R28, R29). -/
def State.endTie (s : State) (mark1 : Bool) : State :=
  if s.identity != s.access.turn && s.seen mark1 then s.withdraw
  else
    { s with access := { s.access with state := .checking }
             lines := { s.lines with hold := true, mark1 := s.identity == .A, mark2 := s.identity == .B } }

/-- The windows of a round in turn: the effect on a bidder, and the next window. -/
def State.windowEnds (s : State) (w next : RoundWindow) (f : State → State) : State :=
  if s.access.round = some w then
    let t := s.mapAccess (fun a => { a with round := some next })
    if t.access.state = .bidding then f t else t
  else s

/-- The identity check collided (R29, R30, R32). -/
def State.collides (s : State) : State :=
  let k := if s.access.k < Config.maxCollisions then s.access.k + 1 else s.access.k
  let t := s.dropRound.countCollide
  State.raiseIf
    { t with access := { t.access with
        state := .backoff, turn := .A, k := k, backoff := some (backoffLength t.identity k), round := none } }
    (decide (s.access.k < Config.maxCollisions) && k == Config.maxCollisions) .lineTrouble

/-- The identity check passed: the tenure begins, and with it the first selection point (R29, R32, R35, R36). A holding of the peer's taken
during the round is one no more: the station's own tenures are never measured (R41). -/
def State.passes (s : State) : State :=
  State.selectionPoint { s with
    access := { s.access with
      state := .holding, turn := s.identity.other, k := 0, tenureStart := s.clock, round := none
      peerHolding := none, lineHeldRaised := false }
    lines := { s.lines with hold := true, call := false, mark1 := false, mark2 := false }
    drive := { DriveLines.off with enabled := true, wrd := s.drive.wrd } }

/-- The outcome of a round as a station that does not proceed in it reads it (R31, R32, R33, R38). -/
def State.readsOutcome (s : State) (hold mark1 mark2 : Bool) : State :=
  let t := s.mapAccess (fun a => { a with round := none })
  if t.seen hold then
    match t.peerMark mark1 mark2, t.ownMark mark1 mark2 with
    | true, false => t.peerTenureBegins.settleAccess.callIfUrgent
    | true, true => t.mapAccess (fun a => { a with turn := .A })
    | false, _ => if t.access.peerHolding.isSome then t else t.takeUnidentified
  else t

/-- The end of the identity check (R29, R31). -/
def State.checkEnds (s : State) (hold mark1 mark2 : Bool) : State :=
  if s.access.round = some .check then
    let t := { s with pins := { s.pins with hold := hold, mark1 := mark1, mark2 := mark2 } }
    if t.access.state = .checking then
      if t.seen (t.peerMark mark1 mark2) then t.collides else t.passes
    else t.readsOutcome hold mark1 mark2
  else s

/-- The backoff timer runs out (R30); a HOLD that still stands since the collision is found (R33). -/
def State.backoffEnds (s : State) : State :=
  if s.access.state = .backoff then
    (s.mapAccess (fun a => { a with state := s.restingState, backoff := none })).findHold
  else s

/-- LINE-HELD is raised once for the holding that the station measures: one of a present peer, and none in an own tenure (R41). -/
def State.raiseLineHeld (s : State) : State :=
  if s.access.peerHolding.isSome && s.pins.pres && !s.access.lineHeldRaised && s.access.state != .holding then
    State.raise { s with access := { s.access with lineHeldRaised := true } } .lineHeld
  else s

/-- The measure of HOLD passes 500 ms (R33, R41). -/
def State.lineIsHeld (s : State) : State := s.findHold.raiseLineHeld

/-! ### The commands -/

/-- PEER_PRES_RISES (R21, R25, R33). -/
def execPeerPresRises (s : State) : Result :=
  s.live (fun t => State.whenConfigured { t with pins := { t.pins with pres := true } } (·.peerArrives.settle))

/-- PEER_PRES_FALLS (R21, R25, R40, R131). -/
def execPeerPresFalls (cap : Option PeerField) (s : State) : Result :=
  s.live (fun t => State.whenConfigured { t with pins := { t.pins with pres := false } } (fun u => (u.peerLeaves cap).settle))

/-- HOLD_FALLS (R25, R33, R40, R131). -/
def execHoldFalls (cap : Option PeerField) (s : State) : Result :=
  s.live (fun t => State.whenConfigured { t with pins := { t.pins with hold := false } }
    (fun u => if u.pins.pres then (u.holdEnds cap).settle else u))

/-- HOLD_RISES (R33, R34). -/
def execHoldRises (s : State) : Result :=
  s.live (fun t => State.whenConfigured { t with pins := { t.pins with hold := true } }
    (fun u => if u.pins.pres then u.holdBegins.settle else u))

/-- GAP_COMPLETES (R25, R26, R27, R38, R83). -/
def execGapCompletes (l : Lines) (s : State) : Result := s.live (fun t => (t.sample l).whenConfigured (·.gapCompletes))

/-- WINDOW_1_ENDS (R27). -/
def execWindow1Ends (mark1 : Bool) (s : State) : Result :=
  s.live (fun t => State.windowEnds { t with pins := { t.pins with mark1 := mark1 } } .window1 .window2 (·.endWindow1 mark1))

/-- WINDOW_2_ENDS (R27, R28). -/
def execWindow2Ends (mark2 : Bool) (s : State) : Result :=
  s.live (fun t => State.windowEnds { t with pins := { t.pins with mark2 := mark2 } } .window2 .tie (·.endWindow2 mark2))

/-- TIE_WINDOW_ENDS (R28, R29). -/
def execTieWindowEnds (mark1 : Bool) (s : State) : Result :=
  s.live (fun t => State.windowEnds { t with pins := { t.pins with mark1 := mark1 } } .tie .check (·.endTie mark1))

/-- IDENTITY_CHECK_ENDS (R29 to R33, R35, R36, R38). -/
def execIdentityCheckEnds (hold mark1 mark2 : Bool) (l : Lines) (s : State) : Result :=
  s.live (fun t => ((t.sample l).checkEnds hold mark1 mark2).settle)

/-- BACKOFF_TIMER_EXPIRES (R30). -/
def execBackoffTimerExpires (s : State) : Result := s.live (·.backoffEnds)

/-- YIELD_CALL (R38). -/
def execYieldCall (l : Lines) (s : State) : Result :=
  s.live (fun t => (t.sample l).whenConfigured (·.settleAccess.callIfUrgent))

/-- LINE_HELD (R41). -/
def execLineHeld (s : State) : Result := s.live (·.lineIsHeld)

end Sys2Proof.Machine
end

