-- ==== Sys2Proof/Machine/PeerEvents.lean ====
section
/-! DEFINITION. The line monitor's events (chapter 7). -/

namespace Sys2Proof.Machine

/-- SKF stands asserted on the pins after its rise. -/
def Pins.faulted (p : Pins) : Pins := { p with skf := true }

/-- A header passes on RDD in an observed peer tenure: the arm cylinder is corrected, and a capture begins in a visited slot (R127,
R128). -/
def State.peerHeader (s : State) (visited : Bool) (ws : List Word) : State :=
  let t := s.correctArm ws
  if visited && (t.monitor.state == .watching || t.monitor.state == .holding) then t.beginCapture ws else t

/-- The effect on a monitor that is taking a capture (R128, R131). -/
def State.capturing (s : State) (f : State → State) : State := if s.monitor.state = .capturing then f s else s

/-- A capture finds no data sync: a read ends like one of kind none, a write is marked written without good capture (R128; log
entry 32). A gate with no effective cell by then ends as kind none, R128's moment for it being past; that no later cell of it is judged is
the model's choice, since R129 judges over the whole gate (log entry 68). -/
def State.dataSyncMissed (s : State) (d : PeerField) : State :=
  match s.monitor.kindOf d with
  | some .write => s.mapMonitor (fun m => { m with kind := some .write, verdict := some .notGood })
  | some .read | none => s.endUnreported

/-- PEER_SEEK_STROBE (R126). -/
def execPeerSeekStrobe (cyl : BitVec 9) (l : Lines) (s : State) : Result :=
  s.live (fun t => (t.sample l).inPeerTenure (·.peerSeek cyl.toNat))

/-- PEER_RCAL_STROBE (R126). -/
def execPeerRcalStrobe (l : Lines) (s : State) : Result := s.live (fun t => (t.sample l).inPeerTenure State.peerRecalibrate)

/-- PEER_SKF_RISES (R126). -/
def execPeerSkfRises (s : State) : Result :=
  s.live (fun t => State.inPeerTenure { t with pins := t.pins.faulted } State.peerFault)

/-- PEER_HSEL_CHANGE (R127). -/
def execPeerHselChange (hsel : Bool) (s : State) : Result :=
  s.live (·.inPeerTenure (·.mapMonitor (fun m => { m with head := if hsel then 1 else 0 })))

/-- PEER_HEADER (R127, R128, R138). -/
def execPeerHeader (visited : Bool) (words : List Word) (l : Lines) (s : State) : Result :=
  s.live (fun t => ((t.sample l).inPeerTenure (·.peerHeader visited words)).settle)

/-- CAPTURE_KIND_NONE (R128, R129). -/
def execCaptureKindNone (s : State) : Result := s.live (·.capturing State.endUnreported)

/-- CAPTURE_COMPLETES (R129 to R138). -/
def execCaptureCompletes (c : PeerCapture) (s : State) : Result :=
  s.live (fun t => (t.capturing (·.captureCompletes c)).settle)

/-- CAPTURE_CUT_SHORT (R129, R131, R133). -/
def execCaptureCutShort (field : PeerField) (s : State) : Result := s.live (fun t => (t.cutShort (some field)).settle)

/-- CAPTURE_DATA_SYNC_NOT_FOUND (R128). -/
def execCaptureDataSyncNotFound (field : PeerField) (s : State) : Result := s.live (·.capturing (·.dataSyncMissed field))

end Sys2Proof.Machine
end

