-- ==== Sys2Proof/Machine/PortCommands.lean ====
section
/-! DEFINITION. The computer port's addresses (R173 to R177, R180): INTAKE, OUTLET, NOTICES, CONTROL, and the intake's own events. -/

namespace Sys2Proof.Machine

/-- A word is written to INTAKE (R173). -/
def State.intakeWord (s : State) (w : Word) : State :=
  if s.port.waiting.isSome then { s with port := { s.port with overrun := true } }
  else
    let ws := s.port.partialBlock ++ [w]
    if ws.length < Config.blockWords then { s with port := { s.port with partialBlock := ws } }
    else s.completeBlock (blockOfWords ws)

/-- The intake after the removal of a record that led from `s` to `t`: the block behind a CONFIGURE just posted, or one that waits for
places, is processed again (R47, R168, R174). -/
def State.placeFreed (s t : State) : State := if s.configureHeld then s.leftByConfigure t else t.tryHeld

/-- A word is read from OUTLET (R174): after word 5 the record leaves, its place goes to a finished request and then to the waiting
block. -/
def State.outletWord (s : State) : State :=
  match s.port.fifo with
  | [] => { s with port := { s.port with dataOut := 0 } }
  | c :: cs =>
    let p := { s.port with dataOut := c.word s.port.readPos }
    if s.port.readPos + 1 < Config.recordWords then { s with port := { p with readPos := s.port.readPos + 1 } }
    else s.placeFreed (State.settle { s with port := { p with fifo := cs, readPos := 0 } })

/-- NOTICES is read: the set is returned and emptied (R176). -/
def State.noticesWord (s : State) : State :=
  { s with port := { s.port with dataOut := 0#1 ++ s.port.notices, notices := 0 } }

/-- A CONTROL write sets the two enables (R177). -/
def State.setEnables (s : State) (c n : Bool) : State :=
  { s with port := { s.port with completionEnable := c, noticeEnable := n } }

/-- The intake restart: the partial block discarded, the overrun cleared (R173). -/
def State.intakeRestarted (s : State) : State :=
  { s with port := { s.port with partialBlock := [], overrun := false } }

/-- INTAKE_WRITE (R173). -/
def execIntakeWrite (w : Word) (s : State) : Result := s.live (·.intakeWord w)

/-- SET_INTERRUPT_ENABLES (R177). -/
def execSetInterruptEnables (c n : Bool) (s : State) : Result := s.live (·.setEnables c n)

/-- INTAKE_RESTART (R173, R177): the same write sets the enables. -/
def execIntakeRestart (c n : Bool) (s : State) : Result := s.live (fun t => (t.setEnables c n).intakeRestarted)

/-- PORT_RESET (R177, R180): the enables are left clear whatever the word carries, and the reset covers what a restart does. -/
def execPortReset (_completion _notice _restart : Bool) (s : State) : Result := s.live State.portReset

/-- OUTLET_READ (R174). -/
def execOutletRead (s : State) : Result := s.live State.outletWord

/-- NOTICES_READ (R176). -/
def execNoticesRead (s : State) : Result := s.live State.noticesWord

/-- HELD_BLOCK_PROCESSED (R47). -/
def execHeldBlockProcessed (s : State) : Result := s.live State.tryHeld

/-- POST_WAITING_FINISHED (R55). -/
def execPostWaitingFinished (s : State) : Result := s.live State.settle

end Sys2Proof.Machine
end

