-- ==== Sys2Proof/Machine/PowerEvents.lean ====
section
/-! DEFINITION. Power (R20, R23, R167) and the bus reset (R180). -/

namespace Sys2Proof.Machine

/-- The strap's identity: low A, high B (R167). -/
def identityOf (ids : Bool) : Ident := if ids then .B else .A

/-- The station right after power-on: its blocks at their power-on values, the identity from the strap, the levels as found; the waiting
commands and the count of free values drawn are kept. -/
def State.poweredOn (s : State) (l : FoundLevels) : State :=
  { State.reset with
    pending := s.pending
    freeDraws := s.freeDraws
    identity := identityOf l.ids
    pins := { Pins.quiet with rdy := l.rdy, ulr := l.ulr, pres := l.pres, hold := l.hold } }

/-- The drivers of PRES, HOLD, CALL, the marks, CREL and the command lines cease together (R10, R20, R87); the tenure and the work end. -/
def State.powerGone (s : State) : State :=
  { s with powered := false, lines := StationLines.none, drive := DriveLines.off, access := Access.powerOn,
           seq := Sequencer.idle }

/-- POWER_ON (R23, R42, R70, R87, R104, R105, R124, R139, R152, R164, R167, R171). -/
def execPowerOn (l : FoundLevels) (s : State) : Result := .next (s.poweredOn l)

/-- POWER_LOST (R10, R20). -/
def execPowerLost (s : State) : Result := .next s.powerGone

/-- BRST_ASSERTED (R180). -/
def execBrstAsserted (s : State) : Result := s.live State.portReset

end Sys2Proof.Machine
end

