-- ==== Sys2Proof/Machine/RequestCommands.lean ====
section
/-! DEFINITION. A block of each request kind is completed at the intake (R43, R45, R47, R173). -/

namespace Sys2Proof.Machine

/-- A block of kind `k` is completed at the intake. -/
def State.blockOf (s : State) (k : Kind) (b : BlockBody) : State := s.completeBlock { kindCode := k.code, body := b }

/-- READ (R43, R50, R52). -/
def execRead (b : BlockBody) (s : State) : Result := s.live (·.blockOf .read b)

/-- CHECK (R43, R52). -/
def execCheck (b : BlockBody) (s : State) : Result := s.live (·.blockOf .check b)

/-- WRITE (R43, R52, R109). -/
def execWrite (b : BlockBody) (s : State) : Result := s.live (·.blockOf .write b)

/-- WRITE_VERIFY (R43, R52, R109). -/
def execWriteVerify (b : BlockBody) (s : State) : Result := s.live (·.blockOf .writeVerify b)

/-- UPDATE (R44, R52). -/
def execUpdate (b : BlockBody) (s : State) : Result := s.live (·.blockOf .update b)

/-- PIN (R43, R50, R111). -/
def execPin (b : BlockBody) (s : State) : Result := s.live (·.blockOf .pin b)

/-- UNPIN (R64). -/
def execUnpin (b : BlockBody) (s : State) : Result := s.live (·.blockOf .unpin b)

/-- DISCARD (R64). -/
def execDiscard (b : BlockBody) (s : State) : Result := s.live (·.blockOf .discard b)

/-- CANCEL (R61, R62). -/
def execCancel (b : BlockBody) (s : State) : Result := s.live (·.blockOf .cancel b)

/-- RELEASE_CARTRIDGE (R63, R160). -/
def execReleaseCartridge (b : BlockBody) (s : State) : Result := s.live (·.blockOf .releaseCartridge b)

/-- FETCH_FAULT (R65). -/
def execFetchFault (b : BlockBody) (s : State) : Result := s.live (·.blockOf .fetchFault b)

/-- REPORT (R66, R179). -/
def execReport (b : BlockBody) (s : State) : Result := s.live (·.blockOf .report b)

/-- CONFIGURE (R66, R168). -/
def execConfigure (b : BlockBody) (s : State) : Result := s.live (·.blockOf .configure b)

end Sys2Proof.Machine
end

