-- ==== Sys2Proof/Machine/SequencerEvents.lean ====
section
/-! DEFINITION. The transfer sequencer's events (chapter 5): motions, sector visits, headers, fields. -/

namespace Sys2Proof.Machine

/-- The sequencer stops for a port reset, or goes on with `f` (R102). -/
def State.stopOr (s : State) (f : State → State) : State := if s.seq.stopping then s.stopEnds else f s

/-- The end of a motion on SKC and SKF (R9). -/
def Pins.ended (p : Pins) (e : MotionEnd) : Pins := { p with skc := e == .skc, skf := e == .skf }

/-- SKC or SKF is asserted while a motion under way is waited for: the SEEK is strobed (R89). -/
def State.motionOver (s : State) : State :=
  if s.seq.state = .seeking && !s.seq.strobed && (s.pins.skc || s.pins.skf) then s.stopOr State.strobeSeek else s

/-- The wait for a motion under way has lasted 300 ms (R89). -/
def State.motionWaitOver (s : State) : State :=
  if s.seq.state = .seeking && !s.seq.strobed then s.stopOr State.seekFails else s

/-- An own seek has ended with SKC (R89). -/
def State.seekDone (s : State) : State := s.stopOr State.search

/-- An own seek has ended with SKF, or not within 80 ms (R89). -/
def State.seekBroken (s : State) : State := s.armUnknown.stopOr State.seekFails

/-- An own seek is under way. -/
def State.seekOpen (s : State) : Bool := s.seq.state == .seeking && s.seq.strobed

/-- The end of an own seek (R89). -/
def State.seekEnd (s : State) (e : MotionEnd) : State :=
  if s.seekOpen then
    let t := { s with pins := s.pins.ended e }
    match e with
    | .skc => t.seekDone
    | .skf => t.seekBroken
  else s

/-- An own recalibrate has failed (R90). -/
def State.recalibrateBroken (s : State) : State := s.armUnknown.stopOr State.positioningFails

/-- The end of an own recalibrate: the seek is strobed again, or the positioning has failed (R90). -/
def State.recalibrateEnd (s : State) (e : MotionEnd) : State :=
  if s.seq.state = .recalibrating then
    let t := { s with pins := s.pins.ended e }
    match e with
    | .skc => t.stopOr State.beginSeek
    | .skf => t.recalibrateBroken
  else s

/-- The SPL of a slot, between visits (R91). -/
def State.slot (s : State) : State :=
  if (s.seq.state = .searching || s.seq.state = .updating) && s.seq.visit.isNone then s.slotArrives else s

/-- The header of the visit in progress (R92). -/
def State.header (s : State) (h : HeaderField) : State :=
  match s.seq.state, s.seq.visit with
  | .searching, some idx => s.takeHeader idx h
  | _, _ => s

/-- The end of a data field read for data (R94). -/
def State.fieldRead (s : State) (d : DataField) : State :=
  match s.seq.state, s.seq.visit with
  | .reading, some idx =>
    s.stopOr (fun t =>
      if t.refreshVoid then t.endVoidRefresh
      else if fieldClass d = .good then t.readGood idx (fieldData d) else t.readBad idx)
  | _, _ => s

/-- The end of a data field being sent (R95, R97, R102). -/
def State.fieldWritten (s : State) : State :=
  match s.seq.state, s.seq.visit, s.seq.sending with
  | .writing, some idx, some x =>
    let t := s.sent x
    if t.seq.stopping then (t.stopWritten x).stopEnds
    else
      match t.seq.work with
      | some (.request id) =>
        match t.request id with
        | some r => t.requestWritten r idx x
        | none => t.seqIdle
      | _ => t.seqIdle
  | _, _, _ => s

/-- The end of a read-back (R96). -/
def State.readBack (s : State) (d : DataField) : State :=
  match s.seq.state, s.seq.visit, s.seq.work with
  | .verifying, some idx, work =>
    s.stopOr (fun t =>
      match work with
      | some (.request id) =>
        match t.request id with
        | some r => if fieldClass d = .good then t.verifiedGood r idx else t.verifiedBad idx
        | none => t.seqIdle
      | _ => t.seqIdle)
  | _, _, _ => s

/-- MOTION_WAIT_TIMEOUT (R89, R90). -/
def execMotionWaitTimeout (l : Lines) (s : State) : Result := s.live (fun t => (t.sample l).motionWaitOver.settle)

/-- SEEK_STROBE (R89). -/
def execSeekStrobe (l : Lines) (s : State) : Result := s.live (fun t => (t.sample l).motionOver.settle)

/-- SEEK_ENDS (R89, R90). -/
def execSeekEnds (e : MotionEnd) (l : Lines) (s : State) : Result := s.live (fun t => ((t.sample l).seekEnd e).settle)

/-- SEEK_TIMEOUT (R89, R90). -/
def execSeekTimeout (l : Lines) (s : State) : Result :=
  s.live (fun t =>
    let u := t.sample l
    (if u.seekOpen then u.seekBroken else u).settle)

/-- RECALIBRATE_ENDS (R90). -/
def execRecalibrateEnds (e : MotionEnd) (l : Lines) (s : State) : Result :=
  s.live (fun t => ((t.sample l).recalibrateEnd e).settle)

/-- RECALIBRATE_TIMEOUT (R90). -/
def execRecalibrateTimeout (l : Lines) (s : State) : Result :=
  s.live (fun t =>
    let u := t.sample l
    (if u.seq.state = .recalibrating then u.recalibrateBroken else u).settle)

/-- SECTOR_VISIT (R91). -/
def execSectorVisit (l : Lines) (s : State) : Result := s.live (fun t => (t.sample l).slot)

/-- HEADER_READ (R92, R93, R95). -/
def execHeaderRead (h : HeaderField) (l : Lines) (s : State) : Result := s.live (fun t => ((t.sample l).header h).settle)

/-- DATA_FIELD_READ (R94, R97, R99). -/
def execDataFieldRead (d : DataField) (l : Lines) (s : State) : Result := s.live (fun t => ((t.sample l).fieldRead d).settle)

/-- DATA_FIELD_WRITTEN (R95, R97, R99). -/
def execDataFieldWritten (l : Lines) (s : State) : Result := s.live (fun t => ((t.sample l).fieldWritten).settle)

/-- READ_BACK_ENDS (R96, R99). -/
def execReadBackEnds (d : DataField) (l : Lines) (s : State) : Result := s.live (fun t => ((t.sample l).readBack d).settle)

end Sys2Proof.Machine
end

