-- ==== Sys2Proof/Machine/Dispatch.lean ====
section
/-! DEFINITION. The effect of every command, one arm for each constructor of Instr. -/

namespace Sys2Proof.Machine

def exec (i : Instr) (s : State) : Host.Outcome State Fault Refusal :=
  match i with
  | .powerOn found => Sys2Proof.Machine.execPowerOn found s
  | .brstAsserted => Sys2Proof.Machine.execBrstAsserted s
  | .intakeWrite w => Sys2Proof.Machine.execIntakeWrite w s
  | .setInterruptEnables c n => Sys2Proof.Machine.execSetInterruptEnables c n s
  | .intakeRestart c n => Sys2Proof.Machine.execIntakeRestart c n s
  | .portReset c n r => Sys2Proof.Machine.execPortReset c n r s
  | .outletRead => Sys2Proof.Machine.execOutletRead s
  | .noticesRead => Sys2Proof.Machine.execNoticesRead s
  | .read b => Sys2Proof.Machine.execRead b s
  | .check b => Sys2Proof.Machine.execCheck b s
  | .write b => Sys2Proof.Machine.execWrite b s
  | .writeVerify b => Sys2Proof.Machine.execWriteVerify b s
  | .update b => Sys2Proof.Machine.execUpdate b s
  | .pin b => Sys2Proof.Machine.execPin b s
  | .unpin b => Sys2Proof.Machine.execUnpin b s
  | .discard b => Sys2Proof.Machine.execDiscard b s
  | .cancel b => Sys2Proof.Machine.execCancel b s
  | .releaseCartridge b => Sys2Proof.Machine.execReleaseCartridge b s
  | .fetchFault b => Sys2Proof.Machine.execFetchFault b s
  | .report b => Sys2Proof.Machine.execReport b s
  | .configure b => Sys2Proof.Machine.execConfigure b s
  | .heldBlockProcessed => Sys2Proof.Machine.execHeldBlockProcessed s
  | .postWaitingFinished => Sys2Proof.Machine.execPostWaitingFinished s
  | .rdyRises => Sys2Proof.Machine.execRdyRises s
  | .rdyFalls cap l => Sys2Proof.Machine.execRdyFalls cap l s
  | .ulrRises => Sys2Proof.Machine.execUlrRises s
  | .ulrFalls => Sys2Proof.Machine.execUlrFalls s
  | .peerPresRises => Sys2Proof.Machine.execPeerPresRises s
  | .peerPresFalls cap => Sys2Proof.Machine.execPeerPresFalls cap s
  | .holdFalls cap => Sys2Proof.Machine.execHoldFalls cap s
  | .holdRises => Sys2Proof.Machine.execHoldRises s
  | .gapCompletes l => Sys2Proof.Machine.execGapCompletes l s
  | .window1Ends m => Sys2Proof.Machine.execWindow1Ends m s
  | .window2Ends m => Sys2Proof.Machine.execWindow2Ends m s
  | .tieWindowEnds m => Sys2Proof.Machine.execTieWindowEnds m s
  | .identityCheckEnds h m n l => Sys2Proof.Machine.execIdentityCheckEnds h m n l s
  | .backoffTimerExpires => Sys2Proof.Machine.execBackoffTimerExpires s
  | .yieldCall l => Sys2Proof.Machine.execYieldCall l s
  | .lineHeld => Sys2Proof.Machine.execLineHeld s
  | .releaseTimerExpires => Sys2Proof.Machine.execReleaseTimerExpires s
  | .motionWaitTimeout l => Sys2Proof.Machine.execMotionWaitTimeout l s
  | .seekStrobe l => Sys2Proof.Machine.execSeekStrobe l s
  | .seekEnds e l => Sys2Proof.Machine.execSeekEnds e l s
  | .seekTimeout l => Sys2Proof.Machine.execSeekTimeout l s
  | .recalibrateEnds e l => Sys2Proof.Machine.execRecalibrateEnds e l s
  | .recalibrateTimeout l => Sys2Proof.Machine.execRecalibrateTimeout l s
  | .sectorVisit l => Sys2Proof.Machine.execSectorVisit l s
  | .headerRead h l => Sys2Proof.Machine.execHeaderRead h l s
  | .dataFieldRead d l => Sys2Proof.Machine.execDataFieldRead d l s
  | .dataFieldWritten l => Sys2Proof.Machine.execDataFieldWritten l s
  | .readBackEnds d l => Sys2Proof.Machine.execReadBackEnds d l s
  | .dmaJobStart => Sys2Proof.Machine.execDmaJobStart s
  | .dmaJobEnds ws => Sys2Proof.Machine.execDmaJobEnds ws s
  | .dmaNoAnswer n ws => Sys2Proof.Machine.execDmaNoAnswer n ws s
  | .peerSeekStrobe cyl l => Sys2Proof.Machine.execPeerSeekStrobe cyl l s
  | .peerRcalStrobe l => Sys2Proof.Machine.execPeerRcalStrobe l s
  | .peerSkfRises => Sys2Proof.Machine.execPeerSkfRises s
  | .peerHselChange h => Sys2Proof.Machine.execPeerHselChange h s
  | .peerHeader v ws l => Sys2Proof.Machine.execPeerHeader v ws l s
  | .captureKindNone => Sys2Proof.Machine.execCaptureKindNone s
  | .captureCompletes c => Sys2Proof.Machine.execCaptureCompletes c s
  | .captureCutShort d => Sys2Proof.Machine.execCaptureCutShort d s
  | .powerLost => Sys2Proof.Machine.execPowerLost s
  | .captureDataSyncNotFound d => Sys2Proof.Machine.execCaptureDataSyncNotFound d s

end Sys2Proof.Machine
end

