-- ==== Sys2Proof/Safety.lean ====
section
/-! DEFINITION. What the claims speak of: the invariants of a station, a quiet intake, and the conditions under which admission accepts
a block. -/

namespace Sys2Proof.Machine

/-! ### Invariants -/

/-- The frame store is in its canonical form. -/
def StoreInv (s : State) : Prop := Memory.wf s.cache.store

/-- The fault list as R103 has it: at most 16 entries, no two alike in address and kind, each counted 1 to 255 times. -/
structure FaultInv (s : State) : Prop where
  atMost : s.faults.entries.length ≤ Config.maxFaults
  unlike : s.faults.entries.Pairwise (fun d e => ¬(d.addr = e.addr ∧ d.kind = e.kind))
  counts : ∀ e ∈ s.faults.entries, 1 ≤ e.repeats ∧ e.repeats ≤ 255

/-- The port as R173 and R174 have it: at most 16 records, a read position within the oldest, at most seven words of a partial block
and none while a block waits. -/
structure PortInv (s : State) : Prop where
  places  : s.port.fifo.length ≤ Config.fifoPlaces
  reading : s.port.readPos < Config.recordWords
  unread  : s.port.fifo = [] → s.port.readPos = 0
  words   : s.port.partialBlock.length < Config.blockWords
  waiting : s.port.waiting.isSome → s.port.partialBlock = []

/-- The held requests have ids of their own, all below the next one (R52). -/
structure IdInv (s : State) : Prop where
  unlike : (s.queue.held.map (·.id)).Nodup
  below  : ∀ r ∈ s.queue.held, r.id < s.queue.nextId

/-- The drive line as chapter 2 has it: HOLD is driven in the identity check and in a tenure and nowhere else (R33), the command lines
in a tenure alone (R10, R35), and the sequencer works in a tenure alone (R87); the access state is OFF exactly until the station is
configured (R23), PRES says that it is (R20), CREL that it is RELEASED (R22); k is at most 8 (R29), the backoff timer runs in
BACKOFF (R30), and an IDLE sequencer has nothing to stop for a port reset (R102). -/
structure LineInv (s : State) : Prop where
  hold    : s.lines.hold = true ↔ s.access.state = .checking ∨ s.access.state = .holding
  drivers : s.drive.enabled = true ↔ s.access.state = .holding
  gates   : s.access.state ≠ .holding → s.drive.rdg = false ∧ s.drive.wrg = false ∧ s.drive.hsel = false ∧ s.drive.cyl = 0
  work    : s.seq.state ≠ .idle → s.access.state = .holding
  off     : s.access.state = .off ↔ ¬(s.powered = true ∧ s.zones.configured = true)
  pres    : s.lines.pres = true ↔ s.powered = true ∧ s.zones.configured = true
  crel    : s.lines.crel = true ↔ s.powered = true ∧ s.cart.state = .released
  absent  : s.zones.configured = false → s.cart.state = .absent
  count   : s.access.k ≤ Config.maxCollisions
  timer   : s.access.backoff.isSome = true ↔ s.access.state = .backoff
  stopped : s.seq.state = .idle → s.seq.stopping = false

/-! ### The sequencer at work -/

/-- The sequencer is in state `st` on the visit of sector index `idx` for the held request `r`, in the station's own tenure and not
stopping for a port reset. -/
structure Visiting (s : State) (st : SeqState) (r : Request) (idx : Nat) : Prop where
  state  : s.seq.state = st
  work   : s.seq.work = some (.request r.id)
  held   : s.request r.id = some r
  visit  : s.seq.visit = some idx
  going  : s.seq.stopping = false
  tenure : s.access.state = .holding

/-! ### Blocks at the intake -/

/-- The command of a block of kind `k`. -/
def blockCommand (k : Kind) (b : BlockBody) : Instr :=
  match k with
  | .read => .read b
  | .check => .check b
  | .write => .write b
  | .writeVerify => .writeVerify b
  | .update => .update b
  | .pin => .pin b
  | .unpin => .unpin b
  | .discard => .discard b
  | .cancel => .cancel b
  | .releaseCartridge => .releaseCartridge b
  | .fetchFault => .fetchFault b
  | .report => .report b
  | .configure => .configure b

/-- Nothing stands ready to be taken up between commands: power is on, no allocation and no finished request waits, no frame is left
that nothing reads any more. -/
structure Still (s : State) : Prop where
  powered  : s.powered = true
  waits    : s.cache.waits = []
  finished : s.queue.finished = []
  spent    : ∀ f ∈ s.frameNumbers, s.spent f = false

/-- The station is still, its intake is empty and not held, no chain is open, and the access state agrees with its drive work (R24). -/
structure Quiet (s : State) : Prop extends Still s where
  intake  : s.port.waiting = none
  free    : s.configureHeld = false
  staged  : s.stagedMembers = []
  idle    : s.access.state = .idle → s.hasWork = false
  waiting : s.access.state = .waiting → s.hasWork = true

/-- The access state is one of those that a change of the drive work does not move (R24). -/
def Steady (s : State) : Prop := s.access.state ≠ .idle ∧ s.access.state ≠ .waiting

/-- The next request's id is new: above every held one's, and no frame, job or waiting allocation carries it. -/
structure Fresh (s : State) : Prop where
  held   : ∀ r ∈ s.queue.held, r.id < s.queue.nextId
  frames : ∀ fr ∈ s.cache.frames, fr.owner ≠ some s.queue.nextId
  jobs   : ∀ j ∈ s.allJobs, j.req ≠ s.queue.nextId

/-- The disk address and count of a block lie in range (check 3 of R48). -/
structure InRange (b : BlockBody) : Prop where
  cylinder : b.cyl.toNat ≤ 399
  head     : b.head.toNat ≤ 1
  sector   : b.sector.toNat ≤ 19
  least    : 1 ≤ b.count.toNat
  most     : b.head.toNat * 20 + b.sector.toNat + b.count.toNat ≤ 40

/-- The tag is that of no held request (check 5 of R48). -/
def freshTag (s : State) (b : BlockBody) : Prop := ∀ r ∈ s.queue.held, r.tag ≠ b.tag

/-- The checks before that of the cartridge state pass for a drive block that stands alone or opens a chain (R48, R49). -/
structure Passes (s : State) (k : Kind) (b : BlockBody) : Prop where
  configured : s.zones.configured = true
  drive      : k.isDrive = true
  condition  : b.condCode ≠ 3
  operation  : k = .update → b.opCode.toNat ≤ 4 ∧ b.count = 1
  range      : InRange b
  deadline   : b.deadline.toNat ≤ 30000
  memory     : k = .read ∨ k.isWrite = true → b.mem.toNat + b.count.toNat * 256 ≤ 262144
  tag        : freshTag s b
  chain      : b.continues = true → k ≠ .pin
  writing    : k.isWrite = true ∨ (k = .update ∧ b.opCode ≠ 2) →
                 ∀ i ∈ blockIndices b, s.zones.refusesWrite (sectorAt b.cyl.toNat i) = false
  cached     : k = .pin → s.zones.mode b.cyl.toNat ≠ .none

/-- The last checks pass as well: the cartridge state takes drive work, a slot is free, the frames can be promised, the pins stay within
48 (R50, R51). -/
structure Accepts (s : State) (k : Kind) (b : BlockBody) : Prop extends Passes s k b where
  cartridge : s.cart.state = .loading ∨ s.cart.state = .mounted
  slot      : s.queue.held.length < 16
  frames    : s.reservedCount + k.need b.count.toNat ≤ s.available
  pins      : k = .pin → s.pinnedCount + s.promisedPins
                + ((blockIndices b).filter (fun i => !s.isPinned (sectorAt b.cyl.toNat i))).length ≤ 48

/-- The checks pass for an immediate block that stands alone (R48, R49); the tests of its kind apart. -/
structure PassesPlain (s : State) (k : Kind) (b : BlockBody) : Prop where
  configured : s.zones.configured = true ∨ k = .configure
  immediate  : k.isDrive = false
  condition  : b.condCode ≠ 3
  tag        : freshTag s b
  alone      : b.continues = true → k = .cancel ∨ k = .configure
  range      : k = .unpin ∨ k = .discard → InRange b
  report     : k = .report → b.mem.toNat + 9 ≤ 262143 ∧ s.queue.held.length < 16
  configure  : k = .configure → b.mem.toNat + 19 ≤ 262143

/-- The due time that a block's deadline gives (R46, R71). -/
def dueOf (s : State) (b : BlockBody) : Clock :=
  s.clock + (if b.deadline = 0 then 2500 else BitVec.ofNat 32 b.deadline.toNat)

/-- The record of a request accepted now from a block of kind `k` that stands alone: in state `st`, with `n` frames reserved (R42, R46,
R52, R71). -/
def loneRequest (s : State) (k : Kind) (b : BlockBody) (st : ReqState) (n : Nat) : Request :=
  { id := s.queue.nextId, tag := b.tag, kind := k,
    addr := { cyl := b.cyl.toNat, head := b.head.toNat, sec := b.sector.toNat }, count := b.count.toNat, mem := b.mem.toNat,
    explicit := b.deadline != 0, bypass := b.bypass, dropIfLate := b.dropIfLate, continues := b.continues,
    cond := (condOfCode b.condCode).getD .always, offset := b.offset.toNat, op := (opOfCode b.opCode).getD .set,
    opA := b.opA, opB := b.opB, accepted := s.clock, due := if k.isDrive then some (dueOf s b) else none, state := st,
    done := [], source := none, reserved := n, slack := none, chain := none,
    hazard := if k.isDrive then blockIndices b else [], hazardWritten := if k.writesForHazards then blockIndices b else [],
    promised := [], outcome := none, failAt := none, mark := none, refusedAt := none, written := false, oldWord := 0,
    newWord := 0, flags := CondFlags.clear }

/-- A sector of the block's range. -/
def blockSector (b : BlockBody) (i : Nat) : SectorAddr := sectorAt b.cyl.toNat i

/-- A record with the fields that a refusal and most successes have: no flags, both words 0, the time now (R68). -/
def plainRecord (s : State) (k : Kind) (b : BlockBody) (o : ReqOutcome) (src : Source) (n : Nat) : Completion :=
  { tag := b.tag, kindCode := k.code, outcome := o, late := false, written := false, flags := CondFlags.clear,
    source := src, sectors := n, wordA := 0, wordB := 0, time := s.clock.extractLsb' 0 16 }

/-! ### A drive request that stands alone -/

/-- The work queue holds `r` alone, a drive request outside any chain with no delivery of its own outstanding, and the FIFO has a
place. -/
structure Lone (s : State) (r : Request) : Prop where
  held    : s.queue.held = [r]
  drive   : r.kind.isDrive = true
  chain   : r.chain = none
  settled : s.delivering r.id = false
  place   : s.port.fifo.length < 16

/-- A drain would end `r`: it stands alone in STAGING or WAITING with a sector left to do, and no VALID frame gives it one (R157). -/
structure Drainable (s : State) (r : Request) : Prop extends Lone s r where
  state  : r.state = .staging ∨ r.state = .waiting
  undone : r.undone ≠ []
  misses : r.kind = .read ∨ r.kind = .pin → ∀ i ∈ r.undone, s.validFrame (sectorAt r.addr.cyl i) = none

/-- From `s` to `t` a drain with outcome `o` has ended `r`: `c` is its record, with its sectors done and its first sector not done; nothing
is held, no job of it is left and its STAGED frames are FREE (R157). -/
structure Drained (o : ReqOutcome) (s : State) (r : Request) (c : Completion) (t : State) : Prop where
  tag     : c.tag = r.tag
  kind    : c.kindCode = r.kind.code
  outcome : c.outcome = o
  sectors : c.sectors = r.done.length
  wordA   : c.wordA = (sectorAt r.addr.cyl (r.undone.headD 0)).word
  held    : t.queue.held = []
  jobs    : ∀ j ∈ t.allJobs, j.isFor r.id = false
  frames  : ∀ g, (s.frame g).owner = some r.id → (s.frame g).state = .staged → t.frame g = Frame.free

/-- From `s` to `t` a drain with outcome `o` has marked `m`, the one member of an open chain: it stays in PENDING-CHAIN with its mark, or
with the one it had, no frame of it reserved, no staging job of it left and its STAGED frames FREE (R158). -/
structure Marked (o : ReqOutcome) (s : State) (m : Request) (t : State) : Prop where
  held   : t.queue.held = [{ m with reserved := 0, mark := some (m.mark.getD o) }]
  jobs   : ∀ j ∈ t.allJobs, j.isFor m.id = true → j.isStaging = false
  frames : ∀ g, (s.frame g).owner = some m.id → (s.frame g).state = .staged → t.frame g = Frame.free
  fifo   : t.port.fifo = s.port.fifo

/-! ### Frames -/

/-- The frame record that a directory frame retires to (R116). -/
def Frame.retired (fr : Frame) : Frame := { fr with state := .stale, inDir := false, pinned := false, owner := none }

/-- From `s` to `t` frame `f` has become the VALID directory frame of sector `a`, pinned if `pin` or if another directory frame of the
sector was; that one is FREE, or retired while a delivery reads it, and out of the refresh set; `f` is the most recent, and every other
frame stands (R106, R108, R112, R114). -/
structure TakesOver (s t : State) (f : Nat) (a : SectorAddr) (pin : Bool) : Prop where
  frame   : t.frame f = { Frame.free with
    state := .valid, addr := some a, inDir := true
    pinned := pin || (s.dirFrame a).any (fun g => g != f && (s.frame g).pinned) }
  freed   : ∀ g, s.dirFrame a = some g → g ≠ f → s.hold g = 0 → t.frame g = Frame.free
  retired : ∀ g, s.dirFrame a = some g → g ≠ f → s.hold g ≠ 0 → t.frame g = (s.frame g).retired
  others  : ∀ n, n ≠ f → s.dirFrame a ≠ some n → t.frame n = s.frame n
  lru     : t.cache.lru = s.cache.lru.filter (fun n => n != f && s.dirFrame a != some n) ++ [f]
  refresh : ∀ e ∈ t.cache.refresh, e.frame ≠ f ∧ s.dirFrame a ≠ some e.frame

/-- The sequencer is IDLE and the line released. -/
structure LineReleased (t : State) : Prop where
  seq     : t.seq = Sequencer.idle
  access  : t.access.state = .idle
  hold    : t.lines.hold = false
  drivers : t.drive.enabled = false

end Sys2Proof.Machine
end

