-- ==== Sys2Proof/Certificates/Slice0/Obligations.lean ====
section
/-! DEFINITION. The statements about one station, drawn from the spec's numbered rules chapter by chapter. Each says in its docstring
which rules it rests on; a clause that rests on a choice of the model names its log entry. -/

open Sys2Proof Sys2Proof.Machine

/-! ### The machine -/

/-- For every command and every state, a step with the command at the front of the queue is the command carried out on the state with
the queue's rest (the form of the model; log entry 15). -/
def Obligations.StepRunsTheFrontCommand : Prop :=
  ∀ (s : State) (c : Instr) (cs : List Instr), s.pending = c :: cs → step s = exec c { s with pending := cs }

/-- With no command waiting a step is one millisecond of the station clock of a station with power, and nothing at all without (R70; log
entry 15, the model's choice). A HOLD of a present peer that still stands then, with no holding taken for it, no identity check placed by
the station's own count and no tenure or bid of its own, is found and taken as an unidentified holding, and the arm cylinder becomes UNKNOWN
(R33, R125; that it is found at this moment is the model's reading, log entry 56). Nothing else changes. -/
def Obligations.EmptyQueueTicks : Prop :=
  ∀ s : State, s.pending = [] →
    let found := s.pins.hold = true ∧ s.pins.pres = true ∧ s.access.peerHolding = none ∧ s.access.round ≠ some .check
      ∧ (s.access.state = .idle ∨ s.access.state = .waiting ∨ s.access.state = .backoff)
    (s.powered = false → step s = .next s)
    ∧ (s.powered = true → ¬found → step s = .next { s with clock := s.clock + 1 })
    ∧ (s.powered = true → found → step s = .next { s with
        clock := s.clock + 1
        access := { s.access with peerHolding := some .unidentified, lineHeldRaised := false }
        monitor := { s.monitor with arm := none } })

/-- The values that the spec gives for power-on (R23, R42, R70, R87, R105, R124, R139, R152, R164, R165, R166, R176): the access state is
OFF, the turn mark A, k 0, the backoff timer stopped, no station line driven; the clock 0; no request held; the sequencer IDLE; 64 FREE
frames, nothing in the LRU order, the refresh set or the reservation; the monitor INACTIVE with the arm cylinder UNKNOWN; the flags clear;
cartridge control ABSENT with no serial; 16 zones of mode NONE with writing permitted, no cylinder guarded, every threshold OFF; the
station unconfigured and not locked; no notice pending. -/
def Obligations.PowerOnValues : Prop :=
  State.reset.access.state = .off ∧ State.reset.access.turn = .A ∧ State.reset.access.k = 0 ∧ State.reset.access.backoff = none
    ∧ State.reset.lines = { hold := false, call := false, mark1 := false, mark2 := false, pres := false, crel := false }
    ∧ State.reset.clock = 0 ∧ State.reset.queue.held = [] ∧ State.reset.queue.finished = [] ∧ State.reset.seq.state = .idle
    ∧ State.reset.cache.frames.length = 64 ∧ (∀ fr ∈ State.reset.cache.frames, fr.state = .free ∧ fr.pinned = false ∧ fr.inDir = false)
    ∧ State.reset.cache.lru = [] ∧ State.reset.cache.refresh = [] ∧ State.reset.reservedCount = 0
    ∧ State.reset.monitor.state = .inactive ∧ State.reset.monitor.arm = none
    ∧ State.reset.unit.inProgress = none ∧ State.reset.unit.flags = { z := false, c := false, n := false }
    ∧ State.reset.cart.state = .absent ∧ State.reset.cart.lastSerial = none ∧ State.reset.cart.timer = none
    ∧ State.reset.zones.map.length = 16 ∧ (∀ e ∈ State.reset.zones.map, e.mode = .none ∧ e.noWrite = false)
    ∧ (∀ c, State.reset.zones.guarded c = false)
    ∧ State.reset.zones.thresholds = { retry := 0, collide := 0, capture := 0, late := 0 }
    ∧ State.reset.zones.lock = false ∧ State.reset.zones.configured = false
    ∧ State.reset.port.notices = 0 ∧ State.reset.port.fifo = [] ∧ State.reset.port.jobs = [] ∧ State.reset.faults.entries = []

/-- The five invariants hold of the station right after power-on. -/
def Obligations.InvariantsAtPowerOn : Prop :=
  StoreInv State.reset ∧ FaultInv State.reset ∧ PortInv State.reset ∧ IdInv State.reset ∧ LineInv State.reset

/-- Every step keeps the frame store (R105) in its canonical form (a form of the model, log entry 3): cells strictly rising in address, none
equal to what an unlisted byte reads as. -/
def Obligations.StepKeepsStore : Prop := ∀ s t : State, StoreInv s → step s = .next t → StoreInv t

/-- Every step keeps the fault list as R103 has it: at most 16 entries, no two alike in address and kind, each counted 1 to 255 times. -/
def Obligations.StepKeepsFaultList : Prop := ∀ s t : State, FaultInv s → step s = .next t → FaultInv t

/-- Every step keeps the port as R173 and R174 have it: at most 16 completion records, the read position within the oldest record, at
most seven words of a partial block and none while a block waits. -/
def Obligations.StepKeepsPort : Prop := ∀ s t : State, PortInv s → step s = .next t → PortInv t

/-- Every step keeps the held requests under ids of their own, each below the next one. The ids are the model's own numbering of the
acceptances (log entry 37, the model's choice); they stand for the order of acceptance that R52 and R55 speak of. -/
def Obligations.StepKeepsRequestIds : Prop := ∀ s t : State, IdInv s → step s = .next t → IdInv t

/-- Every step keeps the drive line's bond between the access state and what the station drives (R10, R20, R22, R23, R29, R30, R33, R35,
R87): HOLD is driven in the identity check and in a tenure and nowhere else, the command lines and the sequencer's work belong to a tenure,
OFF is the state of an unconfigured station alone, PRES says that it is configured, CREL that it is RELEASED, k is at most 8, the backoff
timer runs in BACKOFF alone, and an IDLE sequencer is not stopping for a port reset (R102). -/
def Obligations.StepKeepsLine : Prop := ∀ s t : State, LineInv s → step s = .next t → LineInv t

/-- POWER_ON puts every block at its power-on values, takes the identity from the strap (low A, high B: R167) and finds the levels of RDY,
ULR, the peer's PRES and HOLD; the waiting commands stay. That the other lines are found quiet (log entry 2), that the frame store is empty
(log entry 3) and that the items without a power-on value in the spec are 0 or absent (log entry 5) is the model's choice. POWER_LOST ceases
every driver of the station at once (R10, R20); that every other register keeps its value unseen is the model's choice (log entry 39).
Without power no other command has any effect (R20, R23; the model's reading, log entry 28). -/
def Obligations.PowerCommands : Prop :=
  (∀ (s : State) (l : FoundLevels), exec (.powerOn l) s = .next
    { State.reset with
      pending := s.pending, freeDraws := s.freeDraws, identity := if l.ids then .B else .A,
      pins := { Pins.quiet with rdy := l.rdy, ulr := l.ulr, pres := l.pres, hold := l.hold } })
  ∧ (∀ s : State, exec .powerLost s = .next
    { s with powered := false,
             lines := { hold := false, call := false, mark1 := false, mark2 := false, pres := false, crel := false },
             drive := { enabled := false, cyl := 0, hsel := false, rdg := false, wrg := false, wrd := [] },
             access := Access.powerOn, seq := Sequencer.idle })
  ∧ (∀ (s : State) (c : Instr), s.powered = false → (∀ l, c ≠ .powerOn l) → c ≠ .powerLost → exec c s = .next s)

/-- Every command but POWER_ON leaves the waiting commands, the station clock and the identity as they stand (R167), and neither
the configured flag nor the lock is ever cleared by one (R171, R172). That the clock stands during a command is the model's choice, since a
millisecond passes on an empty queue alone (log entry 15), and so is that POWER_LOST keeps the registers (log entry 39). -/
def Obligations.CommandsKeepClockAndLock : Prop :=
  ∀ (s : State) (c : Instr), (∀ l, c ≠ .powerOn l) →
    ∃ t, exec c s = .next t ∧ t.pending = s.pending ∧ t.clock = s.clock ∧ t.identity = s.identity
      ∧ (s.zones.configured = true → t.zones.configured = true) ∧ (s.zones.lock = true → t.zones.lock = true)

/-- A station in IDLE enters WAITING when its bid urgency is 1 or more and its cartridge state is LOADING or MOUNTED; one in WAITING
returns to IDLE when either ceases, and drops CALL; the other access states are not moved (R24, R38). Nothing but the access state and
CALL changes. -/
def Obligations.DriveWorkMovesAccess : Prop :=
  ∀ s : State,
    let work := 1 ≤ s.bidUrgency ∧ (s.cart.state = .loading ∨ s.cart.state = .mounted)
    (s.access.state = .idle → work → s.settleAccess = { s with access := { s.access with state := .waiting } })
    ∧ (s.access.state = .idle → ¬work → s.settleAccess = s)
    ∧ (s.access.state = .waiting → work → s.settleAccess = s)
    ∧ (s.access.state = .waiting → ¬work →
        s.settleAccess = { s with access := { s.access with state := .idle }, lines := { s.lines with call := false } })
    ∧ (s.access.state ≠ .idle → s.access.state ≠ .waiting → s.settleAccess = s)

/-! ### Arithmetic, formats, counters, the fault list -/

/-- The five operations of the update unit: the new word, Z, C and N of each (R140). Operand B is read by STORE-IF-EQUAL alone; a
STORE-IF-EQUAL whose comparison fails leaves Z clear and N is bit 15 of the unchanged word; all three flags of the unit are replaced. -/
def Obligations.UpdateArithmetic : Prop :=
  (∀ a b old : Word,
    (updateWord .set a b old = old ||| a ∧ (updateFlags .set a b old).z = decide (old ||| a = 0) ∧ (updateFlags .set a b old).c = false)
    ∧ (updateWord .clear a b old = old &&& ~~~a ∧ (updateFlags .clear a b old).z = decide (old &&& ~~~a = 0)
        ∧ (updateFlags .clear a b old).c = false)
    ∧ (updateWord .test a b old = old ∧ (updateFlags .test a b old).z = decide (old &&& a = 0) ∧ (updateFlags .test a b old).c = false)
    ∧ ((updateWord .add a b old).toNat = (old.toNat + a.toNat) % 65536
        ∧ (updateFlags .add a b old).z = decide ((old.toNat + a.toNat) % 65536 = 0)
        ∧ (updateFlags .add a b old).c = decide (65536 ≤ old.toNat + a.toNat))
    ∧ (updateWord .storeIfEqual a b old = (if old = a then b else old) ∧ (updateFlags .storeIfEqual a b old).z = decide (old = a)
        ∧ (updateFlags .storeIfEqual a b old).c = false)
    ∧ (∀ op, (updateFlags op a b old).n = (updateWord op a b old).getLsbD 15)
    ∧ (∀ op b', op ≠ .storeIfEqual → updateWord op a b old = updateWord op a b' old ∧ updateFlags op a b old = updateFlags op a b' old)
    ∧ (old ≠ a → updateFlags .storeIfEqual a b old = { z := false, c := false, n := old.getLsbD 15 }))
  ∧ (∀ (s : State) (r : Request) (idx : Nat) (old : Word), updateWord r.op r.opA r.opB old ≠ old →
      (s.operate r idx old).unit.flags = updateFlags r.op r.opA r.opB old)

/-- The CRC of the data field: a register of 16 bits preset to FFFFh, the bits of the words most significant first, 1021h exclusive-ored
in when the bit shifted out differs from the bit presented; the CRC is what the register then holds, and running it on over the recorded
check word leaves 0 exactly when that word is the CRC (R5). A header is good when its sync was found, its five words were received and word
4 is the check of words 0 to 3; it is unreadable else, and a good one has the class that the table of R6 gives it against the address
sought. R6 names no class for a good header of the cylinder with another head: it is classed as one of a wrong sector, the model's reading
(log entry 10). A data field without sync is missing, one with 257 words and a good CRC good, any other bad (R7); that an incomplete one
reads bad is the model's reading (log entry 47). -/
def Obligations.CrcResidue : Prop :=
  (∀ (bs : List Bool) (b : Bool) (r : Nat), crcBits (b :: bs) r =
      crcBits bs (if (decide (32768 ≤ r % 65536) != b) then ((2 * r) % 65536) ^^^ 0x1021 else (2 * r) % 65536))
  ∧ (∀ r : Nat, crcBits [] r = r)
  ∧ (∀ w : Word, wordBits w = (List.range 16).map (fun i => w.getLsbD (15 - i)))
  ∧ (∀ ws : List Word, crc ws = BitVec.ofNat 16 (crcBits (ws.flatMap wordBits) 0xFFFF))
  ∧ (∀ (ws : List Word) (c : Word), crc (ws ++ [c]) = 0 ↔ c = crc ws)
  ∧ (∀ h : HeaderField, headerGood h = true ↔ h.sync = true ∧ h.words.length = 5 ∧ h.words.getD 4 0 = crc (h.words.take 4))
  ∧ (∀ (h : HeaderField) (a : SectorAddr),
      let cyl := (h.words.getD 0 0).toNat
      let head := (h.words.getD 1 0).toNat
      let sec := (h.words.getD 2 0).toNat
      (headerGood h = false → headerClass h a = .unreadable)
      ∧ (headerGood h = true → cyl ≠ a.cyl → headerClass h a = .wrongCylinder cyl)
      ∧ (headerGood h = true → cyl = a.cyl → head = a.head → sec ≠ a.sec → headerClass h a = .wrongSector)
      ∧ (headerGood h = true → cyl = a.cyl → head ≠ a.head → headerClass h a = .wrongSector)
      ∧ (headerGood h = true → cyl = a.cyl → head = a.head → sec = a.sec →
          headerClass h a = if (h.words.getD 3 0).getLsbD 15 = true then .matchingBad else .matching))
  ∧ (∀ d : DataField,
      let whole := d.words.length = 257 ∧ d.words.getD 256 0 = crc (d.words.take 256)
      (d.sync = false → fieldClass d = .missing)
      ∧ (d.sync = true → whole → fieldClass d = .good)
      ∧ (d.sync = true → ¬whole → fieldClass d = .bad))

/-- A label is accepted exactly when word 0 is 2240h and words 1 to 3 are 400, 2 and 20; its serial has word 4 as the upper half and word 5
as the lower, whatever they are (R8). -/
def Obligations.LabelVerdict : Prop :=
  ∀ ws : List Word,
    (ws.getD 0 0 = 0x2240#16 ∧ ws.getD 1 0 = 400 ∧ ws.getD 2 0 = 2 ∧ ws.getD 3 0 = 20 →
      labelSerial ws = some (BitVec.ofNat 32 ((ws.getD 4 0).toNat * 65536 + (ws.getD 5 0).toNat)))
    ∧ (ws.getD 0 0 ≠ 0x2240#16 ∨ ws.getD 1 0 ≠ 400 ∨ ws.getD 2 0 ≠ 2 ∨ ws.getD 3 0 ≠ 20 → labelSerial ws = none)

/-- The frame store holds 64 frames of 256 words apart: the words placed in a frame are read back from it, and every other frame reads as
before (R105). -/
def Obligations.FrameStoreReadsBack : Prop :=
  ∀ (m : List Host.Cell) (f : Nat) (ws : List Word), Memory.wf m → f < 64 → ws.length = 256 →
    readFrame (writeFrame m f ws) f = ws ∧ ∀ g, g ≠ f → readFrame (writeFrame m f ws) g = readFrame m g

/-- The cost of a candidate is the seek estimate T (0 on the cylinder, 5 + ceil(d / 8) over d cylinders, 55 from UNKNOWN), the rotational
wait W = (s − (p + 1 + T)) mod 20 and the transfer time X of its kind, together (R74, R75, R76, R77); it lies between 1 and 154 ms for a
request in range. Its slack is the due time less the clock, less the cost (R77), and its urgency 3 up to a slack of 25, 2 up to 100, else 1
(R78). A request is blocked exactly while an older held request of the station, not of its own chain, overlaps it and either of the two
writes, a chain standing with the sectors of its members (R59). -/
def Obligations.CostParts : Prop :=
  (∀ c, seekEstimate none c = 55)
  ∧ (∀ (a : Fin 400) c, c < 400 →
      seekEstimate (some a) c = if a.val = c then 0 else 5 + (((a.val : Int) - c).natAbs + 7) / 8)
  ∧ (∀ p t i, rotationalWait p t i < 20 ∧ ((rotationalWait p t i : Int) - ((i : Int) - (p + 1 + t))) % 20 = 0)
  ∧ (∀ n op, transferTime .read op n = n ∧ transferTime .check op n = n ∧ transferTime .write op n = n ∧ transferTime .pin op n = n
      ∧ transferTime .writeVerify op n = n + 20 * ((n + 19) / 20)
      ∧ transferTime .update op n = if op = .test then 1 else 21)
  ∧ (∀ (s : State) (r : Request), s.requestCost r =
      seekEstimate s.monitor.arm r.addr.cyl
        + rotationalWait s.pins.snum.toNat (seekEstimate s.monitor.arm r.addr.cyl) r.firstIndex + transferTime r.kind r.op r.span)
  ∧ (∀ (s : State) (r : Request), s.isCandidate r = true → r.addr.cyl < 400 → r.addr.index + r.count ≤ 40 →
      1 ≤ s.requestCost r ∧ s.requestCost r ≤ 154)
  ∧ (∀ (s : State) (r : Request) (d : Clock), r.due = some d →
      s.requestSlack r = (d - s.clock).toInt - (s.requestCost r : Int))
  ∧ (∀ x : Int, (x ≤ 25 → urgencyOf x = 3) ∧ (25 < x → x ≤ 100 → urgencyOf x = 2) ∧ (100 < x → urgencyOf x = 1))
  ∧ (∀ (s : State) (r : Request), s.blocked r = true ↔
      ∃ o ∈ s.queue.held, o.id < r.id ∧ o.kind.isDrive = true ∧ r.kind.isDrive = true ∧ ¬(o.chain.isSome = true ∧ o.chain = r.chain)
        ∧ o.addr.cyl = r.addr.cyl ∧ (∃ i ∈ o.hazard, i ∈ r.hazard) ∧ (o.hazardWritten ≠ [] ∨ r.hazardWritten ≠ []))

/-- The selection takes a candidate of the set; with a slack of 100 or less among them, one of least slack and among those of least cost;
without, one of least cost; of those still equal the earliest, and of those of one millisecond the first of the set (R81). It always has the
station's bid urgency (R78). MOUNTED, the set holds first, in order of acceptance, each request that R79 names, then, in its order, each
entry of the refresh set without a delivery hold whose sector no held request writes (R80; that a TEST UPDATE counts as writing it is the
model's reading, log entry 26); in LOADING it holds the label read alone, while its reservation stands, and in the other states nothing
(R79, R80). A selection point (R82) takes the candidate after the expiry and the consultation, and releases the line with none, with 60 ms
of the tenure over, with CALL of a present peer and an urgency below 3, or in a cartridge state without drive work (R36); else it starts
the work. -/
def Obligations.SelectionTakesLeast : Prop :=
  (∀ (cs : List Candidate) (c : Candidate), selectCandidate cs = some c →
    c ∈ cs
    ∧ ((∃ d ∈ cs, ∃ x, d.slack = some x ∧ x ≤ 100) →
        ∃ x, c.slack = some x ∧ ∀ d ∈ cs, ∀ y, d.slack = some y → y ≤ 100 → x < y ∨ (x = y ∧ c.cost ≤ d.cost))
    ∧ ((∀ d ∈ cs, ∀ x, d.slack = some x → 100 < x) → ∀ d ∈ cs, c.cost ≤ d.cost)
    ∧ (∀ now : Clock, (∀ d ∈ cs, (now - d.age).toNat < 2 ^ 30) → ∀ d ∈ cs, d.cost = c.cost →
        d.slack = c.slack ∨ (∀ e ∈ cs, ∀ x, e.slack = some x → 100 < x) →
        0 ≤ (d.age - c.age).toInt ∧ (d.age = c.age → cs.idxOf c ≤ cs.idxOf d)))
  ∧ (∀ (s : State) (c : Candidate), selectCandidate s.candidates = some c → c.urgency = s.bidUrgency)
  ∧ (∀ s : State,
      let cost (cyl i : Nat) : Nat := seekEstimate s.monitor.arm cyl
        + rotationalWait s.pins.snum.toNat (seekEstimate s.monitor.arm cyl) i + 1
      (s.cart.state = .mounted → ∃ reqs refs, s.candidates = reqs ++ refs
        ∧ (reqs.map (·.work)).Sublist (s.queue.held.map (fun r => Work.request r.id))
        ∧ (∀ c, c ∈ reqs ↔ ∃ r ∈ s.queue.held, r.kind.isDrive = true ∧ r.state = .waiting ∧ (r.chain = none ∨ r.chain = some r.id)
            ∧ s.blocked r = false ∧ r.undone ≠ []
            ∧ c = { work := .request r.id, slack := some (s.requestSlack r), cost := s.requestCost r, age := r.accepted
                    urgency := urgencyOf (s.requestSlack r) })
        ∧ (refs.map (·.work)).Sublist (s.cache.refresh.map (fun e => Work.refresh e.frame))
        ∧ (∀ c, c ∈ refs ↔ ∃ e ∈ s.cache.refresh, ∃ a, (s.frame e.frame).addr = some a ∧ s.hold e.frame = 0
            ∧ (∀ r ∈ s.queue.held, r.kind.isDrive = true → r.addr.cyl = a.cyl → a.index ∉ r.hazardWritten)
            ∧ c = { work := .refresh e.frame, slack := none, cost := cost a.cyl a.index, age := e.entered, urgency := 1 }))
      ∧ (s.cart.state = .loading → s.candidates = if s.cache.labelReserved = true
          then [{ work := .label, slack := none, cost := cost 0 0, age := s.clock, urgency := 2 }] else [])
      ∧ (s.cart.state ≠ .mounted → s.cart.state ≠ .loading → s.candidates = []))
  ∧ (∀ s : State,
      let t := s.prepare
      (selectCandidate t.candidates = none → s.selectionPoint = t.releaseLine)
      ∧ (∀ c, selectCandidate t.candidates = some c →
          let released := 60 ≤ (t.clock - t.access.tenureStart).toInt ∨ (t.pins.pres = true ∧ t.pins.call = true ∧ c.urgency < 3)
            ∨ (t.cart.state ≠ .loading ∧ t.cart.state ≠ .mounted)
          (released → s.selectionPoint = t.releaseLine) ∧ (¬released → s.selectionPoint = t.startWork c)))

/-- A counter's notice is due at the multiples of its threshold, 16, 256 or 4096 by the code 1, 2 or 3, and never with code 0 (R166);
each of the four counters goes up by one, wraps from 65,535 to 0, and raises its notice in a configured station so (R29, R85, R98, R136). -/
def Obligations.CountersAndThresholds : Prop :=
  (∀ (code : BitVec 2) (v : BitVec 16), thresholdHit code v = true ↔
      (code = 1 ∧ 16 ∣ v.toNat) ∨ (code = 2 ∧ 256 ∣ v.toNat) ∨ (code = 3 ∧ 4096 ∣ v.toNat))
  ∧ (∀ s : State, s.zones.configured = true →
      s.countRetry = { s with
        faults := { s.faults with retry := s.faults.retry + 1 }
        port := { s.port with notices := if thresholdHit s.zones.thresholds.retry (s.faults.retry + 1)
                                         then s.port.notices ||| 0x0800#15 else s.port.notices } }
      ∧ s.countCollide = { s with
        faults := { s.faults with collide := s.faults.collide + 1 }
        port := { s.port with notices := if thresholdHit s.zones.thresholds.collide (s.faults.collide + 1)
                                         then s.port.notices ||| 0x1000#15 else s.port.notices } }
      ∧ s.countCapture = { s with
        faults := { s.faults with capture := s.faults.capture + 1 }
        port := { s.port with notices := if thresholdHit s.zones.thresholds.capture (s.faults.capture + 1)
                                         then s.port.notices ||| 0x2000#15 else s.port.notices } }
      ∧ s.countLate = { s with
        faults := { s.faults with late := s.faults.late + 1 }
        port := { s.port with notices := if thresholdHit s.zones.thresholds.late (s.faults.late + 1)
                                         then s.port.notices ||| 0x4000#15 else s.port.notices } })

/-- A fault that reaches the list (R103): one that matches an entry in address and kind makes its repeat count go up by one, up to 255, and
leaves its place, first time and origin, with no notice; one that matches none is appended with repeat count 1 and the time now while
there are fewer than 16 entries, and raises FAULT-LISTED; else it is dropped and the overflow flag set. A sector and a cylinder alone are
never the same address. The list keeps at most 16 entries, no two alike in address and kind. The overflow flag stays while the list is
drained and is cleared when a FETCH-FAULT empties it; STATUS bits 3 and 2 show the list non-empty and the flag. The other bits of STATUS are
the configured flag, the cartridge state, the FIFO count, notices pending, intake held (by a waiting block or a held CONFIGURE), intake
overrun, peer present and holding line, as section 11.6 lays them out (R175). -/
def Obligations.FaultListTakesAFault : Prop :=
  (∀ (s : State) (a : FaultAddr) (k : FaultKind) (o : Origin),
    ((∃ e ∈ s.faults.entries, e.addr = a ∧ e.kind = k) →
      s.listFault a k o = { s with faults := { s.faults with
        entries := s.faults.entries.map (fun e =>
          if e.addr = a ∧ e.kind = k then { e with repeats := if e.repeats < 255 then e.repeats + 1 else e.repeats } else e) } })
    ∧ ((∀ e ∈ s.faults.entries, ¬(e.addr = a ∧ e.kind = k)) → s.faults.entries.length < 16 → s.zones.configured = true →
      s.listFault a k o = { s with
        faults := { s.faults with entries := s.faults.entries ++
          [{ addr := a, kind := k, origin := o, firstTime := s.clock, repeats := 1 }] }
        port := { s.port with notices := s.port.notices ||| 0x0400#15 } })
    ∧ ((∀ e ∈ s.faults.entries, ¬(e.addr = a ∧ e.kind = k)) → 16 ≤ s.faults.entries.length →
      s.listFault a k o = { s with faults := { s.faults with overflow := true } }))
  ∧ (∀ (a : SectorAddr) (c : Nat), FaultAddr.sector a ≠ .cylinder c)
  ∧ (∀ (s : State) (blk : Block) (e : FaultEntry) (es : List FaultEntry), s.faults.entries = e :: es →
      (s.fetchFault blk).faults.entries = es
      ∧ (s.fetchFault blk).faults.overflow = (s.faults.overflow && decide (es ≠ [])))
  ∧ (∀ (s : State) (a : FaultAddr) (k : FaultKind) (o : Origin), FaultInv s → FaultInv (s.listFault a k o))
  ∧ (∀ s : State, s.statusWord.getLsbD 3 = decide (s.faults.entries ≠ []) ∧ s.statusWord.getLsbD 2 = s.faults.overflow)
  ∧ (∀ s : State,
      let w := s.statusWord
      w.getLsbD 15 = s.zones.configured
      ∧ (∀ p ∈ [(CartState.absent, 0#3), (.loading, 1), (.mounted, 2), (.unusable, 3), (.leaving, 4), (.released, 5)],
          s.cart.state = p.1 → w.extractLsb' 12 3 = p.2)
      ∧ (s.port.fifo.length ≤ 16 → (w.extractLsb' 7 5).toNat = s.port.fifo.length)
      ∧ (w.getLsbD 6 = true ↔ s.port.notices ≠ 0)
      ∧ (w.getLsbD 5 = true ↔ s.port.waiting.isSome = true ∨ ∃ r ∈ s.queue.held, r.kind = .configure)
      ∧ w.getLsbD 4 = s.port.overrun ∧ w.getLsbD 1 = s.pins.pres ∧ w.getLsbD 0 = decide (s.access.state = .holding))

/-! ### The computer port -/

/-- A write to CONTROL sets both enables to the values written (R177); the same write with intake restart discards the partial block and
clears the overrun (R173); with port reset it does what BRST does (R180) and leaves both enables clear (R177). That it disregards the word's
other bits, intake restart among them, is the model's reading (log entry 40). IRQ stands exactly while the FIFO is non-empty and the
completion enable set, or notices pend and the notice enable is set (R177). -/
def Obligations.ControlAndInterrupt : Prop :=
  (∀ (s : State) (c n : Bool), s.powered = true →
    exec (.setInterruptEnables c n) s =
      .next { s with port := { s.port with completionEnable := c, noticeEnable := n } }
    ∧ exec (.intakeRestart c n) s =
      .next { s with port := { s.port with completionEnable := c, noticeEnable := n, partialBlock := [], overrun := false } }
    ∧ ∀ r, exec (.portReset c n r) s = exec .brstAsserted s
        ∧ ∃ t, exec (.portReset c n r) s = .next t ∧ t.port.completionEnable = false ∧ t.port.noticeEnable = false ∧ t.irq = false)
  ∧ (∀ s : State, s.irq = true ↔
      (s.port.fifo ≠ [] ∧ s.port.completionEnable = true) ∨ (s.port.notices ≠ 0 ∧ s.port.noticeEnable = true))
  ∧ (∀ l s t, exec (.powerOn l) s = .next t → t.port.completionEnable = false ∧ t.port.noticeEnable = false)

/-- The notice set (R176): empty at power-on and after a port reset; a notice raised by a configured station sets its own mark and no
other, and leaves the set as it stands when the mark is set already; a read of NOTICES returns the set and empties it. -/
def Obligations.NoticeSet : Prop :=
  (∀ l s t, exec (.powerOn l) s = .next t → t.port.notices = 0)
  ∧ (∀ s : State, s.powered = true → ∃ t, exec .brstAsserted s = .next t ∧ t.port.notices = 0)
  ∧ (∀ (s : State) (n : Notice), s.zones.configured = true →
      (∀ i, i < 15 → (s.raise n).port.notices.getLsbD i = (s.port.notices.getLsbD i || decide (i = n.bit)))
      ∧ (s.port.notices.getLsbD n.bit = true → s.raise n = s))
  ∧ (∀ s : State, s.powered = true →
      exec .noticesRead s = .next { s with port := { s.port with dataOut := 0#1 ++ s.port.notices, notices := 0 } })

/-- A word written to INTAKE is stored at the word position while no block waits, and completes the block as its word 7 (R173): the command
of the block's kind then acts, which stands for the whole block by the model's choice (log entry 16). A block whose kind code names no kind
is refused BAD-KIND, by an unconfigured station NOT-CONFIGURED, and leaves nothing but its record, with its own kind code (R48). While a
block waits the word is discarded and intake overrun set (R173). -/
def Obligations.IntakeTakesWords : Prop :=
  ∀ (s : State) (w : Word), s.powered = true →
    (s.port.waiting.isSome = true → exec (.intakeWrite w) s = .next { s with port := { s.port with overrun := true } })
    ∧ (s.port.waiting = none → s.port.partialBlock.length < 7 →
        exec (.intakeWrite w) s = .next { s with port := { s.port with partialBlock := s.port.partialBlock ++ [w] } })
    ∧ (s.port.waiting = none → s.port.partialBlock.length = 7 →
        ∀ k, kindOfCode (blockOfWords (s.port.partialBlock ++ [w])).kindCode = some k →
          exec (.intakeWrite w) s = exec (blockCommand k (blockOfWords (s.port.partialBlock ++ [w])).body) s)
    ∧ (Quiet s → s.port.partialBlock.length = 7 → s.port.fifo.length < 16 →
        let blk := blockOfWords (s.port.partialBlock ++ [w])
        kindOfCode blk.kindCode = none →
          exec (.intakeWrite w) s = .next { s with port := { s.port with
            partialBlock := []
            fifo := s.port.fifo ++ [{ plainRecord s .read blk.body
              (if s.zones.configured = true then .badKind else .notConfigured) .disk 0 with kindCode := blk.kindCode }] } })

/-- A read of OUTLET returns the word at the read position of the oldest record and advances it; the read of word 5 removes the record
and returns the position to 0; with the FIFO empty it returns 0 (R174). That a finished request that waits for the freed place takes it in
the same step is the model's form (log entry 17); none waits here. The words of a record are those of the layout of section 11.6: tag and
kind code; outcome code, LATE, WRITTEN, Z, C and N; source and sectors completed; words A and B; the time. -/
def Obligations.OutletGivesWords : Prop :=
  ∀ s : State,
    (s.powered = true → s.port.fifo = [] → exec .outletRead s = .next { s with port := { s.port with dataOut := 0 } })
    ∧ (∀ c cs, s.powered = true → s.port.fifo = c :: cs → s.port.readPos < 5 →
        exec .outletRead s =
          .next { s with port := { s.port with dataOut := c.word s.port.readPos, readPos := s.port.readPos + 1 } })
    ∧ (∀ c cs, Quiet s → s.port.fifo = c :: cs → s.port.readPos = 5 →
        exec .outletRead s = .next { s with port := { s.port with dataOut := c.word 5, fifo := cs, readPos := 0 } })
    ∧ (∀ c : Completion,
        let flag (b : Bool) (n : Nat) : Nat := if b = true then n else 0
        c.word 0 = BitVec.ofNat 16 (256 * c.tag.toNat + 16 * c.kindCode.toNat)
        ∧ c.word 1 = BitVec.ofNat 16 (256 * c.outcome.code.toNat + flag c.late 16 + flag c.written 8 + flag c.flags.z 4
            + flag c.flags.c 2 + flag c.flags.n 1)
        ∧ (c.sectors ≤ 40 → c.word 2 = BitVec.ofNat 16 (16384 * c.source.code.toNat + c.sectors))
        ∧ c.word 3 = c.wordA ∧ c.word 4 = c.wordB ∧ c.word 5 = c.time)
    ∧ [Source.disk, .cache, .peer, .mixed].map (fun x => x.code.toNat) = [0, 1, 2, 3]
    ∧ [Kind.read, .check, .write, .writeVerify, .update, .pin, .unpin, .discard, .cancel, .releaseCartridge, .fetchFault, .report,
        .configure].map (fun x => x.code.toNat) = List.range 13
    ∧ [ReqOutcome.done, .doneRetried, .skipped, .empty].map (fun x => x.code.toNat) = List.range' 0x00 4
    ∧ [ReqOutcome.notConfigured, .badKind, .badAddress, .badMemory, .duplicateTag, .chainSpan, .chainTooLong, .noWrite, .notCached,
        .noCartridge, .queueFull, .noBuffer, .pinLimit, .notFound, .tooLate, .notLeaving, .locked, .busy, .badConfig].map
        (fun x => x.code.toNat) = List.range' 0x10 19
    ∧ [ReqOutcome.dataError, .noHeader, .seekFault, .writeProtected, .markedBad, .verifyFailed, .memoryError, .expired, .cancelled,
        .chainAborted, .cartridgeRemoved].map (fun x => x.code.toNat) = List.range' 0x30 11

/-- A free place of the FIFO goes to the request that entered FINISHED first: its record is placed behind the others, and its slot is
free (R55). That waiting records are taken up within the step that frees the place is the model's form (log entry 17); the command here
takes up one that still waits. -/
def Obligations.FreedPlaceGoesToTheFirstFinished : Prop :=
  ∀ (s : State) (id : Nat) (c : Completion) (rest : List (Nat × Completion)),
    s.powered = true → s.queue.finished = (id, c) :: rest → s.port.fifo.length < 16 →
    (∀ r ∈ s.queue.held, r.id = id → r.chain = none) →
    ∃ t, exec .postWaitingFinished s = .next t ∧ s.port.fifo ++ [c] <+: t.port.fifo ∧ ∀ r ∈ t.queue.held, r.id ≠ id

/-- A waiting block that no CONFIGURE holds, with a free FIFO place that no finished request waits for, is processed again as its kind's
command from the first check (R47, R173; the moment is the model's reading, log entry 18). -/
def Obligations.HeldBlockIsProcessedAgain : Prop :=
  ∀ (s : State) (blk : Block) (k : Kind), s.powered = true → s.port.waiting = some blk → kindOfCode blk.kindCode = some k →
    s.port.partialBlock = [] → s.queue.finished = [] → s.configureHeld = false → s.port.fifo.length < 16 →
    ∃ t, exec .heldBlockProcessed s = .next t
      ∧ exec (blockCommand k blk.body) { s with port := { s.port with waiting := none } } = .next t

/-! ### Admission -/

/-- The checks of a drive block that stands alone or opens a chain, in their order (R48, R49, R50, R51): the first that fails gives the
refusal. Those of a later chain member (R49): its deadline is not examined, its cylinder is the first member's, the fourth member carries
no CONTINUES, and nothing is served at admission for it (R50). That a PIN all of whose sectors are VALID counts as not served when it would
exceed the pin limit is the model's reading (log entry 27). An immediate block that passes the five checks of every block is refused
BAD-KIND while a chain is open at the intake (R49, R57); that CONTINUES alone does not make a lone CANCEL or CONFIGURE a member is the
model's reading (log entry 25), and no case here rests on it. -/
def Obligations.ChecksOfADriveBlock : Prop :=
  (∀ (s : State) (k : Kind) (b : BlockBody), k.isDrive = true → s.stagedMembers = [] →
    let writes := k.isWrite || (k == .update && b.opCode != 2)
    let served := s.readServed k b || s.pinServed k b
    let unpinned := ((blockIndices b).filter (fun i => !s.isPinned (blockSector b i))).length
    s.refusal { kindCode := k.code, body := b } =
      if s.zones.configured = false then some .notConfigured
      else if b.condCode = 3 ∨ (k = .update ∧ 4 < b.opCode.toNat) then some .badKind
      else if 399 < b.cyl.toNat ∨ 1 < b.head.toNat ∨ 19 < b.sector.toNat ∨ b.count = 0
            ∨ 40 < b.head.toNat * 20 + b.sector.toNat + b.count.toNat ∨ (k = .update ∧ b.count ≠ 1) ∨ 30000 < b.deadline.toNat then
        some .badAddress
      else if (k = .read ∨ k.isWrite = true) ∧ 262144 < b.mem.toNat + b.count.toNat * 256 then some .badMemory
      else if s.queue.held.any (fun r => r.tag == b.tag) then some .duplicateTag
      else if b.continues = true ∧ k = .pin then some .badKind
      else if writes && (blockIndices b).any (fun i => s.zones.refusesWrite (blockSector b i)) then some .noWrite
      else if k = .pin ∧ s.zones.mode b.cyl.toNat = .none then some .notCached
      else if s.cart.state ≠ .loading ∧ s.cart.state ≠ .mounted ∧ served = false then some .noCartridge
      else if 16 ≤ s.queue.held.length ∧ s.pinServed k b = false then some .queueFull
      else if served = false ∧ s.available < s.reservedCount + k.need b.count.toNat then some .noBuffer
      else if k = .pin ∧ 48 < s.pinnedCount + s.promisedPins + unpinned then some .pinLimit
      else none)
  ∧ (∀ (s : State) (k : Kind) (b : BlockBody) (f : Request) (rest : List Request), k.isDrive = true → s.stagedMembers = f :: rest →
    let writes := k.isWrite || (k == .update && b.opCode != 2)
    s.refusal { kindCode := k.code, body := b } =
      if s.zones.configured = false then some .notConfigured
      else if b.condCode = 3 ∨ (k = .update ∧ 4 < b.opCode.toNat) then some .badKind
      else if 399 < b.cyl.toNat ∨ 1 < b.head.toNat ∨ 19 < b.sector.toNat ∨ b.count = 0
            ∨ 40 < b.head.toNat * 20 + b.sector.toNat + b.count.toNat ∨ (k = .update ∧ b.count ≠ 1) then some .badAddress
      else if (k = .read ∨ k.isWrite = true) ∧ 262144 < b.mem.toNat + b.count.toNat * 256 then some .badMemory
      else if s.queue.held.any (fun r => r.tag == b.tag) then some .duplicateTag
      else if k = .pin then some .badKind
      else if f.addr.cyl ≠ b.cyl.toNat then some .chainSpan
      else if 3 ≤ (f :: rest).length ∧ b.continues = true then some .chainTooLong
      else if writes && (blockIndices b).any (fun i => s.zones.refusesWrite (blockSector b i)) then some .noWrite
      else if s.cart.state ≠ .loading ∧ s.cart.state ≠ .mounted then some .noCartridge
      else if 16 ≤ s.queue.held.length then some .queueFull
      else if s.available < s.reservedCount + k.need b.count.toNat then some .noBuffer
      else none)
  ∧ (∀ (s : State) (k : Kind) (b : BlockBody), s.stagedMembers ≠ [] → PassesPlain s k b →
    s.refusal { kindCode := k.code, body := b } = some .badKind)

/-- A refused block outside a chain leaves nothing but its record: the tag, the kind, the outcome, no sectors, both words 0 and the time
(R47, R67, R68); a lone CANCEL, RELEASE-CARTRIDGE or CONFIGURE turned away by its own test likewise. A block refused while staged members
await it ends each of them first, in submission order: CHAIN-ABORTED, or by the mark that a failure or a drain has left on it, with the
sectors done, its STAGED frames FREE and its staging jobs out of the list; the refusal's record follows (R47, R57, R148, R158; that the mark
of a drain waits for the end of the chain is the model's reading, log entry 49). -/
def Obligations.RefusalLeavesOnlyARecord : Prop :=
  (∀ (s : State) (k : Kind) (b : BlockBody) (o : ReqOutcome), Quiet s → s.port.fifo.length < 16 →
    s.refusal { kindCode := k.code, body := b } = some o →
    exec (blockCommand k b) s = .next { s with
      port := { s.port with partialBlock := [], fifo := s.port.fifo ++ [plainRecord s k b o .disk 0] } })
  ∧ (∀ (s : State) (k : Kind) (b : BlockBody) (o : ReqOutcome) (ms : List Request) (c : Nat), Still s → s.port.waiting = none →
    s.queue.held = ms → (∀ p ∈ ms, p.state = .pendingChain ∧ p.kind.isDrive = true ∧ p.chain = some c) →
    ms.Pairwise (fun p q => p.id < q.id) → s.port.fifo.length + ms.length + 1 ≤ 16 →
    s.refusal { kindCode := k.code, body := b } = some o →
    ∃ t recs, exec (blockCommand k b) s = .next t
      ∧ List.Forall₂ (fun (p : Request) (d : Completion) => d.tag = p.tag ∧ d.kindCode = p.kind.code
          ∧ d.outcome = p.mark.getD .chainAborted ∧ d.sectors = p.done.length) ms recs
      ∧ t.port.fifo = s.port.fifo ++ recs ++ [plainRecord s k b o .disk 0] ∧ t.queue.held = [] ∧ t.queue.finished = []
      ∧ (∀ p ∈ ms, ∀ g, (s.frame g).owner = some p.id → (s.frame g).state = .staged → t.frame g = Frame.free)
      ∧ (∀ p ∈ ms, ∀ j ∈ t.allJobs, j.isFor p.id = false)
      ∧ t.port.waiting = none ∧ t.port.partialBlock = [] ∧ t.faults.entries = s.faults.entries ∧ t.zones = s.zones ∧ t.cart = s.cart
      ∧ t.seq = s.seq ∧ t.drive = s.drive)

/-- The tests of the immediate kinds once the checks have passed: a CANCEL whose tag no held request carries is NOT-FOUND, as is one
naming a later chain member; a target RUNNING, DELIVERING, FINISHED or no drive request is TOO-LATE (R61); a RELEASE-CARTRIDGE outside
LEAVING is NOT-LEAVING (R63); a CONFIGURE is LOCKED while the lock is set, else BUSY while any request is held (R168, R172). -/
def Obligations.TestsOfImmediateKinds : Prop :=
  ∀ (s : State) (k : Kind) (b : BlockBody), s.stagedMembers = [] → PassesPlain s k b →
    (k = .cancel → (∀ r ∈ s.queue.held, r.tag ≠ b.opA.extractLsb' 0 8) →
      s.refusal { kindCode := k.code, body := b } = some .notFound)
    ∧ (k = .cancel → ∀ r, s.queue.held.find? (fun q => q.tag == b.opA.extractLsb' 0 8) = some r →
        (∃ c, r.chain = some c ∧ c ≠ r.id) → s.refusal { kindCode := k.code, body := b } = some .notFound)
    ∧ (k = .cancel → ∀ r, s.queue.held.find? (fun q => q.tag == b.opA.extractLsb' 0 8) = some r → r.chain = none →
        (r.state = .running ∨ r.state = .delivering ∨ r.state = .finished ∨ r.kind.isDrive = false) →
        s.refusal { kindCode := k.code, body := b } = some .tooLate)
    ∧ (k = .releaseCartridge → s.cart.state ≠ .leaving → s.refusal { kindCode := k.code, body := b } = some .notLeaving)
    ∧ (k = .configure → s.zones.lock = true → s.refusal { kindCode := k.code, body := b } = some .locked)
    ∧ (k = .configure → s.zones.lock = false → s.queue.held ≠ [] → s.refusal { kindCode := k.code, body := b } = some .busy)

/-! ### Drive requests at their acceptance -/

/-- A READ, CHECK, UPDATE or PIN that stands alone, passes every check and has no sector in a VALID frame is accepted (R43, R46, R52, R71,
R107, R117): its record joins the held requests in WAITING with the acceptance time, the due time and its frames promised; the access
state follows the drive work (R24); nothing else changes. That the cache is not consulted for the other requests in WAITING is the model's
choice (log entry 70). -/
def Obligations.DriveRequestAccepted : Prop :=
  ∀ (s : State) (k : Kind) (b : BlockBody), Quiet s → Fresh s → Accepts s k b → k.isWrite = false → b.continues = false →
    ((k = .read ∧ b.bypass = false) ∨ k = .pin → ∀ i ∈ blockIndices b, s.validFrame (blockSector b i) = none) →
    exec (blockCommand k b) s = .next (State.settleAccess { s with
      port := { s.port with partialBlock := [] }
      queue := { s.queue with
        held := s.queue.held ++ [{ loneRequest s k b .waiting (if k = .read ∨ k = .pin then b.count.toNat else 1) with
          promised := if k = .pin then (blockIndices b).filter (fun i => !s.isPinned (blockSector b i)) else [] }]
        nextId := s.queue.nextId + 1 } })

/-- A block with CONTINUES opens a chain: its record waits in PENDING-CHAIN as the chain's first member (R56). A member without CONTINUES on
the same cylinder closes it: both enter WAITING, and for hazard ordering each takes the sectors of both (R56, R58). The members here write
nothing themselves but for an UPDATE. A running chain of two takes its members one after another (R144): at the good end of a CHECK Z is set
(R146), and the next member is tested against it. One whose condition is IF-NZ is SKIPPED, with no sector, both words 0 and its STAGED frames
FREE, and both records stand in submission order (R145); a write of another condition is started in the same tenure with a new retry record.
A first member that fails clears the flags, and the next ends CHAIN-ABORTED with its STAGED frames FREE (R147). That the flags stand from the
end of a member's drive work, and are clear for every failure, is the model's reading (log entry 23); that no
cache is consulted at the chain's entry into WAITING is its choice (log entry 70). -/
def Obligations.ChainOpensAndCloses : Prop :=
  (∀ (s : State) (k : Kind) (b : BlockBody), Quiet s → Accepts s k b → k.isWrite = false → b.continues = true →
    exec (blockCommand k b) s = .next (State.settleAccess { s with
      port := { s.port with partialBlock := [] }
      queue := { s.queue with
        held := s.queue.held ++ [{ loneRequest s k b .pendingChain (if k = .read then b.count.toNat else 1) with
          chain := some s.queue.nextId }]
        nextId := s.queue.nextId + 1 } }))
  ∧ (∀ (s : State) (f : Request) (k : Kind) (b : BlockBody), Still s → s.port.waiting = none → s.queue.held = [f] →
      f.state = .pendingChain → f.kind.isDrive = true → f.kind.isWrite = false → f.chain = some f.id → f.id < s.queue.nextId →
      f.due.isSome = true →
      f.mark = none → s.allJobs = [] → k.isWrite = false → k.isDrive = true → b.continues = false →
      s.refusal { kindCode := k.code, body := b } = none →
      ∃ t p q, exec (blockCommand k b) s = .next t ∧ t.queue.held = [p, q] ∧ p.id = f.id ∧ q.id = s.queue.nextId
        ∧ p.state = .waiting ∧ q.state = .waiting ∧ q.chain = some f.id ∧ q.due = f.due ∧ q.tag = b.tag ∧ q.kind = k
        ∧ p.hazard = q.hazard ∧ (∀ i, i ∈ p.hazard ↔ i ∈ f.hazard ∨ i ∈ blockIndices b)
        ∧ p.hazardWritten = q.hazardWritten
        ∧ (∀ i, i ∈ p.hazardWritten ↔ i ∈ f.hazardWritten ∨ (k = .update ∧ i ∈ blockIndices b))
        ∧ t.port = { s.port with partialBlock := [] } ∧ t.cache = s.cache ∧ t.faults = s.faults ∧ t.zones = s.zones
        ∧ t.cart = s.cart ∧ t.seq = s.seq ∧ t.drive = s.drive ∧ t.monitor = s.monitor ∧ t.unit = s.unit)
  ∧ (∀ (s : State) (p q : Request) (idx : Nat), Still s → s.zones.configured = true → s.queue.held = [p, q] → p.id < q.id →
      p.chain = some p.id → q.chain = some p.id → p.kind = .check → q.kind.isDrive = true → p.state = .running → q.state = .running →
      p.refusedAt = none → q.refusedAt = none → s.allJobs = [] → s.cache.refresh = [] → s.cart.state = .mounted →
      s.port.fifo.length + 2 ≤ 16 →
      (∀ (d : DataField) (l : Lines) (f : Nat), Visiting s .reading p idx → s.seq.frame = some f → s.seq.pendingIdx = [idx] →
        idx ∉ p.done → d.sync = true → fieldWordsGood d.words = true →
        let ended (c : Completion) : Prop := c.tag = p.tag ∧ c.outcome = (if s.seq.retried = true then .doneRetried else .done)
          ∧ c.sectors = p.done.length + 1 ∧ c.wordA = 0 ∧ c.wordB = 0 ∧ c.flags = { s.unit.flags with z := true }
        (q.cond = .ifNZ → q.done = [] → q.source = none →
          ∃ t c e, exec (.dataFieldRead d l) s = .next t ∧ ended c ∧ e.tag = q.tag ∧ e.outcome = .skipped ∧ e.sectors = 0
            ∧ e.source = .disk ∧ e.wordA = 0 ∧ e.wordB = 0 ∧ t.port.fifo = s.port.fifo ++ [c, e] ∧ t.queue.held = []
            ∧ t.unit = { inProgress := none, flags := { s.unit.flags with z := true } } ∧ t.seq = Sequencer.idle
            ∧ (∀ g, (s.frame g).owner = some q.id → (s.frame g).state = .staged → t.frame g = Frame.free)
            ∧ t.access.state = .idle ∧ t.lines.hold = false ∧ t.drive.enabled = false ∧ t.faults.entries = s.faults.entries)
        ∧ (q.cond ≠ .ifNZ → q.kind.isWrite = true →
          ∃ t c, exec (.dataFieldRead d l) s = .next t ∧ ended c ∧ t.port.fifo = s.port.fifo ++ [c] ∧ t.queue.held = [q]
            ∧ t.unit = { inProgress := none, flags := { s.unit.flags with z := true } }
            ∧ t.seq.work = some (.request q.id) ∧ t.seq.cyl = q.addr.cyl ∧ t.seq.visit = none ∧ t.seq.retried = false
            ∧ t.seq.recs = q.undone.map (fun i => { idx := i, purpose := .write, misses := 0, headerRecovery := false, attempts := 0,
                                                    rewrites := 0, again := false })
            ∧ t.access = s.access ∧ t.lines = s.lines ∧ t.faults.entries = s.faults.entries))
      ∧ (∀ (h : HeaderField) (l : Lines), Visiting s .searching p idx → headerClass h (sectorAt s.seq.cyl idx) = .matchingBad →
        s.seq.unverified = [] → s.faults.entries = [] →
          ∃ t c e, exec (.headerRead h l) s = .next t ∧ c.tag = p.tag ∧ c.outcome = .markedBad ∧ c.sectors = p.done.length
            ∧ c.wordA = (sectorAt s.seq.cyl idx).word ∧ e.tag = q.tag ∧ e.outcome = .chainAborted ∧ e.sectors = q.done.length
            ∧ t.port.fifo = s.port.fifo ++ [c, e] ∧ t.queue.held = []
            ∧ t.unit = { inProgress := none, flags := { z := false, c := false, n := false } } ∧ t.seq = Sequencer.idle
            ∧ t.faults.entries =
                [{ addr := .sector (sectorAt s.seq.cyl idx), kind := .markedBad, origin := .own, firstTime := s.clock, repeats := 1 }]
            ∧ (∀ g, (s.frame g).owner = some q.id → (s.frame g).state = .staged → t.frame g = Frame.free)
            ∧ t.access.state = .idle ∧ t.lines.hold = false ∧ t.drive.enabled = false))

/-- A READ without BYPASS that stands alone, with no held request on its cylinder and every sector in a VALID frame, is served at
admission in every cartridge state (R50, R110): it enters DELIVERING with every sector done from CACHE, a delivery job stands for each of
them at memory address + 256 × (index − first index), and the frames' records stay as they are. That the cache is
consulted for this READ alone is the model's choice (log entry 70). -/
def Obligations.ReadServedAtAdmission : Prop :=
  ∀ (s : State) (b : BlockBody) (g : Nat → Nat), Quiet s → Fresh s → Passes s .read b → s.queue.held.length < 16 →
    b.bypass = false → b.continues = false → (∀ r ∈ s.queue.held, r.addr.cyl ≠ b.cyl.toNat) →
    (∀ i ∈ blockIndices b, s.validFrame (blockSector b i) = some (g i)) →
    ∃ t, exec (.read b) s = .next t
      ∧ t.queue.held = s.queue.held ++ [{ loneRequest s .read b .delivering 0 with
          done := blockIndices b, source := some .cache, outcome := some .done }]
      ∧ t.port.jobs = s.port.jobs ++ (blockIndices b).map (fun i =>
          { req := s.queue.nextId, orphan := false, kind := .delivery (g i) i, base := b.mem.toNat + 256 * (i - blockIndex b) })
      ∧ t.port.fifo = s.port.fifo ∧ t.port.running = s.port.running ∧ t.port.notices = s.port.notices
      ∧ t.cache.frames = s.cache.frames ∧ t.cache.store = s.cache.store ∧ t.cache.refresh = s.cache.refresh
      ∧ t.faults = s.faults ∧ t.zones = s.zones ∧ t.cart = s.cart ∧ t.seq = s.seq ∧ t.drive = s.drive ∧ t.monitor = s.monitor

/-- A PIN with no held request on its cylinder, every sector in a VALID frame, the spare of R107 and the limit of 48 kept, is carried out at
processing in every cartridge state (R50, R51, R111): its frames are pinned, its record DONE from CACHE is placed, no request is held for
it, and no other frame changes. -/
def Obligations.PinServedAtProcessing : Prop :=
  ∀ (s : State) (b : BlockBody) (g : Nat → Nat), Quiet s → Passes s .pin b → s.port.fifo.length < 16 → b.continues = false →
    (∀ r ∈ s.queue.held, r.addr.cyl ≠ b.cyl.toNat) →
    (∀ i ∈ blockIndices b, s.validFrame (blockSector b i) = some (g i)) →
    let fresh := ((blockIndices b).filter (fun i => !s.isPinned (blockSector b i))).length
    s.reservedCount + fresh ≤ s.available → s.pinnedCount + s.promisedPins + fresh ≤ 48 →
    ∃ t, exec (.pin b) s = .next t
      ∧ t.port = { s.port with partialBlock := [], fifo := s.port.fifo ++ [plainRecord s .pin b .done .cache b.count.toNat] }
      ∧ t.queue = s.queue
      ∧ (∀ i ∈ blockIndices b, t.frame (g i) = { s.frame (g i) with pinned := true })
      ∧ (∀ f, (∀ i ∈ blockIndices b, g i ≠ f) → t.frame f = s.frame f)
      ∧ t.cache.store = s.cache.store ∧ t.faults = s.faults ∧ t.zones = s.zones ∧ t.cart = s.cart ∧ t.seq = s.seq

/-- A WRITE or WRITE-VERIFY that stands alone and finds FREE frames for all its sectors is accepted into STAGING (R43, R52, R109, R178): each
sector takes a FREE frame as its STAGED frame and a staging job at memory address + 256 × its position; every other frame stays. With no
frame FREE a write of one sector takes the least recently used VALID frame that is unpinned and read by no delivery, which leaves the
directory and the LRU order; with none of those either the allocations of the write wait in order, its frames still reserved. A
delivery job whose end leaves its frame evictable has it go to the write that waited (R108, R109, R116): the job of that write is queued, in
the step that frees the frame (the model's form, log entry 17; the words moved, log entries 50 and 67). -/
def Obligations.WriteIsStaged : Prop :=
  (∀ (s : State) (k : Kind) (b : BlockBody), Quiet s → Fresh s → Accepts s k b → k.isWrite = true → b.continues = false →
    s.cache.frames.length = 64 → b.count.toNat ≤ s.freeCount →
    ∃ (t : State) (fs : List Nat), exec (blockCommand k b) s = .next t
      ∧ fs.length = b.count.toNat ∧ fs.Nodup ∧ (∀ f ∈ fs, f < 64 ∧ (s.frame f).state = .free)
      ∧ t.queue.held = s.queue.held ++ [loneRequest s k b .staging 0]
      ∧ t.port.jobs = s.port.jobs ++ ((blockIndices b).zip fs).map (fun p =>
          { req := s.queue.nextId, orphan := false, kind := .staging p.2 p.1, base := b.mem.toNat + 256 * (p.1 - blockIndex b) })
      ∧ (∀ p ∈ (blockIndices b).zip fs,
          t.frame p.2 = { Frame.free with state := .staged, owner := some s.queue.nextId, idx := some p.1 })
      ∧ (∀ f, f ∉ fs → t.frame f = s.frame f)
      ∧ t.port.fifo = s.port.fifo ∧ t.cache.store = s.cache.store ∧ t.cache.waits = [] ∧ t.faults = s.faults ∧ t.zones = s.zones
      ∧ t.cart = s.cart ∧ t.seq = s.seq ∧ t.drive = s.drive)
  ∧ (∀ (s : State) (k : Kind) (b : BlockBody), Quiet s → Fresh s → Accepts s k b → k.isWrite = true → b.continues = false →
    (∀ fr ∈ s.cache.frames, fr.state ≠ .free) →
    let evictable (f : Nat) : Prop := (s.frame f).state = .valid ∧ (s.frame f).pinned = false ∧ s.hold f = 0
    (∀ f older newer, b.count = 1 → s.cache.lru = older ++ f :: newer → evictable f → (∀ g ∈ older, ¬evictable g) →
      ∃ t, exec (blockCommand k b) s = .next t
        ∧ t.frame f = { Frame.free with state := .staged, owner := some s.queue.nextId, idx := some (blockIndex b) }
        ∧ (∀ g, g ≠ f → t.frame g = s.frame g) ∧ t.cache.lru = s.cache.lru.filter (fun g => g != f) ∧ t.cache.waits = []
        ∧ t.queue.held = s.queue.held ++ [loneRequest s k b .staging 0]
        ∧ t.port.jobs = s.port.jobs ++
            [{ req := s.queue.nextId, orphan := false, kind := .staging f (blockIndex b), base := b.mem.toNat }]
        ∧ t.port.fifo = s.port.fifo ∧ t.cache.store = s.cache.store)
    ∧ ((∀ g ∈ s.cache.lru, ¬evictable g) →
      exec (blockCommand k b) s = .next (State.settleAccess { s with
        port := { s.port with partialBlock := [] }
        queue := { s.queue with
          held := s.queue.held ++ [loneRequest s k b .staging b.count.toNat], nextId := s.queue.nextId + 1 }
        cache := { s.cache with
          waits := (blockIndices b).map (fun i => { req := some s.queue.nextId, idx := i, staged := true }) } })))
  ∧ (∀ (s : State) (j : Job) (f i : Nat) (ws : List Word) (w : AllocWait) (q : Request), s.powered = true → s.port.waiting = none →
    s.queue.finished = [] → (∀ g ∈ s.frameNumbers, s.spent g = false) → s.port.running = some j → j.kind = .delivery f i →
    (j.orphan = true ∨ ∀ r, s.request j.req = some r → r.state ≠ .delivering) → s.cache.waits = [w] → w.req = some q.id →
    w.staged = true → s.request q.id = some q → (∀ fr ∈ s.cache.frames, fr.state ≠ .free) → (s.frame f).state = .valid →
    (s.frame f).pinned = false → s.hold f = 1 → f ∈ s.cache.lru → s.monitor.heldFor ≠ some f →
    (∀ g ∈ s.cache.lru, g ≠ f → ¬((s.frame g).state = .valid ∧ (s.frame g).pinned = false ∧ s.hold g = 0)) →
    ∃ t, exec (.dmaJobEnds ws) s = .next t
      ∧ t.frame f = { Frame.free with state := .staged, owner := some q.id, idx := some w.idx } ∧ (∀ g, g ≠ f → t.frame g = s.frame g)
      ∧ t.cache.waits = [] ∧ t.cache.lru = s.cache.lru.filter (fun g => g != f)
      ∧ t.queue.held = s.queue.held.map (fun x => if x.id = q.id then { x with reserved := x.reserved - 1 } else x)
      ∧ t.port.running = none ∧ t.port.jobs = s.port.jobs ++
          [{ req := q.id, orphan := false, kind := .staging f w.idx, base := q.mem + 256 * (w.idx - q.addr.index) }]
      ∧ t.port.dmaOut = (List.range' j.base 256).zip (readFrame s.cache.store f) ∧ t.cache.store = s.cache.store)

/-! ### Immediate requests -/

/-- UNPIN clears the pinned flag of the VALID pinned frames over its range and frees the STALE ones that no delivery reads, one
under a running refresh too;
DISCARD frees the VALID unpinned frames over its range, or retires those with a delivery hold; no other frame changes, and the record DONE
counts them (R64, R116). An UNPIN of the STALE pinned frame that a capture is held for, still read by a delivery, has the frame retire and
the capture dropped (R138); that the buffer is empty then is the model's reading (log entry 57). -/
def Obligations.UnpinAndDiscard : Prop :=
  ∀ (s : State) (k : Kind) (b : BlockBody), Quiet s → PassesPlain s k b → s.port.fifo.length < 16 →
    let covered (f : Nat) := ∃ i ∈ blockIndices b, s.dirFrame (blockSector b i) = some f
    (k = .unpin → (∀ f, covered f → (s.frame f).pinned = true → (s.frame f).state = .stale → s.hold f = 0) →
      ∃ t, exec (blockCommand k b) s = .next t
        ∧ t.port = { s.port with partialBlock := [], fifo := s.port.fifo ++ [plainRecord s k b .done .disk
            ((blockIndices b).filter (fun i => s.isPinned (blockSector b i))).length] }
        ∧ (∀ f, covered f → (s.frame f).pinned = true → (s.frame f).state = .stale → t.frame f = Frame.free)
        ∧ (∀ f, covered f → (s.frame f).state ≠ .stale → t.frame f = { s.frame f with pinned := false })
        ∧ (∀ f, ¬ covered f ∨ (s.frame f).pinned = false → t.frame f = s.frame f)
        ∧ t.queue = s.queue ∧ t.cache.store = s.cache.store ∧ t.faults = s.faults ∧ t.zones = s.zones ∧ t.cart = s.cart)
    ∧ (k = .unpin → ∀ f, covered f → (s.frame f).pinned = true → (s.frame f).state = .stale → s.hold f ≠ 0 →
        s.monitor.state = .holding → s.monitor.heldFor = some f →
      ∃ t, exec (blockCommand k b) s = .next t
        ∧ t.port = { s.port with partialBlock := [], fifo := s.port.fifo ++ [plainRecord s k b .done .disk
            ((blockIndices b).filter (fun i => s.isPinned (blockSector b i))).length] }
        ∧ t.frame f = { s.frame f with state := .stale, inDir := false, pinned := false, owner := none }
        ∧ f ∉ t.cache.lru ∧ (∀ e ∈ t.cache.refresh, e.frame ≠ f)
        ∧ t.monitor = { s.monitor with
            state := if s.access.peerHolding = some .observed then .watching else .idle
            header := [], data := [], kind := none, addr := none, verdict := none, heldFor := none })
    ∧ (k = .discard →
      ∃ t, exec (blockCommand k b) s = .next t
        ∧ t.port = { s.port with partialBlock := [], fifo := s.port.fifo ++ [plainRecord s k b .done .disk
            ((blockIndices b).filter (fun i => (s.dirFrame (blockSector b i)).any (fun f =>
              (s.frame f).state == .valid && !(s.frame f).pinned))).length] }
        ∧ (∀ f, covered f → (s.frame f).state = .valid → (s.frame f).pinned = false →
            t.frame f = if s.hold f = 0 then Frame.free
                        else { s.frame f with state := .stale, inDir := false, pinned := false, owner := none })
        ∧ (∀ f, ¬ covered f ∨ (s.frame f).state ≠ .valid ∨ (s.frame f).pinned = true → t.frame f = s.frame f)
        ∧ t.queue = s.queue ∧ t.cache.store = s.cache.store ∧ t.faults = s.faults ∧ t.zones = s.zones ∧ t.cart = s.cart)

/-- A CANCEL whose target stands alone in STAGING or WAITING with no delivery outstanding withdraws it: the CANCELLED record, with the
sectors done so far, enters the FIFO ahead of the CANCEL's own DONE record, and the target is held no more; its STAGED frames are FREE, and
no staging job of it is left, in progress or queued (R61, R62, R68). -/
def Obligations.CancelWithdraws : Prop :=
  ∀ (s : State) (b : BlockBody) (r : Request), Quiet s → IdInv s → PassesPlain s .cancel b → s.port.fifo.length + 2 ≤ 16 →
    s.queue.held.find? (fun q => q.tag == b.opA.extractLsb' 0 8) = some r → r.kind.isDrive = true → r.chain = none →
    r.failAt = none → r.state = .staging ∨ r.state = .waiting → s.delivering r.id = false →
    ∃ t c, exec (.cancel b) s = .next t
      ∧ c.tag = r.tag ∧ c.kindCode = r.kind.code ∧ c.outcome = .cancelled ∧ c.late = false ∧ c.written = false
      ∧ c.sectors = r.done.length ∧ c.wordA = (sectorAt r.addr.cyl (r.undone.headD r.addr.index)).word
      ∧ c.time = s.clock.extractLsb' 0 16
      ∧ s.port.fifo ++ [c, plainRecord s .cancel b .done .disk 0] <+: t.port.fifo
      ∧ (∀ q ∈ t.queue.held, q.id ≠ r.id) ∧ (∀ j ∈ t.allJobs, j.isFor r.id = false)
      ∧ (∀ g, (s.frame g).owner = some r.id → (s.frame g).state = .staged → t.frame g = Frame.free)
      ∧ t.zones = s.zones ∧ t.cart = s.cart ∧ t.seq = s.seq ∧ t.drive = s.drive

/-- In LEAVING a RELEASE-CARTRIDGE, with its DONE record placed first, or the end of the release timer, with RELEASE-TIMEOUT raised, enters
RELEASED: the timer stopped, CREL asserted, the recorded state kept, and no drive request left in STAGING or WAITING (R63, R157, R160,
R22). The drain ends a request that stands alone there CARTRIDGE-REMOVED, its record behind that of the RELEASE-CARTRIDGE, and at the
timer's end marks a member of an open chain with it (R157, R158). -/
def Obligations.ReleaseEntersReleased : Prop :=
  (∀ (s : State) (b : BlockBody), Quiet s → IdInv s → PassesPlain s .releaseCartridge b → s.port.fifo.length < 16 →
      s.cart.state = .leaving →
      ∃ t, exec (.releaseCartridge b) s = .next t
        ∧ s.port.fifo ++ [plainRecord s .releaseCartridge b .done .disk 0] <+: t.port.fifo
        ∧ t.cart = { s.cart with state := .released, timer := none } ∧ t.lines.crel = true
        ∧ (∀ r ∈ t.queue.held, r.kind.isDrive = true → r.state ≠ .staging ∧ r.state ≠ .waiting)
        ∧ (∀ r, Drainable s r → s.port.fifo.length + 2 ≤ 16 → ∃ c, Drained .cartridgeRemoved s r c t
            ∧ t.port.fifo = s.port.fifo ++ [plainRecord s .releaseCartridge b .done .disk 0, c])
        ∧ t.zones = s.zones ∧ t.seq = s.seq ∧ t.drive = s.drive)
  ∧ (∀ s : State, s.powered = true → s.zones.configured = true → IdInv s → s.cart.state = .leaving → s.cart.timer.isSome = true →
      ∃ t, exec .releaseTimerExpires s = .next t
        ∧ t.cart = { s.cart with state := .released, timer := none } ∧ t.lines.crel = true
        ∧ t.port.notices.getLsbD 4 = true
        ∧ (∀ r ∈ t.queue.held, r.kind.isDrive = true → r.state ≠ .staging ∧ r.state ≠ .waiting)
        ∧ (∀ r, Still s → Drainable s r → ∃ c, Drained .cartridgeRemoved s r c t ∧ t.port.fifo = s.port.fifo ++ [c])
        ∧ (∀ m, Still s → s.queue.held = [m] → m.state = .pendingChain → Marked .cartridgeRemoved s m t)
        ∧ t.zones = s.zones ∧ t.seq = s.seq ∧ t.drive = s.drive)

/-- FETCH-FAULT removes the oldest entry of the fault list and returns its address, its kind, origin and repeat count, and its first time
in a record DONE; on an empty list it completes EMPTY and changes nothing else. When the removal empties the list the overflow flag is
cleared. Held in the intake for want of a FIFO place it removes nothing (R65). -/
def Obligations.FetchFaultTakesTheOldest : Prop :=
  (∀ (s : State) (b : BlockBody) (e : FaultEntry) (es : List FaultEntry), Quiet s → PassesPlain s .fetchFault b →
    s.port.fifo.length < 16 → s.faults.entries = e :: es →
    exec (.fetchFault b) s = .next { s with
      port := { s.port with partialBlock := [], fifo := s.port.fifo ++ [{ plainRecord s .fetchFault b .done .disk 0 with
        wordA := match e.addr with
                 | .sector a => BitVec.ofNat 9 a.cyl ++ (BitVec.ofNat 2 a.head ++ BitVec.ofNat 5 a.sec)
                 | .cylinder c => BitVec.ofNat 9 c ++ (3#2 ++ 0#5)
        wordB := e.kind.code ++ (0#3 ++ (e.origin.code ++ BitVec.ofNat 8 e.repeats))
        time := e.firstTime.extractLsb' 0 16 }] }
      faults := { s.faults with entries := es, overflow := if es = [] then false else s.faults.overflow } })
  ∧ (∀ (s : State) (b : BlockBody), Quiet s → PassesPlain s .fetchFault b → s.port.fifo.length < 16 → s.faults.entries = [] →
    exec (.fetchFault b) s = .next { s with
      port := { s.port with
        partialBlock := [], fifo := s.port.fifo ++ [{ plainRecord s .fetchFault b .empty .disk 0 with time := 0 }] } })
  ∧ (∀ (s : State) (b : BlockBody), Quiet s → PassesPlain s .fetchFault b → 16 ≤ s.port.fifo.length →
    exec (.fetchFault b) s = .next { s with
      port := { s.port with partialBlock := [], waiting := some { kindCode := Kind.fetchFault.code, body := b } } })

/-- A REPORT is held with a job of the ten values taken now: the four counters, the clock, the requests held with itself, the pinned and
FREE frames, the reserved count, the turn mark with the arm cylinder (R66, R178, R179). A CONFIGURE of an unlocked station that holds
nothing is held with its own job (R66, R168). Nothing else changes. -/
def Obligations.ReportAndConfigureAccepted : Prop :=
  (∀ (s : State) (b : BlockBody), Quiet s → PassesPlain s .report b →
    exec (.report b) s = .next { s with
      queue := { s.queue with
        held := s.queue.held ++ [loneRequest s .report b .running 0], nextId := s.queue.nextId + 1 }
      port := { s.port with
        partialBlock := []
        jobs := s.port.jobs ++ [{ req := s.queue.nextId, orphan := false, base := b.mem.toNat, kind := JobKind.report (
          [s.faults.retry, s.faults.collide, s.faults.capture, s.faults.late, s.clock.extractLsb' 16 16, s.clock.extractLsb' 0 16,
            BitVec.ofNat 16 (s.queue.held.length + 1), BitVec.ofNat 8 s.pinnedCount ++ BitVec.ofNat 8 s.freeCount,
            BitVec.ofNat 16 s.reservedCount,
            s.access.turn.code ++ (0#5 ++ (bit s.monitor.arm.isNone ++ BitVec.ofNat 9 (s.monitor.arm.elim 0 (·.val))))]) }] } })
  ∧ (∀ (s : State) (b : BlockBody), Quiet s → PassesPlain s .configure b → s.zones.lock = false → s.queue.held = [] →
    exec (.configure b) s = .next { s with
      queue := { s.queue with held := [loneRequest s .configure b .running 0], nextId := s.queue.nextId + 1 }
      port := { s.port with
        partialBlock := []
        jobs := s.port.jobs ++ [{ req := s.queue.nextId, orphan := false, kind := .configure, base := b.mem.toNat }] } })

/-! ### The data channel -/

/-- The oldest job of the list starts on a free channel; a busy channel or an empty list starts nothing (R178; that the command then changes
nothing is the model's form, log entry 6). -/
def Obligations.OldestJobStarts : Prop :=
  ∀ s : State, s.powered = true →
    (∀ j js, s.port.running = none → s.port.jobs = j :: js →
      exec .dmaJobStart s = .next { s with port := { s.port with running := some j, jobs := js } })
    ∧ (s.port.running.isSome = true ∨ s.port.jobs = [] → exec .dmaJobStart s = .next s)

/-- The end of a job (R53, R54, R178). A staging job's 256 words stand in its frame, every other frame reads as before, and a lone write
whose last staging job it was enters WAITING. A delivery job has moved its frame's 256 words to consecutive word addresses; the last one of
a lone READ in DELIVERING posts its record, with its fixed outcome, and frees its frame of a NONE zone (R112). A REPORT's job has moved its
snapshot, and its record DONE is posted. At the end of a delivery from the frame that a capture is held for, the words moved are the old
ones, whole; a good capture then gives its words to the frame, VALID, out of the refresh set and most recent; one without good capture
leaves a pinned frame STALE and in the refresh set and frees an unpinned one that no other delivery reads (R119, R120, R138). The monitor
goes on watching in an observed tenure, else it is IDLE; its buffer is empty, by the example of section 6.7. The words moved stand in the
model's record of the last job (log entry 50), a delivery's as its frame holds them at the job's end (log entry 67). That no cache is
consulted for other requests when a write enters WAITING is the model's choice (log entry 70). -/
def Obligations.JobsEnd : Prop :=
  (∀ (s : State) (j : Job) (r : Request) (f i : Nat) (ws : List Word), Still s → StoreInv s → s.port.waiting = none →
    s.port.running = some j → j.kind = .staging f i → j.orphan = false → f < 64 → ws.length = 256 →
    s.request j.req = some r → r.state = .staging → r.chain = none → s.port.jobs.all (fun x => x.req != j.req) = true →
    ∃ t, exec (.dmaJobEnds ws) s = .next t
      ∧ readFrame t.cache.store f = ws ∧ (∀ g, g ≠ f → readFrame t.cache.store g = readFrame s.cache.store g)
      ∧ t.queue.held = s.queue.held.map (fun q => if q.id = j.req then { q with state := .waiting } else q)
      ∧ t.port = { s.port with running := none } ∧ t.cache.frames = s.cache.frames ∧ t.faults = s.faults ∧ t.zones = s.zones
      ∧ t.cart = s.cart ∧ t.seq = s.seq ∧ t.drive = s.drive)
  ∧ (∀ (s : State) (j : Job) (r : Request) (f i : Nat) (ws : List Word), Still s → s.port.waiting = none →
    s.port.running = some j → j.kind = .delivery f i → j.orphan = false →
    s.request j.req = some r → r.state = .delivering → r.outcome = some .done → r.chain = none → r.kind = .read →
    s.port.jobs.all (fun x => x.req != j.req) = true → s.port.fifo.length < 16 →
    ∃ t c, exec (.dmaJobEnds ws) s = .next t
      ∧ t.port.dmaOut = (List.range' j.base 256).zip (readFrame s.cache.store f)
      ∧ c.tag = r.tag ∧ c.outcome = .done ∧ c.sectors = r.done.length ∧ c.wordA = 0 ∧ c.wordB = 0
      ∧ c.time = s.clock.extractLsb' 0 16
      ∧ c.late = (r.explicit && r.due.any (fun d => decide (0 < (s.clock - d).toInt)))
      ∧ s.port.fifo ++ [c] <+: t.port.fifo ∧ (∀ q ∈ t.queue.held, q.id ≠ r.id)
      ∧ ((s.frame f).state = .filling → (s.frame f).filled = true → s.hold f = 1 → s.monitor.heldFor ≠ some f → t.frame f = Frame.free)
      ∧ t.zones = s.zones ∧ t.cart = s.cart ∧ t.seq = s.seq ∧ t.drive = s.drive)
  ∧ (∀ (s : State) (j : Job) (r : Request) (out ws : List Word), Still s → s.port.waiting = none → s.port.running = some j →
    j.kind = .report out → s.request j.req = some r → r.kind = .report → r.state = .running → r.chain = none →
    s.port.fifo.length < 16 →
    ∃ t c, exec (.dmaJobEnds ws) s = .next t ∧ t.port.dmaOut = (List.range' j.base out.length).zip out
      ∧ c.tag = r.tag ∧ c.outcome = .done ∧ c.wordA = 0 ∧ c.wordB = 0
      ∧ s.port.fifo ++ [c] <+: t.port.fifo ∧ (∀ q ∈ t.queue.held, q.id ≠ r.id)
      ∧ t.faults.entries = s.faults.entries ∧ t.zones = s.zones ∧ t.cart = s.cart ∧ t.cache.store = s.cache.store)
  ∧ (∀ (s : State) (j : Job) (f i : Nat) (ws : List Word), Still s → StoreInv s → s.port.waiting = none → s.port.running = some j →
    j.kind = .delivery f i → (j.orphan = true ∨ ∀ r, s.request j.req = some r → r.state ≠ .delivering) → f < 64 →
    s.cache.frames.length = 64 → (s.frame f).state = .stale → (s.frame f).inDir = true → s.monitor.state = .holding →
    s.monitor.heldFor = some f → s.monitor.data.length = 257 →
    ∃ t, exec (.dmaJobEnds ws) s = .next t ∧ t.port.dmaOut = (List.range' j.base 256).zip (readFrame s.cache.store f)
      ∧ t.port.running = none ∧ t.queue = s.queue
      ∧ t.monitor.state = (if s.access.peerHolding = some .observed then .watching else .idle) ∧ t.monitor.heldFor = none
      ∧ t.monitor.header = [] ∧ t.monitor.data = [] ∧ t.monitor.arm = s.monitor.arm
      ∧ (∀ g, g ≠ f → t.frame g = s.frame g ∧ readFrame t.cache.store g = readFrame s.cache.store g)
      ∧ (s.monitor.verdict = some .good → readFrame t.cache.store f = s.monitor.data.take 256
          ∧ t.frame f = { s.frame f with state := .valid } ∧ (∀ e ∈ t.cache.refresh, e.frame ≠ f)
          ∧ t.cache.lru = s.cache.lru.filter (fun g => g != f) ++ [f])
      ∧ (s.monitor.verdict ≠ some .good → t.cache.store = s.cache.store
          ∧ ((s.frame f).pinned = true → t.frame f = s.frame f ∧ ∃ e ∈ t.cache.refresh, e.frame = f)
          ∧ ((s.frame f).pinned = false → s.hold f = 1 → t.frame f = Frame.free)))

/-- The record of a CONFIGURE (R169, R170, R171, R153). A cache mode of code 3, a guard cylinder above 399 or a threshold code above 3 ends
it BAD-CONFIG with nothing changed. A valid record replaces the zone map, the guard range and the four thresholds as one, sets the lock if it
carries the lock flag, and completes DONE; with no job in the list every VALID or STALE frame of a zone turned from DROP or CAPTURE to NONE is
FREE, and every other frame stays (R122, R170); one under a running refresh is released too and is FREE when the refresh ends, and that it
stands retired until then is the model's reading (log entry 14). The first one
applied configures the station: PRES asserted, turn mark A, k 0, the monitor IDLE with the arm cylinder UNKNOWN, and cartridge control in the
state that RDY and ULR give, with the label reservation made when RDY stands asserted. -/
def Obligations.ConfigurationJudged : Prop :=
  ∀ (s : State) (j : Job) (r : Request) (ws : List Word), Still s → LineInv s → s.port.waiting = none → s.port.running = some j →
    j.kind = .configure → s.queue.held = [r] → r.id = j.req → r.kind = .configure → r.state = .running → r.chain = none →
    (∀ fr ∈ s.cache.frames, fr.owner ≠ some r.id) → s.port.fifo.length < 16 → ws.length = 20 →
    let bad := (∃ i, i < 16 ∧ (ws.getD i 0).extractLsb' 0 2 = 3#2) ∨ 399 < (ws.getD 16 0).toNat ∨ 399 < (ws.getD 17 0).toNat
      ∨ 3 < ((ws.getD 18 0).extractLsb' 12 4).toNat ∨ 3 < ((ws.getD 18 0).extractLsb' 8 4).toNat
      ∨ 3 < ((ws.getD 18 0).extractLsb' 4 4).toNat ∨ 3 < ((ws.getD 18 0).extractLsb' 0 4).toNat
    (bad → ∃ t c, exec (.dmaJobEnds ws) s = .next t ∧ c.tag = r.tag ∧ c.outcome = .badConfig ∧ c.wordA = 0 ∧ c.wordB = 0
        ∧ t.port.fifo = s.port.fifo ++ [c] ∧ t.queue.held = [] ∧ t.zones = s.zones ∧ t.cache = s.cache ∧ t.cart = s.cart
        ∧ t.lines.pres = s.lines.pres ∧ t.monitor = s.monitor)
    ∧ (¬bad → ∃ t c, exec (.dmaJobEnds ws) s = .next t ∧ c.tag = r.tag ∧ c.outcome = .done
        ∧ t.port.fifo = s.port.fifo ++ [c] ∧ t.queue.held = []
        ∧ (∀ z, z < 16 → (t.zones.map.getD z { mode := .none, noWrite := false }).noWrite = (ws.getD z 0).getLsbD 15
            ∧ (t.zones.map.getD z { mode := .none, noWrite := false }).mode =
                (if (ws.getD z 0).extractLsb' 0 2 = 0 then .none else if (ws.getD z 0).extractLsb' 0 2 = 1 then .drop else .capture))
        ∧ t.zones.guardFirst = (ws.getD 16 0).toNat ∧ t.zones.guardLast = (ws.getD 17 0).toNat
        ∧ t.zones.thresholds = {
            retry := (ws.getD 18 0).extractLsb' 12 2, collide := (ws.getD 18 0).extractLsb' 8 2
            capture := (ws.getD 18 0).extractLsb' 4 2, late := (ws.getD 18 0).extractLsb' 0 2 }
        ∧ (s.port.jobs = [] → ∀ f,
            let gone := ((s.frame f).state = .valid ∨ (s.frame f).state = .stale)
              ∧ ∃ a, (s.frame f).addr = some a ∧ s.zones.mode a.cyl ≠ .none ∧ t.zones.mode a.cyl = .none
            (gone → s.refreshing f = false → t.frame f = Frame.free)
            ∧ (gone → s.refreshing f = true →
                t.frame f = { s.frame f with state := .stale, inDir := false, pinned := false, owner := none })
            ∧ (¬gone → t.frame f = s.frame f))
        ∧ t.zones.lock = (s.zones.lock || (ws.getD 19 0).getLsbD 0) ∧ t.zones.configured = true ∧ t.lines.pres = true
        ∧ (s.zones.configured = true → t.access.turn = s.access.turn ∧ t.access.k = s.access.k ∧ t.cart = s.cart ∧ t.monitor.arm = s.monitor.arm)
        ∧ (s.zones.configured = false → t.access.turn = .A ∧ t.access.k = 0 ∧ t.access.round = none
            ∧ (t.access.state = .idle ∨ t.access.state = .waiting) ∧ t.monitor.state = .idle ∧ t.monitor.arm = none
            ∧ t.lines.crel = false
            ∧ (s.pins.rdy = false → t.cart.state = .absent)
            ∧ (s.pins.rdy = true → t.cache.labelReserved = true)
            ∧ (s.pins.rdy = true → s.pins.ulr = false → t.cart.state = .loading)
            ∧ (s.pins.rdy = true → s.pins.ulr = true → t.cart.state = .leaving ∧ t.cart.recorded = some .loading
                ∧ t.cart.timer = some (s.clock + 30000) ∧ t.port.notices.getLsbD 0 = true)))

/-- A word that the computer does not answer (R53, R66, R100, R148, R178). A REPORT or CONFIGURE ends MEMORY-ERROR. A lone write in STAGING ends
MEMORY-ERROR, its STAGED frames FREE; a write member of a closed chain does, and the other member ends CHAIN-ABORTED, their records in
submission order; a member of a chain still open is marked MEMORY-ERROR unless it was marked before, stays in PENDING-CHAIN with no staging
job left and its STAGED frames FREE, and no record is posted. A running READ goes on, its queued delivery jobs dropped and none queued from then on. The words moved
before it stand where they were moved to (the model's record of the last job, log entry 50), a delivery's as its frame holds them at the
job's end (log entry 67). -/
def Obligations.MemoryDoesNotAnswer : Prop :=
  (∀ (s : State) (j : Job) (r : Request) (n : Nat) (ws : List Word), Still s → s.port.waiting = none → s.port.running = some j →
    (∃ out, j.kind = .report out) ∨ j.kind = .configure → s.request j.req = some r → r.kind = .report ∨ r.kind = .configure →
    r.state = .running → r.chain = none → s.port.fifo.length < 16 →
    ∃ t c, exec (.dmaNoAnswer n ws) s = .next t ∧ c.tag = r.tag ∧ c.outcome = .memoryError
      ∧ s.port.fifo ++ [c] <+: t.port.fifo ∧ (∀ q ∈ t.queue.held, q.id ≠ r.id) ∧ t.zones = s.zones
      ∧ t.faults.entries = s.faults.entries ∧ t.cart = s.cart
      ∧ (∀ out, j.kind = .report out → t.port.dmaOut = (List.range' j.base (out.take n).length).zip (out.take n)))
  ∧ (∀ (s : State) (j : Job) (r : Request) (f i n : Nat) (ws : List Word), Still s → s.port.waiting = none → s.port.running = some j →
    j.kind = .staging f i → j.orphan = false → s.request j.req = some r → r.kind.isWrite = true → r.state = .staging → r.chain = none →
    s.port.fifo.length < 16 →
    ∃ t c, exec (.dmaNoAnswer n ws) s = .next t ∧ c.tag = r.tag ∧ c.outcome = .memoryError
      ∧ c.sectors = r.done.length ∧ s.port.fifo ++ [c] <+: t.port.fifo ∧ (∀ q ∈ t.queue.held, q.id ≠ r.id) ∧ (∀ x ∈ t.port.jobs, x.isFor r.id = false)
      ∧ (∀ g, g < s.cache.frames.length → (s.frame g).owner = some r.id → (s.frame g).state = .staged → t.frame g = Frame.free)
      ∧ t.faults.entries = s.faults.entries ∧ t.zones = s.zones ∧ t.cart = s.cart)
  ∧ (∀ (s : State) (j : Job) (r : Request) (f i n : Nat) (ws : List Word), Still s → s.port.waiting = none → s.port.running = some j →
    j.kind = .delivery f i → j.orphan = false → s.request j.req = some r → r.kind = .read → r.state = .running →
    s.monitor.heldFor = none →
    ∃ t, exec (.dmaNoAnswer n ws) s = .next t
      ∧ t.queue.held = s.queue.held.map (fun q => if q.id = j.req then { q with refusedAt := some i } else q)
      ∧ t.port.running = none ∧ t.port.jobs = s.port.jobs.filter (fun x => !(x.isFor j.req && x.isDelivery))
      ∧ t.port.dmaOut = (List.range' j.base ((readFrame s.cache.store f).take n).length).zip ((readFrame s.cache.store f).take n)
      ∧ t.port.fifo = s.port.fifo ∧ t.cache.store = s.cache.store ∧ t.faults = s.faults ∧ t.zones = s.zones ∧ t.cart = s.cart
      ∧ (∀ (u : State) (q : Request) (x g : Nat), q.refusedAt.isSome = true → u.queueDelivery q x g = u))
  ∧ (∀ (s : State) (j : Job) (p q : Request) (f i n : Nat) (ws : List Word), Still s → s.port.waiting = none → s.port.running = some j →
    j.kind = .staging f i → j.orphan = false → j.req = q.id → s.queue.held = [p, q] → p.id < q.id → p.chain = some p.id →
    q.chain = some p.id → p.kind.isDrive = true → q.kind.isWrite = true → p.state = .staging → q.state = .staging →
    s.port.fifo.length + 2 ≤ 16 →
    ∃ t c e, exec (.dmaNoAnswer n ws) s = .next t ∧ c.tag = p.tag ∧ c.outcome = .chainAborted ∧ e.tag = q.tag
      ∧ e.outcome = .memoryError ∧ t.port.fifo = s.port.fifo ++ [c, e] ∧ t.queue.held = []
      ∧ (∀ x ∈ t.port.jobs, x.isFor p.id = false ∧ x.isFor q.id = false)
      ∧ (∀ g, (s.frame g).owner = some p.id ∨ (s.frame g).owner = some q.id → (s.frame g).state = .staged → t.frame g = Frame.free)
      ∧ t.faults.entries = s.faults.entries ∧ t.zones = s.zones ∧ t.cart = s.cart)
  ∧ (∀ (s : State) (j : Job) (m : Request) (f i n : Nat) (ws : List Word), Still s → s.port.waiting = none → s.port.running = some j →
    j.kind = .staging f i → j.orphan = false → s.request j.req = some m → m.state = .pendingChain →
    ∃ t, exec (.dmaNoAnswer n ws) s = .next t
      ∧ t.queue.held = s.queue.held.map (fun q => if q.id = m.id then { q with mark := some (q.mark.getD .memoryError) } else q)
      ∧ t.port.fifo = s.port.fifo ∧ t.port.running = none ∧ (∀ x ∈ t.port.jobs, x.isFor m.id = true → x.isStaging = false)
      ∧ (∀ g, (s.frame g).owner = some m.id → (s.frame g).state = .staged → t.frame g = Frame.free)
      ∧ (∀ g, (s.frame g).owner ≠ some m.id → t.frame g = s.frame g)
      ∧ t.faults = s.faults ∧ t.zones = s.zones ∧ t.cart = s.cart ∧ t.seq = s.seq ∧ t.drive = s.drive)

/-! ### Cartridge change -/

/-- At the rise of RDY a configured station's arm cylinder becomes 0 and cartridge control leaves ABSENT for LOADING with the label
reservation made; the access state follows the label read (R126, R154). SKC stands asserted, since the drive has recalibrated (R15). That SNUM
then stands at 0, about to count, and that the levels follow the edge without a command of their own, is the model's reading (log entry
43). -/
def Obligations.ReadyRises : Prop :=
  ∀ s : State, Still s → s.zones.configured = true → s.cart.state = .absent →
    exec .rdyRises s = .next (State.settleAccess { s with
      pins := { s.pins with rdy := true, skc := true, skf := false, snum := 0 }
      monitor := { s.monitor with arm := some 0 }
      cart := { s.cart with state := .loading }
      cache := { s.cache with labelReserved := true } })

/-- At the fall of RDY a configured station enters ABSENT in any other state (R101, R157, R163): CARTRIDGE-GONE raised, the timer, the
recorded state and the owed rejection dropped, CREL deasserted, the label reservation given up unless it was already, the arm cylinder
UNKNOWN, the sequencer IDLE and the line released, no drive request left in STAGING or WAITING; the last serial and the zone map stay. With
no work running and no capture in progress, the drain ends a request that stands alone CARTRIDGE-REMOVED and marks a member of an open chain
with it (R157, R158). A request running alone ends CARTRIDGE-REMOVED with the sector of its visit, or between visits its lowest pending one,
in word A, WRITTEN clear, no retry counted and no fault listed; its STAGED and unread FILLING frames are FREE. The directory frame of a field
cut short in WRITING, and of sectors sent and not verified (log entry 12), is settled as torn: FREE or retired, a pinned one STALE and in the
refresh set (R101, R114). The records that one fall leaves stand in the order of acceptance, and a capture it cuts short is reported before the arm cylinder becomes
UNKNOWN (log entries 42 and 59, the model's readings); no clause rests on either. -/
def Obligations.ReadyFalls : Prop :=
  ∀ (s : State) (cap : Option PeerField) (l : Lines), s.powered = true → s.zones.configured = true → IdInv s → LineInv s →
    s.cart.state ≠ .absent →
    ∃ t, exec (.rdyFalls cap l) s = .next t
      ∧ t.cart = { state := .absent, recorded := none, lastSerial := s.cart.lastSerial, timer := none, rejectionOwed := false }
      ∧ t.port.notices.getLsbD 3 = true ∧ t.lines.crel = false ∧ t.lines.pres = s.lines.pres ∧ t.monitor.arm = none
      ∧ t.cache.labelReserved = false ∧ t.seq = Sequencer.idle ∧ t.access.state ≠ .holding ∧ (s.access.state ≠ .checking → t.lines.hold = false)
      ∧ t.pins.rdy = false ∧ t.zones = s.zones
      ∧ (∀ r ∈ t.queue.held, r.kind.isDrive = true → r.state ≠ .staging ∧ r.state ≠ .waiting)
      ∧ (∀ r, Still s → s.monitor.state ≠ .capturing → s.seq.state = .idle → s.seq.work = none → Drainable s r →
          ∃ c, Drained .cartridgeRemoved s r c t ∧ t.port.fifo = s.port.fifo ++ [c] ∧ t.faults.entries = s.faults.entries)
      ∧ (∀ m, Still s → s.monitor.state ≠ .capturing → s.seq.state = .idle → s.seq.work = none → s.queue.held = [m] →
          m.state = .pendingChain → Marked .cartridgeRemoved s m t)
      ∧ (∀ r : Request, Still s → s.monitor.state ≠ .capturing → s.seq.work = some (.request r.id) → s.seq.stopping = false →
          Lone s r → r.state = .running →
          let cut := (match s.seq.state, s.seq.sending with
              | .writing, some x => [x.addr]
              | _, _ => []) ++ s.seq.unverified.map (fun i => sectorAt s.seq.cyl i)
          cut.Nodup →
          let torn (g : Nat) : Prop := ∃ a ∈ cut, s.dirFrame a = some g
          ∃ c : Completion, t.port.fifo = s.port.fifo ++ [c] ∧ t.queue.held = []
            ∧ c.tag = r.tag ∧ c.kindCode = r.kind.code ∧ c.outcome = .cartridgeRemoved ∧ c.sectors = r.done.length ∧ c.written = false
            ∧ (∀ idx, s.seq.visit = some idx → c.wordA = (sectorAt s.seq.cyl idx).word)
            ∧ (s.seq.visit = none → c.wordA = (sectorAt s.seq.cyl (s.seq.pendingIdx.headD 0)).word)
            ∧ t.faults.entries = s.faults.entries ∧ t.faults.retry = s.faults.retry
            ∧ (∀ g, torn g → (s.frame g).pinned = false → s.hold g = 0 → t.frame g = Frame.free)
            ∧ (∀ g, torn g → (s.frame g).pinned = false → s.hold g ≠ 0 → t.frame g = (s.frame g).retired)
            ∧ (∀ g, torn g → (s.frame g).pinned = true →
                t.frame g = { s.frame g with state := .stale } ∧ ∃ e ∈ t.cache.refresh, e.frame = g)
            ∧ (∀ g, ¬torn g → (s.frame g).owner = some r.id →
                (s.frame g).state = .staged ∨ ((s.frame g).state = .filling ∧ (s.frame g).filled = false) → t.frame g = Frame.free)
            ∧ (∀ g, ¬torn g → (s.frame g).owner ≠ some r.id → t.frame g = s.frame g) ∧ t.cache.store = s.cache.store)

/-- At the rise of ULR with RDY asserted the state is recorded, LEAVING entered, the release timer started to run out 30,000 ms from now and
CARTRIDGE-LEAVING raised (R159). At its fall in LEAVING or RELEASED the timer is stopped, CREL deasserted and the recorded state entered and
discarded, with CARTRIDGE-READY for MOUNTED and no notice for LOADING or for UNUSABLE with no rejection owed; with one owed UNUSABLE is
announced by CARTRIDGE-REJECTED, the flag cleared, and the drain leaves no drive request in STAGING or WAITING (R162, R157). With RDY
deasserted neither edge does anything. The access state follows (R24). -/
def Obligations.UnloadEdges : Prop :=
  ∀ s : State, Still s → s.zones.configured = true →
    (∀ rec, s.pins.rdy = true → s.cart.state = Recorded.state rec →
      exec .ulrRises s = .next (State.settleAccess { s with
        pins := { s.pins with ulr := true }
        cart := { s.cart with state := .leaving, recorded := some rec, timer := some (s.clock + 30000) }
        port := { s.port with notices := s.port.notices ||| 0x0001#15 } }))
    ∧ (s.pins.rdy = true → s.cart.state = .leaving ∨ s.cart.state = .released → s.cart.recorded = some .mounted →
      exec .ulrFalls s = .next (State.settleAccess { s with
        pins := { s.pins with ulr := false }
        cart := { s.cart with state := .mounted, recorded := none, timer := none }
        lines := { s.lines with crel := false }
        port := { s.port with notices := s.port.notices ||| 0x0002#15 } }))
    ∧ (∀ rec, s.pins.rdy = true → s.cart.state = .leaving ∨ s.cart.state = .released → s.cart.recorded = some rec →
        rec = .loading ∨ (rec = .unusable ∧ s.cart.rejectionOwed = false) →
      exec .ulrFalls s = .next (State.settleAccess { s with
        pins := { s.pins with ulr := false }
        cart := { s.cart with state := Recorded.state rec, recorded := none, timer := none }
        lines := { s.lines with crel := false } }))
    ∧ (IdInv s → s.pins.rdy = true → s.cart.state = .leaving ∨ s.cart.state = .released → s.cart.recorded = some .unusable →
        s.cart.rejectionOwed = true →
      ∃ t, exec .ulrFalls s = .next t
        ∧ t.cart = { s.cart with state := .unusable, recorded := none, timer := none, rejectionOwed := false }
        ∧ t.port.notices.getLsbD 2 = true ∧ t.lines.crel = false ∧ t.pins = { s.pins with ulr := false }
        ∧ (∀ r ∈ t.queue.held, r.kind.isDrive = true → r.state ≠ .staging ∧ r.state ≠ .waiting)
        ∧ t.zones = s.zones ∧ t.seq = s.seq ∧ t.drive = s.drive)
    ∧ (s.pins.rdy = false → exec .ulrRises s = .next { s with pins := { s.pins with ulr := true } }
        ∧ exec .ulrFalls s = .next { s with pins := { s.pins with ulr := false } })

/-! ### The drive line -/

/-- A change of the peer's PRES sets the turn mark to A, restarts the gap count and raises PEER-ARRIVED or PEER-LEFT; a round of the
station's own is abandoned, its drivers released (that one without drive work is IDLE in the same step is the model's reading, log entry
48); a fall ends whatever tenure of the peer was seen (R21, R25, R40). k, the backoff timer and COLLIDE stay. A HOLD that stands asserted at
the rise is taken then as an unidentified holding with the arm cylinder UNKNOWN (R33, R125; the model's reading, log entry 29). -/
def Obligations.PeerPresence : Prop :=
  ∀ s : State, Still s → s.zones.configured = true →
    (∃ t, exec .peerPresRises s = .next t
      ∧ t.pins = { s.pins with pres := true } ∧ t.port.notices = s.port.notices ||| 0x0020#15
      ∧ t.access.turn = .A ∧ t.access.round = none ∧ t.access.k = s.access.k ∧ t.access.backoff = s.access.backoff
      ∧ (s.access.state = .bidding ∨ s.access.state = .checking →
          (t.access.state = .waiting ∨ t.access.state = .idle) ∧ t.lines = { s.lines with hold := false, call := false, mark1 := false, mark2 := false })
      ∧ (s.access.state = .holding ∨ s.access.state = .backoff → t.access.state = s.access.state ∧ t.lines = s.lines)
      ∧ (s.pins.hold = true → s.access.state ≠ .holding → t.access.peerHolding = some .unidentified ∧ t.monitor.arm = none)
      ∧ t.queue = s.queue ∧ t.cache = s.cache ∧ t.faults = s.faults ∧ t.zones = s.zones ∧ t.cart = s.cart ∧ t.seq = s.seq)
    ∧ (∃ t, exec (.peerPresFalls none) s = .next t
      ∧ t.pins = { s.pins with pres := false } ∧ t.access.turn = .A ∧ t.access.round = none ∧ t.access.peerHolding = none
      ∧ t.access.k = s.access.k ∧ t.access.backoff = s.access.backoff ∧ t.faults.collide = s.faults.collide
      ∧ t.port.notices.getLsbD 6 = true
      ∧ (s.access.state = .bidding ∨ s.access.state = .checking →
          (t.access.state = .waiting ∨ t.access.state = .idle) ∧ t.lines = { s.lines with hold := false, call := false, mark1 := false, mark2 := false })
      ∧ t.monitor.state ≠ .watching ∧ t.zones = s.zones ∧ t.cart = s.cart)

/-- A fall of HOLD beyond the station's own drive restarts the gap count and ends the peer's holding that was seen, the monitor with it
(R25, R33, R40; a station that bids or checks runs its round on, log entry 31, and is not spoken of here); a rise where no identity check
falls begins an unidentified holding, which leaves the turn mark as it stands and makes the
arm cylinder UNKNOWN (R33, R34, R125). That a pulse within the check window of a station that does not proceed leaves the arm cylinder as it is
is the model's choice (log entry 69). -/
def Obligations.HoldEdges : Prop :=
  ∀ s : State, Still s → s.zones.configured = true → s.pins.pres = true →
    (s.access.state = .backoff → s.monitor.state ≠ .capturing →
      exec (.holdFalls none) s = .next { s with
        pins := { s.pins with hold := false }
        access := { s.access with peerHolding := none, lineHeldRaised := false, round := none }
        monitor := { s.monitor with state := if s.monitor.state = .watching then .idle else s.monitor.state } })
    ∧ (s.access.state = .idle ∨ s.access.state = .waiting → s.monitor.state ≠ .capturing →
      ∃ t, exec (.holdFalls none) s = .next t ∧ t.pins = { s.pins with hold := false } ∧ t.access.peerHolding = none
        ∧ t.access.round = none ∧ t.access.turn = s.access.turn ∧ t.access.k = s.access.k ∧ t.monitor.arm = s.monitor.arm
        ∧ t.queue = s.queue ∧ t.cache = s.cache ∧ t.port = s.port ∧ t.faults = s.faults)
    ∧ (s.access.round ≠ some .check → s.access.state ≠ .holding → s.access.peerHolding = none →
      ∃ t, exec .holdRises s = .next t ∧ t.pins = { s.pins with hold := true } ∧ t.access.peerHolding = some .unidentified
        ∧ t.access.turn = s.access.turn ∧ t.access.k = s.access.k ∧ t.monitor = { s.monitor with arm := none }
        ∧ t.queue = s.queue ∧ t.cache = s.cache ∧ t.port = s.port ∧ t.faults = s.faults)

/-- At a completed gap (R25, R26, R27, R38, R83) no request is left in WAITING that DROP-IF-LATE and an explicit deadline now past would
expire, but for one with a delivery outstanding. One that stands alone has the record EXPIRED, with its sectors done, its first sector not
done in word A and its due time less the time in word B, clamped, without LATE, and the LATE counter goes up by one (R83, R85); that it does
so although the cache holds its sectors, the expiry preceding the consultation, is the model's choice (log entry 65). A station whose requests neither expire nor have a sector in the cache joins the round from
IDLE or WAITING when it has drive work, with its bid urgency frozen, CALL asserted and MARK-1 shown for urgency 2 or 3; one that does not
join drops a yield call, and so does one in BACKOFF. The consultation before the evaluation (R79) takes the sectors of a lone READ without
BYPASS that VALID frames hold as done, returns one frame of its reservation for each and queues their deliveries (R110); with none left to do
the READ enters DELIVERING. A lone PIN all of whose sectors are VALID pins their frames and is DONE from CACHE (R111). -/
def Obligations.GapCompletes : Prop :=
  (∀ (s : State) (l : Lines), s.powered = true → s.zones.configured = true → IdInv s → (s.pins.hold = false ∨ s.pins.pres = false) →
    s.access.state = .idle ∨ s.access.state = .waiting ∨ s.access.state = .backoff →
    ∃ t, exec (.gapCompletes l) s = .next t ∧ t.access.round = some .window1
      ∧ ∀ r ∈ t.queue.held, r.kind.isDrive = true → r.dropIfLate = true → r.explicit = true → r.state = .waiting →
          (∃ d, r.due = some d ∧ 0 ≤ (s.clock - d).toInt) → t.delivering r.id = true)
  ∧ (∀ (s : State) (l : Lines) (r : Request) (d : Clock), Still s → s.zones.configured = true → (s.pins.hold = false ∨ s.pins.pres = false) →
    s.access.state = .idle ∨ s.access.state = .waiting ∨ s.access.state = .backoff → Lone s r → r.state = .waiting →
    r.dropIfLate = true → r.explicit = true → r.due = some d → 0 ≤ (s.clock - d).toInt → r.slack = none → r.failAt = none →
    s.zones.thresholds.late = 0 →
    ∃ t c, exec (.gapCompletes l) s = .next t ∧ t.queue.held = [] ∧ t.port.fifo = s.port.fifo ++ [c] ∧ t.port.notices = s.port.notices
      ∧ c.tag = r.tag ∧ c.kindCode = r.kind.code ∧ c.outcome = .expired ∧ c.late = false ∧ c.sectors = r.done.length
      ∧ c.wordA = (sectorAt r.addr.cyl (r.undone.headD r.addr.index)).word
      ∧ c.wordB = BitVec.ofInt 16 (max (-32768) (min 32767 (d - s.clock).toInt))
      ∧ t.faults = { s.faults with late := s.faults.late + 1 }
      ∧ (∀ g, (s.frame g).owner = some r.id → (s.frame g).state = .staged → t.frame g = Frame.free)
      ∧ (∀ g, (s.frame g).owner ≠ some r.id → t.frame g = s.frame g) ∧ t.cache.store = s.cache.store)
  ∧ (∀ (s : State) (l : Lines), Still s → s.zones.configured = true → (s.pins.hold = false ∨ s.pins.pres = false) →
    (∀ r ∈ s.queue.held, s.expires r = false
      ∧ (s.consults r = true → r.undone ≠ [] ∧ ∀ i ∈ r.undone, s.validFrame (sectorAt r.addr.cyl i) = none)) →
    let u := (s.sample l).bidUrgency
    (s.access.state = .idle ∨ s.access.state = .waiting → (s.sample l).hasWork = true →
      exec (.gapCompletes l) s = .next { s with
        pins := s.pins.sample l
        access := { s.access with state := .bidding, frozen := u, round := some .window1 }
        lines := { s.lines with call := true, mark1 := decide (2 ≤ u), mark2 := false } })
    ∧ (s.access.state = .idle ∨ s.access.state = .waiting → (s.sample l).hasWork = false →
      exec (.gapCompletes l) s = .next { s with
        pins := s.pins.sample l
        access := { s.access with state := .idle, frozen := u, round := some .window1 }
        lines := { s.lines with call := false } })
    ∧ (s.access.state = .backoff →
      exec (.gapCompletes l) s = .next { s with
        pins := s.pins.sample l
        access := { s.access with frozen := u, round := some .window1 }
        lines := { s.lines with call := false } }))
  ∧ (∀ (s : State) (l : Lines) (r : Request), Still s → s.zones.configured = true → (s.pins.hold = false ∨ s.pins.pres = false) →
    s.access.state = .idle ∨ s.access.state = .waiting ∨ s.access.state = .backoff → s.queue.held = [r] → s.expires r = false →
    r.state = .waiting → r.chain = none → r.undone ≠ [] → (∀ fr ∈ s.cache.frames, fr.owner ≠ some r.id) →
    (r.kind = .read → r.bypass = false → r.refusedAt = none →
      let hits := r.undone.filter (fun i => (s.validFrame (sectorAt r.addr.cyl i)).isSome)
      ∃ t q, exec (.gapCompletes l) s = .next t ∧ t.queue.held = [q] ∧ q.id = r.id ∧ q.done = r.done ++ hits
        ∧ q.reserved = r.reserved - hits.length
        ∧ q.source = (if hits = [] then r.source else if r.source = none ∨ r.source = some .cache then some .cache else some .mixed)
        ∧ t.port = { s.port with jobs := s.port.jobs ++ hits.map (fun i =>
            { req := r.id, orphan := false, kind := .delivery ((s.validFrame (sectorAt r.addr.cyl i)).getD 0) i
              base := r.mem + 256 * (i - r.addr.index) }) }
        ∧ t.cache.frames = s.cache.frames ∧ t.cache.store = s.cache.store ∧ t.cache.refresh = s.cache.refresh ∧ t.faults = s.faults
        ∧ (hits = r.undone → q.state = .delivering ∧ q.outcome = some .done)
        ∧ (hits ≠ r.undone → q.state = .waiting))
    ∧ (∀ g : Nat → Nat, r.kind = .pin → r.refusedAt = none → r.done = [] → r.source = none → s.delivering r.id = false →
      s.port.fifo.length < 16 →
      (∀ i ∈ r.undone, s.validFrame (sectorAt r.addr.cyl i) = some (g i)) →
      ∃ t c, exec (.gapCompletes l) s = .next t ∧ t.queue.held = [] ∧ t.port.fifo = s.port.fifo ++ [c]
        ∧ c.tag = r.tag ∧ c.kindCode = r.kind.code ∧ c.outcome = .done ∧ c.source = .cache ∧ c.sectors = r.count
        ∧ c.wordA = 0 ∧ c.wordB = 0
        ∧ (∀ i ∈ r.undone, t.frame (g i) = { s.frame (g i) with pinned := true })
        ∧ (∀ f, (∀ i ∈ r.undone, g i ≠ f) → t.frame f = s.frame f) ∧ t.cache.store = s.cache.store))

/-- The windows of a round at a bidder (R27, R28, R29): in window 1 urgency 1 withdraws from MARK-1; in window 2 urgency 2 withdraws from
MARK-2, urgency 1 and 3 having shown theirs; in the tie window a station whose turn it is not withdraws from MARK-1, and a survivor asserts
HOLD and its identity mark, A on MARK-1 and B on MARK-2. A withdrawal drops CALL and the marks; that it ends in IDLE in the same step when
there is no drive work any more is the model's reading (R24, log entry 48). -/
def Obligations.BidWindows : Prop :=
  ∀ (s : State) (m : Bool), s.powered = true → s.access.state = .bidding →
    let leave (s' : State) (w : RoundWindow) : State := State.settleAccess { s' with
      lines := { s'.lines with hold := false, call := false, mark1 := false, mark2 := false }
      access := { s'.access with state := .waiting, round := some w } }
    (s.access.round = some .window1 →
      let p := { s with pins := { s.pins with mark1 := m } }
      exec (.window1Ends m) s = .next (if s.access.frozen = 1 ∧ m = true ∧ s.pins.pres = true then leave p .window2
        else { p with access := { s.access with round := some .window2 }
                      lines := { s.lines with mark1 := false, mark2 := decide (s.access.frozen = 1 ∨ s.access.frozen = 3) } }))
    ∧ (s.access.round = some .window2 →
      let p := { s with pins := { s.pins with mark2 := m } }
      exec (.window2Ends m) s = .next (if s.access.frozen = 2 ∧ m = true ∧ s.pins.pres = true then leave p .tie
        else { p with access := { s.access with round := some .tie }
                      lines := { s.lines with mark1 := decide (s.identity = s.access.turn), mark2 := false } }))
    ∧ (s.access.round = some .tie →
      let p := { s with pins := { s.pins with mark1 := m } }
      exec (.tieWindowEnds m) s = .next (if s.identity ≠ s.access.turn ∧ m = true ∧ s.pins.pres = true then leave p .check
        else { p with access := { s.access with round := some .check, state := .checking }
                      lines := { s.lines with hold := true, mark1 := decide (s.identity = .A), mark2 := decide (s.identity = .B) } }))

/-- The end of the station's own identity check (R29, R30, R32, R35). With the peer's mark seen it has collided: its lines are released, the
turn mark is A, COLLIDE goes up, k goes up to 8 at most, the backoff runs 250 × 2^(k − 1) µs at A and 500 × 2^(k − 1) µs at B, and LINE-TROUBLE
is raised as k reaches 8. Else its tenure begins: the turn mark is the peer's identity, k is 0, the tenure start is the clock; a station in
LOADING with a FREE frame and no yield call then starts the label read and keeps HOLD. One in MOUNTED whose only candidate is a lone request
releases the line at once when a present peer asserts CALL and the slack is above 25 (R36), and else starts it (R82): it is RUNNING, with its
slack at start; a READ or PIN takes a FREE frame for each sector not done, a CHECK or UPDATE one, a write none, and they are FILLING (R112,
R115); the retry record is new (R88), the flags are clear (R139). On the cylinder the sequencer is SEARCHING, else it is SEEKING, strobed at
once when SKC or SKF is asserted, which sets the arm cylinder (R89; that SKC and SKF then read deasserted is the model's reading, log entry
43). -/
def Obligations.OwnIdentityCheck : Prop :=
  (∀ (s : State) (h m1 m2 : Bool) (l : Lines), Still s → s.zones.configured = true → s.access.state = .checking →
    s.access.round = some .check → s.pins.pres = true → (s.identity = .A → m2 = true) → (s.identity = .B → m1 = true) →
    s.access.k ≤ 8 → s.zones.thresholds.collide = 0 →
    let k := if s.access.k < 8 then s.access.k + 1 else 8
    exec (.identityCheckEnds h m1 m2 l) s = .next { s with
      pins := { s.pins.sample l with hold := h, mark1 := m1, mark2 := m2 }
      lines := { s.lines with hold := false, call := false, mark1 := false, mark2 := false }
      faults := { s.faults with collide := s.faults.collide + 1 }
      access := { s.access with
        state := .backoff, turn := .A, k := k, round := none
        backoff := some (if s.identity = .A then 250 * 2 ^ (k - 1) else 500 * 2 ^ (k - 1)) }
      port := { s.port with notices := if s.access.k = 7 then s.port.notices ||| 0x0080#15 else s.port.notices } })
  ∧ (∀ (s : State) (h m1 m2 : Bool) (l : Lines), Still s → s.zones.configured = true → s.access.state = .checking →
    s.access.round = some .check → (s.pins.pres = false ∨ (s.identity = .A ∧ m2 = false) ∨ (s.identity = .B ∧ m1 = false)) →
    ∃ t, exec (.identityCheckEnds h m1 m2 l) s = .next t
      ∧ t.access.turn = s.identity.other ∧ t.access.k = 0 ∧ t.access.tenureStart = s.clock ∧ t.lines.call = false
      ∧ t.lines.mark1 = false ∧ t.lines.mark2 = false
      ∧ (s.cart.state = .loading → s.cache.labelReserved = true → s.queue.held = [] → (∃ fr ∈ s.cache.frames, fr.state = .free) →
          (s.pins.pres = false ∨ l.call = false) →
          t.access.state = .holding ∧ t.lines.hold = true ∧ t.drive.enabled = true ∧ t.drive.rdg = false ∧ t.drive.wrg = false
            ∧ t.seq.work = some .label ∧ t.seq.cyl = 0 ∧ t.cache.labelReserved = false)
      ∧ (∀ r : Request, s.cart.state = .mounted → s.cache.refresh = [] → s.queue.held = [r] → r.kind.isDrive = true →
          r.state = .waiting → r.chain = none → r.undone ≠ [] → r.dropIfLate = false → r.addr.cyl < 400 →
          (r.kind = .pin ∨ (r.kind = .read ∧ r.bypass = false) →
            ∀ i ∈ r.undone, s.validFrame (sectorAt r.addr.cyl i) = none) →
          let slack := (s.sample l).requestSlack r
          let idxs := if r.kind.isWrite = true then [] else if r.kind = .read ∨ r.kind = .pin then r.undone else r.undone.take 1
          (s.pins.pres = true → l.call = true → 25 < slack →
            t.access.state = .waiting ∧ t.lines.hold = false ∧ t.drive.enabled = false ∧ t.queue = s.queue ∧ t.seq = s.seq
              ∧ t.cache = s.cache)
          ∧ (s.pins.pres = false ∨ l.call = false ∨ slack ≤ 25 → idxs.length ≤ s.freeCount →
            t.access.state = .holding ∧ t.lines.hold = true
            ∧ t.queue.held = [{ r with state := .running, slack := some slack, reserved := r.reserved - idxs.length }]
            ∧ t.unit = { inProgress := none, flags := { z := false, c := false, n := false } }
            ∧ (∃ fs : List Nat, fs.length = idxs.length ∧ fs.Nodup ∧ (∀ f ∈ fs, (s.frame f).state = .free)
                ∧ (∀ f, f ∉ fs → t.frame f = s.frame f)
                ∧ ∀ p ∈ idxs.zip fs, ∃ b, t.frame p.2 = { Frame.free with
                    state := .filling, addr := some (sectorAt r.addr.cyl p.1), owner := some r.id, inDir := b }
                  ∧ (s.dirFrame (sectorAt r.addr.cyl p.1) = none → b = (s.zones.caches r.addr.cyl && r.kind != .check))
                  ∧ (∀ g, s.dirFrame (sectorAt r.addr.cyl p.1) = some g → (s.frame g).state ≠ .free → b = false))
            ∧ t.cache.store = s.cache.store ∧ t.port = s.port ∧ t.faults = s.faults
            ∧ (let arm := s.monitor.arm.map (·.val)
              let there := arm = some r.addr.cyl
              let strobed := ¬there ∧ (l.skc = true ∨ l.skf = true)
              let work : Sequencer := { Sequencer.idle with
                work := some (.request r.id), cyl := r.addr.cyl
                recs := r.undone.map (fun i => { idx := i, purpose := if r.kind.isWrite = true then .write else .read, misses := 0
                                                 headerRecovery := false, attempts := 0, rewrites := 0, again := false }) }
              t.drive = { enabled := true, cyl := if strobed then BitVec.ofNat 9 r.addr.cyl else 0, hsel := false, rdg := false
                          wrg := false, wrd := s.drive.wrd }
              ∧ t.seq = (if there then { work with state := .searching } else { work with state := .seeking, strobed := decide strobed })
              ∧ t.monitor.arm.map (·.val) = (if strobed then some r.addr.cyl else arm)
              ∧ t.pins.skc = (l.skc && decide ¬strobed) ∧ t.pins.skf = (l.skf && decide ¬strobed)))))

/-- A station that does not proceed in a round, in IDLE, WAITING or BACKOFF, reads its outcome at the end of the identity check (R31, R32, R33,
R125): HOLD with the peer's mark alone is a peer tenure, with both marks a collision observed, with neither or its own alone an unidentified
holding, and without HOLD no round. That a collision observed begins no holding is the model's reading (log entry 38). The access state
follows the drive work (R24), and a station in WAITING with urgency 3 makes its yield call at the tenure it has observed to begin (R38);
that it makes it in this step is the model's form (log entry 30). -/
def Obligations.ObservedOutcome : Prop :=
  ∀ (s : State) (h m1 m2 : Bool) (l : Lines), Still s →
    s.access.state = .idle ∨ s.access.state = .waiting ∨ s.access.state = .backoff →
    s.access.round = some .check → s.pins.pres = true → s.access.peerHolding = none →
    let peer := if s.identity = .A then m2 else m1
    let own := if s.identity = .A then m1 else m2
    let read : State := State.settleAccess { s with
      pins := { s.pins.sample l with hold := h, mark1 := m1, mark2 := m2 }
      access :=
        if h = false then { s.access with round := none }
        else if peer = true ∧ own = false then
          { s.access with round := none, turn := s.identity, peerHolding := some .observed, lineHeldRaised := false }
        else if peer = true then { s.access with round := none, turn := .A }
        else { s.access with round := none, peerHolding := some .unidentified, lineHeldRaised := false }
      monitor :=
        if h = true ∧ peer = true ∧ own = false then
          { s.monitor with state := if s.monitor.state = .idle then .watching else s.monitor.state }
        else if h = true ∧ peer = false then { s.monitor with arm := none }
        else s.monitor }
    let calls := h = true ∧ peer = true ∧ own = false ∧ read.access.state = .waiting ∧ read.bidUrgency = 3
    (calls → exec (.identityCheckEnds h m1 m2 l) s = .next { read with lines := { read.lines with call := true } })
    ∧ (¬calls → exec (.identityCheckEnds h m1 m2 l) s = .next read)

/-- A backoff that runs out leaves for WAITING with drive work in LOADING or MOUNTED and for IDLE without (R30); a HOLD of a present peer
that no holding was taken for, as after a collision, is then found and taken as an unidentified holding (R33; the moment is the model's
reading, log entry 56). A yield call is made in WAITING with urgency 3 during a peer tenure that was observed to begin (R38; by this command
or at the identity check, the model's form, log entry 30). LINE-HELD is
raised once for a holding of a present peer, one found at that moment included, and never in the station's own tenure (R41); with no holding to measure the command changes nothing (the
model's form, log entry 6). -/
def Obligations.BackoffYieldCallLineHeld : Prop :=
  (∀ s : State, s.powered = true → s.access.state = .backoff →
    let rest : AccessState := if 1 ≤ s.bidUrgency ∧ (s.cart.state = .loading ∨ s.cart.state = .mounted) then .waiting else .idle
    (s.pins.hold = false ∨ s.pins.pres = false ∨ s.access.peerHolding.isSome = true ∨ s.access.round = some .check →
      exec .backoffTimerExpires s = .next { s with access := { s.access with backoff := none, state := rest } })
    ∧ (s.pins.hold = true → s.pins.pres = true → s.access.peerHolding = none → s.access.round ≠ some .check →
      exec .backoffTimerExpires s = .next { s with
        access := { s.access with
          backoff := none, state := rest, peerHolding := some .unidentified, lineHeldRaised := false }
        monitor := { s.monitor with arm := none } }))
  ∧ (∀ (s : State) (l : Lines), s.powered = true → s.zones.configured = true → s.access.state = .waiting →
    s.access.peerHolding = some .observed → s.cart.state = .mounted → (s.sample l).bidUrgency = 3 →
    exec (.yieldCall l) s = .next { s with pins := s.pins.sample l, lines := { s.lines with call := true } })
  ∧ (∀ s : State, s.powered = true → s.zones.configured = true → s.access.peerHolding.isSome = true → s.pins.pres = true →
    s.access.state ≠ .holding → s.access.lineHeldRaised = false →
    exec .lineHeld s = .next { s with
      access := { s.access with lineHeldRaised := true }
      port := { s.port with notices := s.port.notices ||| 0x0100#15 } })
  ∧ (∀ s : State, s.powered = true → s.zones.configured = true → s.access.peerHolding = none → s.pins.hold = true → s.pins.pres = true →
    s.access.round ≠ some .check → s.access.state = .idle ∨ s.access.state = .waiting ∨ s.access.state = .backoff →
    exec .lineHeld s = .next { s with
      access := { s.access with peerHolding := some .unidentified, lineHeldRaised := true }
      monitor := { s.monitor with arm := none }
      port := { s.port with notices := s.port.notices ||| 0x0100#15 } })
  ∧ (∀ s : State, s.powered = true →
    (s.access.peerHolding = none ∧ s.pins.hold = false) ∨ s.pins.pres = false ∨ s.access.state = .holding
      ∨ (s.access.peerHolding.isSome = true ∧ s.access.lineHeldRaised = true) →
    exec .lineHeld s = .next s)

/-! ### The transfer sequencer -/

/-- Motions (R89, R90, R98, R99, R103). With SKC or SKF asserted a waiting SEEK is strobed with the work's cylinder on CYL, and the arm
cylinder is set at the strobe. SKC ends a seek in SEARCHING. SKF, or 80 ms without either, leaves the arm cylinder UNKNOWN; that and a wait
for a motion that runs out have the one recovery of the positioning: RCAL, the arm cylinder 0, one retry counted. SKC ends the recalibrate
with the seek strobed again, to cylinder 0 too (log entry 19); SKF or its timeout fails a lone request's work with SEEK-FAULT, listed with
the cylinder alone. That SKC and SKF read deasserted after a strobe is the model's reading (R9, log entry 43), that CYL and HSEL stand between
the events of a work its choice (log entry 61). -/
def Obligations.Motions : Prop :=
  (∀ (s : State) (l : Lines), Still s → s.access.state = .holding → s.seq.state = .seeking → s.seq.stopping = false →
    s.seq.strobed = false → s.seq.cyl < 400 → l.skc = true ∨ l.skf = true →
    ∃ a : Fin 400, a.val = s.seq.cyl ∧ exec (.seekStrobe l) s = .next { s with
      pins := { s.pins.sample l with skc := false, skf := false }
      drive := { s.drive with cyl := BitVec.ofNat 9 s.seq.cyl }
      monitor := { s.monitor with arm := some a }
      seq := { s.seq with strobed := true } })
  ∧ (∀ (s : State) (l : Lines), Still s → s.access.state = .holding → s.seq.state = .seeking → s.seq.stopping = false →
    s.seq.strobed = true →
    exec (.seekEnds .skc l) s = .next { s with
      pins := { s.pins.sample l with skc := true, skf := false }
      drive := { s.drive with rdg := false, wrg := false }
      seq := { s.seq with state := .searching, visit := none } })
  ∧ (∀ (s : State) (l : Lines), Still s → s.access.state = .holding → s.seq.state = .seeking → s.seq.stopping = false →
    s.seq.recovered = false → s.zones.thresholds.retry = 0 →
    let recovery : State := { s with
      pins := { s.pins.sample l with skc := false, skf := false }
      drive := { s.drive with rdg := false, wrg := false }
      monitor := { s.monitor with arm := some 0 }
      faults := { s.faults with retry := s.faults.retry + 1 }
      seq := { s.seq with
        state := .recalibrating, strobed := false, visit := none, pass := [], recovered := true, retried := true } }
    (s.seq.strobed = true → exec (.seekEnds .skf l) s = .next recovery ∧ exec (.seekTimeout l) s = .next recovery)
    ∧ (s.seq.strobed = false → exec (.motionWaitTimeout l) s = .next recovery))
  ∧ (∀ (s : State) (l : Lines), Still s → s.access.state = .holding → s.seq.state = .recalibrating → s.seq.stopping = false →
    s.seq.cyl < 400 →
    ∃ a : Fin 400, a.val = s.seq.cyl ∧ exec (.recalibrateEnds .skc l) s = .next { s with
      pins := { s.pins.sample l with skc := false, skf := false }
      drive := { s.drive with rdg := false, wrg := false, cyl := BitVec.ofNat 9 s.seq.cyl }
      monitor := { s.monitor with arm := some a }
      seq := { s.seq with state := .seeking, strobed := true, visit := none, pass := [] } })
  ∧ (∀ (s : State) (l : Lines) (r : Request) (c : Instr), Still s → s.zones.configured = true → s.access.state = .holding →
    s.seq.state = .recalibrating → s.seq.stopping = false → s.seq.work = some (.request r.id) → s.queue.held = [r] →
    r.state = .running → r.chain = none → r.kind = .read → s.delivering r.id = false → s.cache.refresh = [] → s.seq.unverified = [] →
    s.cart.state = .mounted → s.faults.entries = [] → s.port.fifo.length < 16 →
    c = .recalibrateEnds .skf l ∨ c = .recalibrateTimeout l →
    ∃ t d, exec c s = .next t ∧ t.monitor.arm = none
      ∧ t.faults.entries =
          [{ addr := .cylinder s.seq.cyl, kind := .seekFault, origin := .own, firstTime := s.clock, repeats := 1 }]
      ∧ d.tag = r.tag ∧ d.outcome = .seekFault ∧ d.sectors = r.done.length
      ∧ d.wordA = (sectorAt s.seq.cyl (s.seq.pendingIdx.headD 0)).word
      ∧ t.port.fifo = s.port.fifo ++ [d] ∧ t.queue.held = [] ∧ t.seq = Sequencer.idle
      ∧ t.access.state = .idle ∧ t.lines.hold = false ∧ t.drive.enabled = false)

/-- A visit and its header (R91, R92, R95, R98, R103). At the SPL of the next pending sector's own slot HSEL is set to its head, RDG
asserted, and SEARCHING entered for it. A matching header goes on to its purpose: READING, VERIFYING, or with WPT deasserted and writing
permitted WRG opened and WRITING. With WPT asserted or writing refused WRG is not opened: the work, a lone request, ends WRITE-PROTECTED with
no fault listed and no retry, its STAGED frames FREE, every other frame as it stood (R95, R114). A sector's first header miss leaves it pending with one miss; its second has the header recovery: RCAL, the
arm cylinder 0, one retry, the pass broken off. A wrong-cylinder header has the mis-position recovery once in a work, with no miss counted;
after that the arm cylinder is the header's and the visit a header miss (R93). A matching BAD header, or the fourth header miss, ends a lone
READ with MARKED-BAD or NO-HEADER, listed with the sector. A refresh that fails by a BAD header leaves its frame STALE as it stood and leaves
the refresh set, listed with the sector (R118). Readings of the model: a good header of another head is a header miss (log entry 10), the
retry of a repeated visit is counted as that begins (log entry 20), SKC and SKF fall at a strobe (log entry 43), CYL and HSEL stand between
the events of a work (log entry 61). -/
def Obligations.VisitsAndHeaders : Prop :=
  (∀ (s : State) (l : Lines) (idx f : Nat) (rest : List Nat) (r : Request), s.powered = true →
    s.seq.state = .searching ∨ s.seq.state = .updating → s.seq.visit = none → s.seq.work = some (.request r.id) →
    s.request r.id = some r → r.kind ≠ .check → s.seq.currentPass = idx :: rest → (s.seq.recOf idx).again = false →
    l.snum.toNat = idx % 20 → s.visitFrame idx = some f →
    exec (.sectorVisit l) s = .next { s with
      pins := s.pins.sample l
      drive := { s.drive with hsel := decide (20 ≤ idx), rdg := true }
      seq := { s.seq.setRec idx (fun x => { x with again := false }) with
        state := .searching, visit := some idx, pass := rest, frame := some f } })
  ∧ (∀ (s : State) (l : Lines) (h : HeaderField) (r : Request) (idx : Nat), Still s → Visiting s .searching r idx →
    headerClass h (sectorAt s.seq.cyl idx) = .matching →
    ((s.seq.recOf idx).purpose = .read → exec (.headerRead h l) s = .next { s with
        pins := s.pins.sample l, seq := { s.seq with state := .reading } })
    ∧ ((s.seq.recOf idx).purpose = .verify → exec (.headerRead h l) s = .next { s with
        pins := s.pins.sample l, seq := { s.seq with state := .verifying } })
    ∧ ((s.seq.recOf idx).purpose = .write → l.wpt = false → s.zones.refusesWrite (sectorAt s.seq.cyl idx) = false →
        exec (.headerRead h l) s = .next { s with
          pins := s.pins.sample l
          drive := { s.drive with rdg := false, wrg := true }
          seq := { s.seq with
            state := .writing
            sending := some {
              frame := s.seq.frame.getD 0, addr := sectorAt s.seq.cyl idx
              patch := if r.kind = .update then some (r.offset, r.newWord) else none } } })
    ∧ ((s.seq.recOf idx).purpose = .write → l.wpt = true ∨ s.zones.refusesWrite (sectorAt s.seq.cyl idx) = true →
        s.zones.configured = true → r.kind.isWrite = true ∨ r.kind = .update → s.queue.held = [r] → r.state = .running →
        r.chain = none → s.delivering r.id = false → s.cache.refresh = [] → (∀ i ∈ s.seq.unverified, i = idx) →
        s.cart.state = .mounted → s.port.fifo.length < 16 →
        ∃ t d, exec (.headerRead h l) s = .next t
          ∧ t.drive.wrg = false ∧ t.drive.wrd = s.drive.wrd
          ∧ t.faults.entries = s.faults.entries ∧ t.faults.retry = s.faults.retry
          ∧ d.tag = r.tag ∧ d.kindCode = r.kind.code ∧ d.outcome = .writeProtected ∧ d.sectors = r.done.length
          ∧ d.wordA = (sectorAt s.seq.cyl idx).word ∧ d.written = false
          ∧ t.port.fifo = s.port.fifo ++ [d] ∧ t.queue.held = []
          ∧ (∀ g, (s.frame g).owner = some r.id → (s.frame g).state = .staged → t.frame g = Frame.free)
          ∧ (∀ g, (s.frame g).owner ≠ some r.id → t.frame g = s.frame g) ∧ t.cache.store = s.cache.store
          ∧ t.seq = Sequencer.idle ∧ t.access.state = .idle ∧ t.lines.hold = false ∧ t.drive.enabled = false))
  ∧ (∀ (s : State) (l : Lines) (h : HeaderField) (r : Request) (idx : Nat), Still s → Visiting s .searching r idx →
    headerClass h (sectorAt s.seq.cyl idx) = .wrongSector ∨ headerClass h (sectorAt s.seq.cyl idx) = .unreadable →
    (s.seq.recOf idx).misses = 0 →
    exec (.headerRead h l) s = .next { s with
      pins := s.pins.sample l
      drive := { s.drive with rdg := false, wrg := false }
      seq := { s.seq.setRec idx (fun x => { x with misses := 1, again := true }) with visit := none } })
  ∧ (∀ (s : State) (l : Lines) (h : HeaderField) (r : Request) (idx : Nat), Still s → Visiting s .searching r idx →
    headerClass h (sectorAt s.seq.cyl idx) = .wrongSector ∨ headerClass h (sectorAt s.seq.cyl idx) = .unreadable →
    (s.seq.recOf idx).misses = 1 → (s.seq.recOf idx).headerRecovery = false → s.zones.thresholds.retry = 0 →
    exec (.headerRead h l) s = .next { s with
      pins := { s.pins.sample l with skc := false, skf := false }
      drive := { s.drive with rdg := false, wrg := false }
      monitor := { s.monitor with arm := some 0 }
      faults := { s.faults with retry := s.faults.retry + 1 }
      seq := { s.seq.setRec idx (fun x => { x with misses := 2, again := true, headerRecovery := true }) with
        state := .recalibrating, strobed := false, visit := none, pass := [], recovered := false, retried := true } })
  ∧ (∀ (s : State) (l : Lines) (h : HeaderField) (r : Request) (idx c : Nat), Still s → Visiting s .searching r idx →
    headerClass h (sectorAt s.seq.cyl idx) = .wrongCylinder c → s.seq.misUsed = false → s.zones.thresholds.retry = 0 →
    exec (.headerRead h l) s = .next { s with
      pins := { s.pins.sample l with skc := false, skf := false }
      drive := { s.drive with rdg := false, wrg := false }
      monitor := { s.monitor with arm := some 0 }
      faults := { s.faults with retry := s.faults.retry + 1 }
      seq := { s.seq with
        state := .recalibrating, strobed := false, visit := none, pass := [], recovered := false, misUsed := true, retried := true } })
  ∧ (∀ (s : State) (l : Lines) (h : HeaderField) (r : Request) (idx : Nat) (a : Fin 400), Still s → Visiting s .searching r idx →
    headerClass h (sectorAt s.seq.cyl idx) = .wrongCylinder a.val → s.seq.misUsed = true → (s.seq.recOf idx).misses = 0 →
    exec (.headerRead h l) s = .next { s with
      pins := s.pins.sample l
      drive := { s.drive with rdg := false, wrg := false }
      monitor := { s.monitor with arm := some a }
      seq := { s.seq.setRec idx (fun x => { x with misses := 1, again := true }) with visit := none } })
  ∧ (∀ (s : State) (l : Lines) (h : HeaderField) (r : Request) (idx : Nat) (o : ReqOutcome) (k : FaultKind), Still s →
    s.zones.configured = true → Visiting s .searching r idx →
    (headerClass h (sectorAt s.seq.cyl idx) = .matchingBad ∧ o = .markedBad ∧ k = .markedBad)
      ∨ ((headerClass h (sectorAt s.seq.cyl idx) = .wrongSector ∨ headerClass h (sectorAt s.seq.cyl idx) = .unreadable)
          ∧ (s.seq.recOf idx).misses = 3 ∧ o = .noHeader ∧ k = .noHeader) →
    s.queue.held = [r] → r.state = .running →
    r.chain = none → r.kind = .read → s.delivering r.id = false → s.cache.refresh = [] → s.seq.unverified = [] → s.cart.state = .mounted →
    s.faults.entries = [] → s.port.fifo.length < 16 →
    ∃ t d, exec (.headerRead h l) s = .next t
      ∧ t.faults.entries =
          [{ addr := .sector (sectorAt s.seq.cyl idx), kind := k, origin := .own, firstTime := s.clock, repeats := 1 }]
      ∧ d.tag = r.tag ∧ d.outcome = o ∧ d.sectors = r.done.length ∧ d.wordA = (sectorAt s.seq.cyl idx).word
      ∧ t.port.fifo = s.port.fifo ++ [d] ∧ t.queue.held = [] ∧ t.seq = Sequencer.idle ∧ t.access.state = .idle
      ∧ t.lines.hold = false ∧ t.cache.store = s.cache.store ∧ (s.pins.hold = false → t.monitor.arm = s.monitor.arm))
  ∧ (∀ (s : State) (l : Lines) (h : HeaderField) (idx f : Nat), Still s → s.zones.configured = true → s.seq.state = .searching →
    s.seq.work = some (.refresh f) → s.seq.visit = some idx → s.seq.stopping = false → s.access.state = .holding →
    (s.frame f).state = .stale → (s.frame f).inDir = true → headerClass h (sectorAt s.seq.cyl idx) = .matchingBad →
    s.queue.held = [] → (∀ e ∈ s.cache.refresh, e.frame = f) → s.cart.state = .mounted → s.faults.entries = [] →
    ∃ t, exec (.headerRead h l) s = .next t
      ∧ t.faults.entries =
          [{ addr := .sector (sectorAt s.seq.cyl idx), kind := .markedBad, origin := .own, firstTime := s.clock, repeats := 1 }]
      ∧ t.cache.frames = s.cache.frames ∧ t.cache.store = s.cache.store ∧ t.cache.lru = s.cache.lru ∧ t.cache.refresh = []
      ∧ t.seq = Sequencer.idle ∧ t.access.state = .idle ∧ t.lines.hold = false ∧ t.drive.enabled = false
      ∧ t.queue = s.queue ∧ t.port.fifo = s.port.fifo)

/-- The ends of data fields (R94 to R100, R112, R114, R118, R170). A good field stands in its frame, its sector done: in a caching zone the
frame becomes the VALID directory frame, pinned for a PIN, and takes over from another one (R106); in a NONE zone a READ's stays FILLING for
its delivery. A READ has its delivery queued. A field not good counts an attempt and leaves the sector pending. A written field has stood on
WRD whole (R3). A WRITE's sector is then done, its frame taking over, or FREE in a NONE zone; a WRITE-VERIFY's goes on to VERIFY, and a good
read-back does the same for it; another makes it pending for WRITE again with one rewrite and one retry. An UPDATE's frame takes the new
word and its record has WRITTEN, both words and the flags. At its last sector a lone WRITE, WRITE-VERIFY, PIN or CHECK ends DONE, or
DONE-RETRIED with a retry counted, and a READ is DELIVERING (R54, R99). A refresh that reads good makes its frame VALID, out of the refresh
set and most recent; one whose frame was released uses no words, lists nothing and leaves the frame FREE, or another's by then (R170; log
entry 54). The ninth failed attempt ends a lone request DATA-ERROR, the bad read-back after the second rewrite VERIFY-FAILED, each listed,
no retry counted; the frames of the request are FREE, unpinned directory frames of sectors sent and not verified released (R114; other than
the failed one: log entry 12). The model's own: a bad field's words stay out of the frame (log entry 21), an UPDATE sends what its frame holds
(13), a rewrite counts its retry as its read-back fails (20), WRD holds the field whole (46), a good read counts no attempt (60), CYL and
HSEL stand (61). -/
def Obligations.DataFields : Prop :=
  (∀ (s : State) (l : Lines) (d : DataField) (r : Request) (idx f : Nat), Still s → StoreInv s → Visiting s .reading r idx →
    d.sync = true → fieldWordsGood d.words = true → r.kind = .read → r.refusedAt = none → idx ∉ r.done →
    s.seq.frame = some f → f < 64 → s.cache.frames.length = 64 → s.zones.caches r.addr.cyl = true →
    (∀ g, s.dirFrame (sectorAt r.addr.cyl idx) = some g → g = f) →
    (s.frame f).pinned = false → s.seq.pendingIdx.any (· != idx) = true →
    ∃ t, exec (.dataFieldRead d l) s = .next t
      ∧ readFrame t.cache.store f = d.words.take 256 ∧ (∀ g, g ≠ f → readFrame t.cache.store g = readFrame s.cache.store g)
      ∧ t.frame f = { Frame.free with state := .valid, addr := some (sectorAt r.addr.cyl idx), inDir := true }
      ∧ (∀ g, g ≠ f → t.frame g = s.frame g)
      ∧ t.port = { s.port with jobs := s.port.jobs ++
          [{ req := r.id, orphan := false, kind := .delivery f idx, base := r.mem + 256 * (idx - r.addr.index) }] }
      ∧ t.queue.held = s.queue.held.map (fun q => if q.id = r.id then q.markDone idx .disk else q)
      ∧ t.seq = { s.seq.setRec idx (fun x => { x with purpose := .done, again := false }) with state := .searching, visit := none }
      ∧ t.drive = { s.drive with rdg := false, wrg := false } ∧ t.faults = s.faults ∧ t.zones = s.zones ∧ t.cart = s.cart
      ∧ t.access = s.access ∧ t.lines = s.lines)
  ∧ (∀ (s : State) (l : Lines) (d : DataField) (r : Request) (idx f : Nat), Still s → StoreInv s → Visiting s .reading r idx →
    d.sync = true → fieldWordsGood d.words = true → r.refusedAt = none → idx ∉ r.done → s.seq.frame = some f → f < 64 →
    s.cache.frames.length = 64 → (s.frame f).pinned = false → s.seq.pendingIdx.any (· != idx) = true →
    let read (t : State) : Prop := readFrame t.cache.store f = d.words.take 256
      ∧ (∀ g, g ≠ f → readFrame t.cache.store g = readFrame s.cache.store g)
      ∧ t.queue.held = s.queue.held.map (fun q => if q.id = r.id then q.markDone idx .disk else q)
      ∧ t.seq = { s.seq.setRec idx (fun x => { x with purpose := .done, again := false }) with state := .searching, visit := none }
      ∧ t.drive = { s.drive with rdg := false, wrg := false } ∧ t.faults = s.faults ∧ t.access = s.access
    let delivers (t : State) : Prop := t.port = { s.port with jobs := s.port.jobs ++
      [{ req := r.id, orphan := false, kind := .delivery f idx, base := r.mem + 256 * (idx - r.addr.index) }] }
    (s.zones.caches r.addr.cyl = true → r.kind = .read →
      ∃ t, exec (.dataFieldRead d l) s = .next t ∧ TakesOver s t f (sectorAt r.addr.cyl idx) false ∧ read t ∧ delivers t)
    ∧ (s.zones.caches r.addr.cyl = true → r.kind = .pin →
      ∃ t, exec (.dataFieldRead d l) s = .next t ∧ TakesOver s t f (sectorAt r.addr.cyl idx) true ∧ read t ∧ t.port = s.port)
    ∧ (s.zones.caches r.addr.cyl = false → r.kind = .read → (s.frame f).state = .filling →
      ∃ t, exec (.dataFieldRead d l) s = .next t ∧ t.frame f = { s.frame f with filled := true }
        ∧ (∀ g, g ≠ f → t.frame g = s.frame g) ∧ t.cache.lru = s.cache.lru ∧ t.cache.refresh = s.cache.refresh ∧ read t ∧ delivers t))
  ∧ (∀ (s : State) (l : Lines) (d : DataField) (r : Request) (idx : Nat), Still s → Visiting s .reading r idx →
    fieldClass d ≠ .good → (s.seq.recOf idx).attempts < 8 →
    exec (.dataFieldRead d l) s = .next { s with
      pins := s.pins.sample l
      drive := { s.drive with rdg := false, wrg := false }
      seq := { s.seq.setRec idx (fun x => { x with attempts := (s.seq.recOf idx).attempts + 1, again := true }) with
        state := .searching, visit := none } })
  ∧ (∀ (s : State) (l : Lines) (r : Request) (idx : Nat) (x : Sending), Still s → Visiting s .writing r idx → r.kind = .write →
    s.seq.sending = some x → x.patch = none → s.zones.caches x.addr.cyl = false → s.seq.pendingIdx.any (· != idx) = true →
    x.frame < s.cache.frames.length →
    ∃ t, exec (.dataFieldWritten l) s = .next t
      ∧ t.drive = { s.drive with
          rdg := false, wrg := false
          wrd := List.replicate 8 0xAAAA#16 ++ 0x1E3C#16 :: readFrame s.cache.store x.frame
            ++ [crc (readFrame s.cache.store x.frame)] }
      ∧ t.frame x.frame = Frame.free ∧ (∀ g, g ≠ x.frame → t.frame g = s.frame g) ∧ t.cache.store = s.cache.store
      ∧ t.queue.held = s.queue.held.map (fun q => if q.id = r.id then q.markDone idx .disk else q)
      ∧ t.seq.state = .searching ∧ t.seq.visit = none ∧ t.port = s.port ∧ t.faults = s.faults ∧ t.zones = s.zones
      ∧ t.cart = s.cart ∧ t.access = s.access ∧ t.lines = s.lines)
  ∧ (∀ (s : State) (r : Request) (idx f : Nat) (c : Instr) (l : Lines), Still s → s.zones.caches r.addr.cyl = true → idx ∉ r.done →
    f < s.cache.frames.length → (s.frame f).pinned = false → s.seq.pendingIdx.any (· != idx) = true →
    (Visiting s .writing r idx ∧ r.kind = .write ∧ c = .dataFieldWritten l
        ∧ s.seq.sending = some { frame := f, addr := sectorAt r.addr.cyl idx, patch := none })
      ∨ (∃ d, Visiting s .verifying r idx ∧ r.kind = .writeVerify ∧ c = .readBackEnds d l ∧ fieldClass d = .good ∧ s.seq.frame = some f) →
    ∃ t, exec c s = .next t ∧ TakesOver s t f (sectorAt r.addr.cyl idx) false ∧ t.cache.store = s.cache.store
      ∧ t.queue.held = s.queue.held.map (fun q => if q.id = r.id then q.markDone idx .disk else q)
      ∧ t.seq.state = .searching ∧ t.seq.visit = none ∧ t.seq.work = s.seq.work ∧ t.port = s.port ∧ t.faults = s.faults
      ∧ t.access = s.access)
  ∧ (∀ (s : State) (r : Request) (idx : Nat) (c : Instr) (l : Lines), Still s → s.zones.configured = true → Lone s r →
    r.state = .running → r.refusedAt = none → idx ∉ r.done → s.seq.pendingIdx = [idx] → s.cart.state = .mounted → s.cache.refresh = [] →
    (∃ x, Visiting s .writing r idx ∧ r.kind = .write ∧ c = .dataFieldWritten l ∧ s.seq.sending = some x ∧ x.patch = none)
      ∨ (∃ d, Visiting s .verifying r idx ∧ r.kind = .writeVerify ∧ c = .readBackEnds d l ∧ fieldClass d = .good ∧ s.seq.frame.isSome = true)
      ∨ (∃ d, Visiting s .reading r idx ∧ (r.kind = .pin ∨ r.kind = .check) ∧ c = .dataFieldRead d l ∧ fieldClass d = .good
          ∧ s.seq.frame.isSome = true) →
    ∃ t e, exec c s = .next t ∧ e.tag = r.tag ∧ e.kindCode = r.kind.code
      ∧ e.outcome = (if s.seq.retried = true then .doneRetried else .done) ∧ e.sectors = r.done.length + 1 ∧ e.wordA = 0 ∧ e.wordB = 0
      ∧ t.port.fifo = s.port.fifo ++ [e] ∧ t.queue.held = [] ∧ t.faults.entries = s.faults.entries ∧ t.faults.retry = s.faults.retry
      ∧ (r.kind = .check → ∀ g, (s.frame g).owner = some r.id → (s.frame g).state = .filling → (s.frame g).filled = false →
          t.frame g = Frame.free)
      ∧ LineReleased t)
  ∧ (∀ (s : State) (r : Request) (idx f : Nat) (d : DataField) (l : Lines), Still s → s.zones.configured = true → Lone s r →
    r.state = .running → r.refusedAt = none → idx ∉ r.done → s.seq.pendingIdx = [idx] → s.cart.state = .mounted → s.cache.refresh = [] →
    Visiting s .reading r idx → r.kind = .read → s.seq.frame = some f → fieldClass d = .good →
    ∃ t q, exec (.dataFieldRead d l) s = .next t ∧ t.queue.held = [q] ∧ q.id = r.id ∧ q.state = .delivering ∧ q.done = r.done ++ [idx]
      ∧ q.outcome = some (if s.seq.retried = true then .doneRetried else .done)
      ∧ t.port = { s.port with jobs := s.port.jobs ++
          [{ req := r.id, orphan := false, kind := .delivery f idx, base := r.mem + 256 * (idx - r.addr.index) }] }
      ∧ t.faults = s.faults ∧ LineReleased t)
  ∧ (∀ (s : State) (l : Lines) (r : Request) (idx : Nat) (x : Sending), Still s → Visiting s .writing r idx → r.kind = .writeVerify →
    s.seq.sending = some x → x.patch = none →
    exec (.dataFieldWritten l) s = .next { s with
      pins := s.pins.sample l
      drive := { s.drive with
        rdg := false, wrg := false
        wrd := List.replicate 8 0xAAAA#16 ++ 0x1E3C#16 :: readFrame s.cache.store x.frame
          ++ [crc (readFrame s.cache.store x.frame)] }
      seq := { s.seq.setRec idx (fun y => { y with purpose := .verify, again := false }) with
        state := .searching, visit := none, sending := none } })
  ∧ (∀ (s : State) (l : Lines) (r : Request) (idx off : Nat) (x : Sending) (w : Word), Still s → StoreInv s → Visiting s .writing r idx →
    r.kind = .update → s.seq.sending = some x → x.patch = some (off, w) → off < 256 → x.frame < 64 →
    (s.frame x.frame).state = .valid → (s.frame x.frame).addr = some x.addr → (∀ fr ∈ s.cache.frames, fr.owner ≠ some r.id) →
    s.seq.pendingIdx = [idx] → s.queue.held = [r] → r.state = .running → r.chain = none → r.refusedAt = none →
    s.delivering r.id = false → s.cart.state = .mounted → s.cache.refresh = [] → s.port.fifo.length < 16 →
    let sent := (readFrame s.cache.store x.frame).set off w
    ∃ t c, exec (.dataFieldWritten l) s = .next t
      ∧ t.drive.wrd = List.replicate 8 0xAAAA#16 ++ 0x1E3C#16 :: sent ++ [crc sent]
      ∧ c.tag = r.tag ∧ c.outcome = (if s.seq.retried = true then .doneRetried else .done) ∧ c.written = true
      ∧ c.wordA = r.oldWord ∧ c.wordB = r.newWord ∧ c.flags = s.unit.flags ∧ c.sectors = r.done.length
      ∧ t.port.fifo = s.port.fifo ++ [c] ∧ t.queue.held = []
      ∧ readFrame t.cache.store x.frame = sent
      ∧ (∀ g, g ≠ x.frame → readFrame t.cache.store g = readFrame s.cache.store g) ∧ t.cache.frames = s.cache.frames
      ∧ t.seq = Sequencer.idle ∧ t.access.state = .idle ∧ t.lines.hold = false ∧ t.drive.enabled = false
      ∧ t.faults.entries = s.faults.entries ∧ t.zones = s.zones ∧ t.cart = s.cart)
  ∧ (∀ (s : State) (l : Lines) (d : DataField) (r : Request) (idx f : Nat), Still s → Visiting s .verifying r idx →
    fieldClass d = .good → s.seq.frame = some f → f < s.cache.frames.length → s.zones.caches r.addr.cyl = false →
    s.seq.pendingIdx.any (· != idx) = true →
    ∃ t, exec (.readBackEnds d l) s = .next t
      ∧ t.frame f = Frame.free ∧ (∀ g, g ≠ f → t.frame g = s.frame g) ∧ t.cache.store = s.cache.store
      ∧ t.queue.held = s.queue.held.map (fun q => if q.id = r.id then q.markDone idx .disk else q)
      ∧ t.seq.state = .searching ∧ t.seq.visit = none ∧ t.port = s.port ∧ t.faults = s.faults ∧ t.access = s.access)
  ∧ (∀ (s : State) (l : Lines) (d : DataField) (r : Request) (idx : Nat), Still s → Visiting s .verifying r idx →
    fieldClass d ≠ .good → (s.seq.recOf idx).rewrites < 2 → s.zones.thresholds.retry = 0 →
    exec (.readBackEnds d l) s = .next { s with
      pins := s.pins.sample l
      drive := { s.drive with rdg := false, wrg := false }
      faults := { s.faults with retry := s.faults.retry + 1 }
      seq := { s.seq.setRec idx (fun x => { x with purpose := .write, rewrites := x.rewrites + 1, again := false }) with
        state := .searching, visit := none, retried := true } })
  ∧ (∀ (s : State) (l : Lines) (d : DataField) (idx f : Nat), Still s → StoreInv s → s.seq.state = .reading →
    s.seq.work = some (.refresh f) → s.seq.visit = some idx → s.seq.stopping = false → s.access.state = .holding →
    (s.frame f).state = .stale → (s.frame f).inDir = true → f < 64 → s.cache.frames.length = 64 →
    d.sync = true → fieldWordsGood d.words = true → s.queue.held = [] → (∀ e ∈ s.cache.refresh, e.frame = f) → s.cart.state = .mounted →
    ∃ t, exec (.dataFieldRead d l) s = .next t
      ∧ t.frame f = { s.frame f with state := .valid } ∧ (∀ g, g ≠ f → t.frame g = s.frame g)
      ∧ readFrame t.cache.store f = d.words.take 256 ∧ (∀ g, g ≠ f → readFrame t.cache.store g = readFrame s.cache.store g)
      ∧ t.cache.refresh = [] ∧ t.cache.lru = s.cache.lru.filter (fun g => g != f) ++ [f]
      ∧ t.seq = Sequencer.idle ∧ t.access.state = .idle ∧ t.lines.hold = false ∧ t.drive.enabled = false
      ∧ t.queue = s.queue ∧ t.port = s.port ∧ t.faults = s.faults ∧ t.zones = s.zones ∧ t.cart = s.cart)
  ∧ (∀ (s : State) (l : Lines) (d : DataField) (idx f : Nat), Still s → s.seq.state = .reading → s.seq.work = some (.refresh f) →
    s.seq.visit = some idx → s.seq.stopping = false → s.access.state = .holding → (s.frame f).inDir = false → s.queue.held = [] →
    s.cache.refresh = [] → s.cart.state = .mounted →
    ∃ t, exec (.dataFieldRead d l) s = .next t
      ∧ ((s.frame f).state = .stale → s.hold f = 0 → t.frame f = Frame.free)
      ∧ ((s.frame f).state = .free ∨ (s.frame f).state = .staged → t.frame f = s.frame f)
      ∧ (∀ g, g ≠ f → t.frame g = s.frame g) ∧ t.cache.store = s.cache.store ∧ t.cache.refresh = []
      ∧ t.seq = Sequencer.idle ∧ t.access.state = .idle ∧ t.lines.hold = false ∧ t.drive.enabled = false
      ∧ t.queue = s.queue ∧ t.port = s.port ∧ t.faults = s.faults ∧ t.zones = s.zones ∧ t.cart = s.cart)
  ∧ (∀ (s : State) (l : Lines) (d : DataField) (r : Request) (idx : Nat), Still s → s.zones.configured = true →
    Visiting s .reading r idx → fieldClass d ≠ .good → (s.seq.recOf idx).attempts = 8 →
    r.kind = .read ∨ r.kind = .pin ∨ r.kind = .check ∨ r.kind = .update → s.queue.held = [r] → r.state = .running → r.chain = none →
    s.delivering r.id = false → s.cache.refresh = [] → s.seq.unverified = [] → s.cart.state = .mounted → s.faults.entries = [] →
    s.port.fifo.length < 16 →
    ∃ t c, exec (.dataFieldRead d l) s = .next t
      ∧ t.faults.entries =
          [{ addr := .sector (sectorAt s.seq.cyl idx), kind := .dataError, origin := .own, firstTime := s.clock, repeats := 1 }]
      ∧ t.faults.retry = s.faults.retry
      ∧ c.tag = r.tag ∧ c.kindCode = r.kind.code ∧ c.outcome = .dataError ∧ c.sectors = r.done.length
      ∧ c.wordA = (sectorAt s.seq.cyl idx).word ∧ t.port.fifo = s.port.fifo ++ [c] ∧ t.queue.held = []
      ∧ (∀ g, (s.frame g).owner = some r.id → (s.frame g).state = .filling → (s.frame g).filled = false → t.frame g = Frame.free)
      ∧ (∀ g, (s.frame g).owner ≠ some r.id → t.frame g = s.frame g) ∧ t.cache.store = s.cache.store
      ∧ t.seq = Sequencer.idle ∧ t.access.state = .idle ∧ t.lines.hold = false ∧ t.drive.enabled = false)
  ∧ (∀ (s : State) (l : Lines) (d : DataField) (r : Request) (idx : Nat), Still s → s.zones.configured = true →
    Visiting s .verifying r idx → fieldClass d ≠ .good → (s.seq.recOf idx).rewrites = 2 → r.kind = .writeVerify →
    s.queue.held = [r] → r.state = .running → r.chain = none → s.delivering r.id = false → s.cache.refresh = [] →
    s.seq.unverified.Nodup → s.cart.state = .mounted → s.faults.entries = [] → s.port.fifo.length < 16 →
    let torn (g : Nat) : Prop := ∃ i ∈ s.seq.unverified, s.dirFrame (sectorAt s.seq.cyl i) = some g
    (∀ g, torn g → (s.frame g).pinned = false) →
    ∃ t c, exec (.readBackEnds d l) s = .next t
      ∧ t.faults.entries =
          [{ addr := .sector (sectorAt s.seq.cyl idx), kind := .verifyFailed, origin := .own, firstTime := s.clock, repeats := 1 }]
      ∧ t.faults.retry = s.faults.retry
      ∧ c.tag = r.tag ∧ c.kindCode = r.kind.code ∧ c.outcome = .verifyFailed ∧ c.sectors = r.done.length
      ∧ c.wordA = (sectorAt s.seq.cyl idx).word ∧ t.port.fifo = s.port.fifo ++ [c] ∧ t.queue.held = []
      ∧ (∀ g, torn g → s.hold g = 0 → t.frame g = Frame.free)
      ∧ (∀ g, torn g → s.hold g ≠ 0 →
          t.frame g = { s.frame g with state := .stale, inDir := false, pinned := false, owner := none })
      ∧ (∀ g, ¬torn g → (s.frame g).owner = some r.id → (s.frame g).state = .staged → t.frame g = Frame.free)
      ∧ (∀ g, ¬torn g → (s.frame g).owner ≠ some r.id → t.frame g = s.frame g) ∧ t.cache.store = s.cache.store
      ∧ t.seq = Sequencer.idle ∧ t.access.state = .idle ∧ t.lines.hold = false ∧ t.drive.enabled = false)

/-- A word operation and a label verdict at the end of a read. An UPDATE's sector stands in its frame as read, the unit holds the operation and
its flags; where the new word differs the sequencer is UPDATING with its sector done but pending for WRITE (R97, R140, R141); where it is the
old one, the UPDATE ends at its read: WRITTEN clear, both words alike, nothing sent (WRD as it stood, log entry 46). CYL and HSEL stand as the
sequencer goes to UPDATING (the model's choice, log entry 61). The words of a label read go into the frame lent to it,
FREE after the verdict (R94). In LOADING an accepted label of another serial enters MOUNTED with its serial recorded, CARTRIDGE-READY raised
and every VALID or STALE frame, pinned or not, FREE, or retired while a delivery reads it; one of the last serial keeps the pins, frees the
VALID unpinned frames that no job reads, and has every STALE pinned frame enter the refresh set again, oldest first by LRU order (R118,
R122, R155), all of them with this moment as their entry (for those that were in it the model's reading, log entry 53). A rejected label
enters UNUSABLE with the serial cleared and CARTRIDGE-REJECTED raised (R156); its drain ends a request in STAGING or WAITING NO-CARTRIDGE at
its first sector not done, its STAGED frames FREE (R157). In LEAVING and RELEASED the verdict goes to the recorded state, with no notice and
no drive work; a rejection is owed (R161). A label read that fails is a rejection, with its fault listed (R8). With nothing else to do the
line is released (R36, R37). -/
def Obligations.UpdateOperatesAndLabelDecides : Prop :=
  (∀ (s : State) (l : Lines) (d : DataField) (r : Request) (idx f : Nat), Still s → StoreInv s → Visiting s .reading r idx →
    d.sync = true → fieldWordsGood d.words = true → r.kind = .update → s.seq.frame = some f → f < 64 →
    s.cache.frames.length = 64 → s.zones.caches r.addr.cyl = true →
    (∀ g, s.dirFrame (sectorAt r.addr.cyl idx) = some g → g = f) → (s.frame f).pinned = false → r.offset < 256 →
    let old := d.words.getD r.offset 0
    let new := updateWord r.op r.opA r.opB old
    let flags := updateFlags r.op r.opA r.opB old
    let read (t : State) : Prop := readFrame t.cache.store f = d.words.take 256
      ∧ (∀ g, g ≠ f → readFrame t.cache.store g = readFrame s.cache.store g)
      ∧ t.frame f = { Frame.free with state := .valid, addr := some (sectorAt r.addr.cyl idx), inDir := true }
    (new ≠ old →
      ∃ t, exec (.dataFieldRead d l) s = .next t
        ∧ t.seq = { s.seq.setRec idx (fun x => { x with purpose := .write, again := false }) with
            state := .updating, visit := none, pass := [] }
        ∧ t.unit = { inProgress := some { op := r.op, opA := r.opA, opB := r.opB, old := old, new := new }, flags := flags }
        ∧ t.queue.held = s.queue.held.map (fun q =>
            if q.id = r.id then { q.markDone idx .disk with oldWord := old, newWord := new } else q)
        ∧ read t ∧ t.drive = { s.drive with rdg := false, wrg := false } ∧ t.port = s.port ∧ t.faults = s.faults ∧ t.access = s.access)
    ∧ (new = old → s.queue.held = [r] → r.state = .running → r.chain = none → r.refusedAt = none → r.written = false → idx ∉ r.done →
      s.delivering r.id = false → s.seq.pendingIdx = [idx] → s.cart.state = .mounted → s.cache.refresh = [] → s.port.fifo.length < 16 →
      ∃ t c, exec (.dataFieldRead d l) s = .next t ∧ c.tag = r.tag ∧ c.kindCode = r.kind.code
        ∧ c.outcome = (if s.seq.retried = true then .doneRetried else .done) ∧ c.written = false ∧ c.wordA = old ∧ c.wordB = old
        ∧ c.flags = flags ∧ c.sectors = r.done.length + 1
        ∧ t.port.fifo = s.port.fifo ++ [c] ∧ t.queue.held = [] ∧ t.unit = { inProgress := none, flags := flags } ∧ read t
        ∧ t.drive.wrd = s.drive.wrd ∧ t.seq = Sequencer.idle ∧ t.access.state = .idle ∧ t.lines.hold = false ∧ t.drive.enabled = false
        ∧ t.faults.entries = s.faults.entries ∧ t.zones = s.zones ∧ t.cart = s.cart))
  ∧ (∀ (s : State) (l : Lines) (d : DataField) (idx m : Nat), Still s → StoreInv s → s.zones.configured = true → s.seq.state = .reading →
    s.seq.work = some .label → s.seq.visit = some idx → s.seq.frame = some m → s.labelFrame = some m → m < 64 →
    s.seq.stopping = false → s.access.state = .holding → d.sync = true → fieldWordsGood d.words = true →
    let verdict := labelSerial (d.words.take 256)
    let read (t : State) : Prop := readFrame t.cache.store m = d.words.take 256
      ∧ (∀ g, g ≠ m → readFrame t.cache.store g = readFrame s.cache.store g) ∧ t.frame m = Frame.free
    let released (t : State) : Prop := t.seq = Sequencer.idle ∧ t.access.state = .idle ∧ t.lines.hold = false
      ∧ t.drive.enabled = false ∧ t.zones = s.zones
    let emptied (t : State) : Prop :=
      (∀ f, (s.frame f).state = .valid ∨ (s.frame f).state = .stale → s.hold f = 0 → t.frame f = Frame.free)
      ∧ (∀ f, (s.frame f).state = .valid ∨ (s.frame f).state = .stale → s.hold f ≠ 0 →
          t.frame f = { s.frame f with state := .stale, inDir := false, pinned := false, owner := none })
      ∧ t.cache.refresh = []
    (s.queue.held = [] → s.cart.state = .loading → ∀ serial, verdict = some serial → s.cart.lastSerial ≠ some serial →
      (∀ e ∈ s.cache.refresh, (s.frame e.frame).state = .stale) →
      ∃ t, exec (.dataFieldRead d l) s = .next t
        ∧ t.cart = { s.cart with state := .mounted, lastSerial := some serial }
        ∧ t.port.notices = s.port.notices ||| 0x0002#15
        ∧ emptied t ∧ released t ∧ t.queue = s.queue ∧ t.faults = s.faults ∧ read t)
    ∧ (s.queue.held = [] → s.cart.state = .loading → ∀ serial, verdict = some serial → s.cart.lastSerial = some serial →
      s.cache.lru.Nodup →
      (∀ e ∈ s.cache.refresh, e.frame ∈ s.cache.lru ∧ (s.frame e.frame).state = .stale ∧ (s.frame e.frame).pinned = true) →
      ∃ t, exec (.dataFieldRead d l) s = .next t
        ∧ t.cart = { s.cart with state := .mounted }
        ∧ t.port.notices = s.port.notices ||| 0x0002#15
        ∧ (∀ f, (s.frame f).state = .valid → (s.frame f).pinned = false → s.hold f = 0 → t.frame f = Frame.free)
        ∧ (∀ f, (s.frame f).state = .valid ∨ (s.frame f).state = .stale → (s.frame f).pinned = true → t.frame f = s.frame f)
        ∧ t.cache.refresh = (s.cache.lru.filter (fun f => decide ((s.frame f).state = .stale) && (s.frame f).pinned)).map
            (fun f => { frame := f, entered := s.clock })
        ∧ t.queue = s.queue ∧ t.zones = s.zones ∧ read t)
    ∧ (s.queue.held = [] → s.cart.state = .loading → verdict = none →
      ∃ t, exec (.dataFieldRead d l) s = .next t
        ∧ t.cart = { s.cart with state := .unusable, lastSerial := none }
        ∧ t.port.notices = s.port.notices ||| 0x0004#15
        ∧ released t ∧ t.queue = s.queue ∧ t.faults = s.faults ∧ t.cache.refresh = s.cache.refresh.filter (fun e => e.frame != m) ∧ read t)
    ∧ (∀ r : Request, s.queue.held = [r] → s.cart.state = .loading → verdict = none → r.kind.isDrive = true → r.chain = none →
      r.state = .staging ∨ r.state = .waiting → s.delivering r.id = false → r.undone ≠ [] → s.port.fifo.length < 16 →
      (r.kind = .read ∨ r.kind = .pin → ∀ i ∈ r.undone, s.validFrame (sectorAt r.addr.cyl i) = none) →
      ∃ t c, exec (.dataFieldRead d l) s = .next t
        ∧ t.cart = { s.cart with state := .unusable, lastSerial := none } ∧ t.port.notices.getLsbD 2 = true
        ∧ c.tag = r.tag ∧ c.kindCode = r.kind.code ∧ c.outcome = .noCartridge ∧ c.sectors = r.done.length
        ∧ c.wordA = (sectorAt r.addr.cyl (r.undone.headD 0)).word
        ∧ t.port.fifo = s.port.fifo ++ [c] ∧ t.queue.held = [] ∧ (∀ j ∈ t.allJobs, j.isFor r.id = false)
        ∧ (∀ g, (s.frame g).owner = some r.id → (s.frame g).state = .staged → t.frame g = Frame.free)
        ∧ released t ∧ t.faults.entries = s.faults.entries ∧ read t)
    ∧ (s.queue.held = [] → s.cart.state = .leaving ∨ s.cart.state = .released → ∀ serial, verdict = some serial →
      ∃ t, exec (.dataFieldRead d l) s = .next t
        ∧ t.cart = { s.cart with recorded := some .mounted, lastSerial := some serial } ∧ t.port.notices = s.port.notices
        ∧ (s.cart.lastSerial ≠ some serial → (∀ e ∈ s.cache.refresh, (s.frame e.frame).state = .stale) → emptied t)
        ∧ released t ∧ t.queue = s.queue ∧ t.faults = s.faults ∧ read t)
    ∧ (s.queue.held = [] → s.cart.state = .leaving ∨ s.cart.state = .released → verdict = none →
      ∃ t, exec (.dataFieldRead d l) s = .next t
        ∧ t.cart = { s.cart with recorded := some .unusable, lastSerial := none, rejectionOwed := true }
        ∧ t.port.notices = s.port.notices ∧ released t ∧ t.queue = s.queue ∧ t.faults = s.faults
        ∧ t.cache.refresh = s.cache.refresh.filter (fun e => e.frame != m) ∧ read t))
  ∧ (∀ (s : State) (l : Lines) (h : HeaderField) (idx : Nat), Still s → s.zones.configured = true → s.seq.state = .searching →
    s.seq.work = some .label → s.seq.visit = some idx → s.seq.stopping = false → s.access.state = .holding → s.cart.state = .loading →
    s.queue.held = [] → s.faults.entries = [] → headerClass h (sectorAt s.seq.cyl idx) = .matchingBad →
    ∃ t, exec (.headerRead h l) s = .next t
      ∧ t.cart = { s.cart with state := .unusable, lastSerial := none } ∧ t.port.notices = s.port.notices ||| 0x0404#15
      ∧ t.faults.entries =
          [{ addr := .sector (sectorAt s.seq.cyl idx), kind := .markedBad, origin := .own, firstTime := s.clock, repeats := 1 }]
      ∧ (∀ m, s.labelFrame = some m → t.frame m = Frame.free) ∧ t.cache.store = s.cache.store
      ∧ t.seq = Sequencer.idle ∧ t.access.state = .idle ∧ t.lines.hold = false ∧ t.drive.enabled = false ∧ t.queue = s.queue)

/-! ### Watching the peer -/

/-- What the monitor follows in an observed peer tenure (R126, R127, R128), in whatever access state; where a header or the end of a capture
changes the drive work, the access state follows it, and a station that returns to IDLE drops a yield call (R24, R38). A SEEK strobe that the
drive takes sets the arm cylinder to the value on CYL when that is 0–399, and a RCAL strobe to 0 (SKC and SKF then read deasserted: log entry
43); SKF after either makes it UNKNOWN; HSEL gives the observed head. A good header within range corrects the arm cylinder. In a visited slot
of a WATCHING monitor a capture begins with the header, the observed head and SNUM; in HOLDING the capture held is abandoned first: its frame
stays STALE, a pinned one in the refresh set, an unpinned one retiring while a delivery reads it (R120, R138). A capture of kind none, a read
cut short, a read without data sync and a read whose header is unreadable (R130) end with nothing reported. A write without data sync is
marked written without good capture and goes on to its end: that it is not reported at once is the model's reading (log entry 32), that one
with no effective cell by then ends as kind none its choice (log entry 68). A good
capture of a read gives its words to a STALE directory frame, VALID from then on and out of the refresh set, and changes nothing for a VALID
one or none (R121). It completes a sector of a waiting READ that covers it: a FREE frame takes the words, becomes the VALID directory frame
and has a delivery job queued, the sector is done from PEER, one frame of the reservation is used and CAPTURE goes up; a CHECK whose last
sector it is ends DONE (R134, R135, R136). In LOADING with the label reservation held, a good read capture of the label sector is this
station's label read (R137): the reservation is given up and the verdict enters MOUNTED, with the frames released as for an own read (R155),
or UNUSABLE (R156); a bad one is not taken. -/
def Obligations.PeerTrafficFollowed : Prop :=
  ∀ s : State, s.powered = true → s.access.peerHolding = some .observed →
    (∀ (c : BitVec 9) (l : Lines) (a : Fin 400), s.pins.rdy = true → l.skc = true ∨ l.skf = true → c.toNat = a.val →
      exec (.peerSeekStrobe c l) s = .next { s with
        pins := { s.pins.sample l with skc := false, skf := false }
        monitor := { s.monitor with arm := some a, motion := some .seekInRange } })
    ∧ (∀ (l : Lines), s.pins.rdy = true → exec (.peerRcalStrobe l) s = .next { s with
        pins := { s.pins.sample l with skc := false, skf := false }
        monitor := { s.monitor with arm := some 0, motion := some .recalibrate } })
    ∧ (s.monitor.motion = some .seekInRange ∨ s.monitor.motion = some .recalibrate →
      exec .peerSkfRises s = .next { s with
        pins := { s.pins with skf := true }, monitor := { s.monitor with arm := none, motion := none } })
    ∧ (∀ h, exec (.peerHselChange h) s = .next { s with monitor := { s.monitor with head := if h then 1 else 0 } })
    ∧ (∀ (ws : List Word) (l : Lines) (a : Fin 400), Still s → s.monitor.state = .watching → s.monitor.heldFor = none →
      ws.length = 5 → headerGood { sync := true, words := ws } = true → (ws.getD 0 0).toNat = a.val →
      (ws.getD 1 0).toNat < 2 → (ws.getD 2 0).toNat < 20 →
      exec (.peerHeader true ws l) s = .next (State.settleAccess { s with
        pins := s.pins.sample l
        monitor := { s.monitor with
          arm := some a, state := .capturing, header := ws, data := [], kind := none, addr := none, verdict := none
          capHead := s.monitor.head, capSnum := l.snum.toNat } }))
    ∧ (∀ ws l, Still s → headerGood { sync := true, words := ws } = false →
      exec (.peerHeader false ws l) s = .next (State.settleAccess { s with pins := s.pins.sample l }))
    ∧ (∀ (ws : List Word) (l : Lines) (f : Nat), Still s → s.monitor.state = .holding → s.monitor.heldFor = some f → ws.length = 5 →
      headerGood { sync := true, words := ws } = true → (ws.getD 0 0).toNat < 400 → (ws.getD 1 0).toNat < 2 → (ws.getD 2 0).toNat < 20 →
      (s.frame f).state = .stale → (s.frame f).inDir = true →
      ∃ (u : State) (a : Fin 400), exec (.peerHeader true ws l) s = .next u.settleAccess ∧ a.val = (ws.getD 0 0).toNat
        ∧ u.monitor = { s.monitor with
            arm := some a, state := .capturing, header := ws, data := [], kind := none, addr := none, verdict := none
            heldFor := none, abandonedFor := some f, capHead := s.monitor.head, capSnum := l.snum.toNat }
        ∧ ((s.frame f).pinned = true → u.frame f = s.frame f ∧ ∃ e ∈ u.cache.refresh, e.frame = f)
        ∧ ((s.frame f).pinned = false → s.hold f ≠ 0 →
            u.frame f = { s.frame f with state := .stale, inDir := false, pinned := false, owner := none }
            ∧ f ∉ u.cache.lru ∧ ∀ e ∈ u.cache.refresh, e.frame ≠ f)
        ∧ (∀ g, g ≠ f → u.frame g = s.frame g) ∧ u.cache.store = s.cache.store ∧ u.queue = s.queue ∧ u.port = s.port
        ∧ u.access = s.access ∧ u.lines = s.lines)
    ∧ (s.monitor.state = .capturing →
      let ended : State := { s with monitor := { s.monitor with
        state := .watching, header := [], data := [], kind := none, addr := none, verdict := none, heldFor := none } }
      exec .captureKindNone s = .next ended
      ∧ (s.monitor.kind = none → exec (.captureDataSyncNotFound .read) s = .next ended
          ∧ (Still s → exec (.captureCutShort .read) s = .next ended.settleAccess)
          ∧ (∀ c : PeerCapture, Still s → c.field = .read → s.monitor.heldFor = none → headerLocates s.monitor.header = none →
              exec (.captureCompletes c) s = .next ended.settleAccess)
          ∧ ∀ g : Gate,
              ((∃ x ∈ g.early ++ g.late, x.wrg = true ∧ x.rdy = true ∧ x.skc = true ∧ x.wpt = false) →
                exec (.captureDataSyncNotFound (.write g)) s = .next { s with
                  monitor := { s.monitor with kind := some .write, verdict := some .notGood } })
              ∧ ((∀ x ∈ g.early ++ g.late, ¬(x.wrg = true ∧ x.rdy = true ∧ x.skc = true ∧ x.wpt = false)) →
                exec (.captureDataSyncNotFound (.write g)) s = .next ended)))
    ∧ (∀ (c : PeerCapture) (a : SectorAddr), Still s → StoreInv s → s.monitor.state = .capturing → s.monitor.kind = none →
      s.monitor.heldFor = none → headerLocates s.monitor.header = some a → s.cart.state = .mounted → c.field = .read →
      c.words.length = 257 → fieldWordsGood c.words = true → s.cache.frames.length = 64 →
      let watching : Monitor := { s.monitor with
        state := .watching, header := [], data := [], kind := none, addr := none, verdict := none, heldFor := none }
      (s.queue.held = [] → (∀ f, s.dirFrame a = some f → (s.frame f).state = .valid) →
        exec (.captureCompletes c) s = .next (State.settleAccess { s with monitor := watching }))
      ∧ (s.queue.held = [] → ∀ f, s.dirFrame a = some f → (s.frame f).state = .stale → s.busy f = false →
        ∃ u : State, exec (.captureCompletes c) s = .next u.settleAccess
          ∧ u.frame f = { s.frame f with state := .valid } ∧ (∀ g, g ≠ f → u.frame g = s.frame g)
          ∧ readFrame u.cache.store f = c.words.take 256 ∧ (∀ g, g ≠ f → readFrame u.cache.store g = readFrame s.cache.store g)
          ∧ u.cache.refresh = s.cache.refresh.filter (fun e => e.frame != f)
          ∧ u.cache.lru = s.cache.lru.filter (fun g => g != f) ++ [f]
          ∧ u.monitor = watching ∧ u.port = s.port ∧ u.faults = s.faults ∧ u.access = s.access ∧ u.lines = s.lines)
      ∧ (∀ r, s.queue.held = [r] → r.state = .waiting → r.chain = none → r.refusedAt = none → r.addr.cyl = a.cyl →
        s.zones.thresholds.capture = 0 → s.dirFrame a = none →
        (r.kind = .read → s.zones.caches a.cyl = true → (∃ fr ∈ s.cache.frames, fr.state = .free) → a.index ∈ r.undone →
          (∃ i ∈ r.undone, i ≠ a.index) →
          ∃ (u : State) (f : Nat), exec (.captureCompletes c) s = .next u.settleAccess ∧ f < 64 ∧ (s.frame f).state = .free
            ∧ u.frame f = { Frame.free with state := .valid, addr := some a, inDir := true } ∧ (∀ g, g ≠ f → u.frame g = s.frame g)
            ∧ readFrame u.cache.store f = c.words.take 256
            ∧ (∀ g, g ≠ f → readFrame u.cache.store g = readFrame s.cache.store g)
            ∧ u.queue.held = [{ r.markDone a.index .peer with reserved := r.reserved - 1 }]
            ∧ u.port = { s.port with jobs := s.port.jobs ++
                [{ req := r.id, orphan := false, kind := .delivery f a.index, base := r.mem + 256 * (a.index - r.addr.index) }] }
            ∧ u.faults = { s.faults with capture := s.faults.capture + 1 } ∧ u.monitor = watching ∧ u.access = s.access ∧ u.lines = s.lines)
        ∧ (r.kind = .check → r.undone = [a.index] → r.source = none → s.delivering r.id = false → s.port.fifo.length < 16 →
          ∃ (u : State) (d : Completion), exec (.captureCompletes c) s = .next u.settleAccess ∧ d.tag = r.tag ∧ d.kindCode = r.kind.code ∧ d.outcome = .done
            ∧ d.source = .peer ∧ d.sectors = r.done.length + 1 ∧ d.wordA = 0 ∧ d.wordB = 0
            ∧ u.port.fifo = s.port.fifo ++ [d] ∧ u.queue.held = [] ∧ u.faults.capture = s.faults.capture + 1
            ∧ u.cache.store = s.cache.store ∧ u.monitor = watching ∧ u.access = s.access ∧ u.lines = s.lines)))
    ∧ (∀ c : PeerCapture, Still s → s.monitor.state = .capturing → s.monitor.kind = none → s.monitor.heldFor = none →
      s.cart.state = .loading → s.cache.labelReserved = true → c.field = .read → c.words.length = 257 →
      (∀ f, s.dirFrame { cyl := 0, head := 0, sec := 0 } = some f → (s.frame f).state = .valid) →
      let header : HeaderField := { sync := true, words := s.monitor.header }
      let verdict := labelSerial (c.words.take 256)
      let after (u : State) : Prop := u.cache.store = s.cache.store
        ∧ u.monitor = { s.monitor with
            state := .watching, header := [], data := [], kind := none, addr := none, verdict := none, heldFor := none }
        ∧ u.queue = s.queue ∧ u.faults = s.faults ∧ u.seq = s.seq ∧ u.zones = s.zones ∧ u.access = s.access ∧ u.lines = s.lines
      (headerClass header { cyl := 0, head := 0, sec := 0 } = .matching → fieldWordsGood c.words = true →
        (∀ serial, verdict = some serial → s.cart.lastSerial ≠ some serial →
          ∃ u : State, exec (.captureCompletes c) s = .next u.settleAccess ∧ u.cache.labelReserved = false
            ∧ u.cart = { s.cart with state := .mounted, lastSerial := some serial }
            ∧ u.port.notices = s.port.notices ||| 0x0002#15
            ∧ (∀ f, (s.frame f).state = .valid ∨ (s.frame f).state = .stale → s.hold f = 0 → u.frame f = Frame.free)
            ∧ (∀ f, (s.frame f).state = .valid ∨ (s.frame f).state = .stale → s.hold f ≠ 0 →
                u.frame f = { s.frame f with state := .stale, inDir := false, pinned := false, owner := none })
            ∧ (∀ f, (s.frame f).state ≠ .valid → (s.frame f).state ≠ .stale → u.frame f = s.frame f) ∧ after u)
        ∧ (∀ serial, verdict = some serial → s.cart.lastSerial = some serial →
          ∃ u : State, exec (.captureCompletes c) s = .next u.settleAccess ∧ u.cache.labelReserved = false
            ∧ u.cart = { s.cart with state := .mounted } ∧ u.port.notices = s.port.notices ||| 0x0002#15
            ∧ (∀ f, (s.frame f).state = .valid → (s.frame f).pinned = false → s.hold f = 0 → u.frame f = Frame.free)
            ∧ (∀ f, (s.frame f).state ≠ .valid ∨ (s.frame f).pinned = true → u.frame f = s.frame f)
            ∧ (∀ f ∈ s.cache.lru, (s.frame f).state = .stale → (s.frame f).pinned = true → ∃ e ∈ u.cache.refresh, e.frame = f)
            ∧ after u)
        ∧ (verdict = none → s.queue.held = [] →
          ∃ u : State, exec (.captureCompletes c) s = .next u.settleAccess ∧ u.cache = { s.cache with labelReserved := false }
            ∧ u.cart = { s.cart with state := .unusable, lastSerial := none } ∧ u.port.notices = s.port.notices ||| 0x0004#15
            ∧ after u))
      ∧ (headerClass header { cyl := 0, head := 0, sec := 0 } = .matching → fieldWordsGood c.words = false →
        ∃ u : State, exec (.captureCompletes c) s = .next u.settleAccess ∧ u.cache = s.cache ∧ u.cart = s.cart ∧ u.port = s.port
          ∧ after u))

/-- A capture of a peer write, with no request held, in whatever access state, which then follows the drive work (R24). Its address is its
good header's, or, located by the monitor, the arm cylinder, the observed head and SNUM at its beginning (R130). The conditions of R14 hold at
a bit cell when WRG, RDY and SKC are asserted and WPT deasserted. Where they hold at no cell of the gate there is no write: nothing is
reported, completed or cut short. A capture that completes is good when its CRC is and they hold from before the data sync to the end of the
CRC word; where they hold at some cells only, or the CRC is bad, it is a write without good capture. A frame that is pinned or of a CAPTURE
zone takes the words of a good capture while no job reads it, and is VALID, no more in the refresh set; a busy one is STALE with the capture
held; an unpinned one of a DROP zone, or any unpinned one without a good capture, is FREE when no delivery reads it, and else retires; a
pinned one without a good capture is STALE and in the refresh set (R119, R120). A write cut short before its CRC word is a write without good
capture (R131); that one of a tenure's end is reported too, and is never held, is the model's reading (log entries 33, 34). Other frames
stay. A write in the guard range or on the label sector lists GUARD-WRITTEN with origin PEER and raises the notice (R133). An unlocated write
is one without good capture for every directory frame of its head and sector, on whatever cylinder, with no check of the guard (R130; that it
is so whatever its CRC, log entry 34). -/
def Obligations.PeerWriteCoherence : Prop :=
  (∀ (s : State) (g : Gate) (a : SectorAddr) (f : Nat), Still s → StoreInv s → s.zones.configured = true →
    s.access.peerHolding = some .observed → s.monitor.state = .capturing → s.monitor.kind = none → s.monitor.verdict = none →
    s.monitor.heldFor = none → s.monitor.abandonedFor = none →
    (headerLocates s.monitor.header = some a ∨ (headerLocates s.monitor.header = none
      ∧ ∃ c : Fin 400, s.monitor.arm = some c ∧ a = { cyl := c.val, head := s.monitor.capHead, sec := s.monitor.capSnum })) →
    s.queue.held = [] →
    s.dirFrame a = some f → f < 64 → s.cache.frames.length = 64 →
    (s.frame f).state = .valid ∨ ((s.frame f).state = .stale ∧ (s.frame f).pinned = true) →
    let effective (x : GateCell) : Prop := x.wrg = true ∧ x.rdy = true ∧ x.skc = true ∧ x.wpt = false
    let watching : Monitor := { s.monitor with
      state := .watching, header := [], data := [], kind := none, addr := none, verdict := none, heldFor := none }
    let guarded := (s.zones.guardFirst ≤ a.cyl ∧ a.cyl ≤ s.zones.guardLast) ∨ a = { cyl := 0, head := 0, sec := 0 }
    let guards (u : State) : Prop :=
      (guarded → s.faults.entries = [] →
          u.faults.entries = [{ addr := .sector a, kind := .guardWritten, origin := .peer, firstTime := s.clock, repeats := 1 }]
          ∧ u.port.notices = s.port.notices ||| 0x0600#15)
      ∧ (¬guarded → u.faults = s.faults ∧ u.port.notices = s.port.notices)
    let invalidated (u : State) : Prop :=
      ((s.frame f).pinned = false → s.hold f = 0 → u.frame f = Frame.free)
      ∧ ((s.frame f).pinned = false → s.hold f ≠ 0 →
          u.frame f = { s.frame f with state := .stale, inDir := false, pinned := false, owner := none })
      ∧ ((s.frame f).pinned = true → u.frame f = { s.frame f with state := .stale } ∧ ∃ e ∈ u.cache.refresh, e.frame = f)
    let rest (u : State) : Prop :=
      (∀ n, n ≠ f → u.frame n = s.frame n ∧ readFrame u.cache.store n = readFrame s.cache.store n)
      ∧ u.queue = s.queue ∧ u.zones = s.zones ∧ u.cart = s.cart ∧ u.seq = s.seq ∧ u.drive = s.drive ∧ u.access = s.access
      ∧ u.lines = s.lines ∧ u.monitor.arm = s.monitor.arm
    (∀ c : PeerCapture, c.field = .write g → c.words.length = 257 →
      let good := fieldWordsGood c.words = true ∧ (∃ x, g.early.getLast? = some x ∧ effective x) ∧ (∀ x ∈ g.late, effective x)
      ((∀ x ∈ g.early ++ g.late, ¬effective x) →
        exec (.captureCompletes c) s = .next (State.settleAccess { s with monitor := watching }))
      ∧ ((∃ x ∈ g.early ++ g.late, effective x) → ∃ u : State, exec (.captureCompletes c) s = .next u.settleAccess ∧ guards u ∧ rest u
        ∧ (good → (s.frame f).pinned = true ∨ s.zones.mode a.cyl ≠ .drop → s.busy f = false →
            readFrame u.cache.store f = c.words.take 256 ∧ u.frame f = { s.frame f with state := .valid }
            ∧ (∀ e ∈ u.cache.refresh, e.frame ≠ f) ∧ u.monitor = watching)
        ∧ (good → (s.frame f).pinned = true ∨ s.zones.mode a.cyl ≠ .drop → s.busy f = true →
            u.cache.store = s.cache.store ∧ u.frame f = { s.frame f with state := .stale }
            ∧ u.monitor.state = .holding ∧ u.monitor.heldFor = some f ∧ u.monitor.data = c.words ∧ u.monitor.verdict = some .good)
        ∧ (good → (s.frame f).pinned = false → s.zones.mode a.cyl = .drop →
            invalidated u ∧ u.cache.store = s.cache.store ∧ u.monitor = watching)
        ∧ (¬good → invalidated u ∧ u.cache.store = s.cache.store ∧ u.monitor = watching)))
    ∧ ((∀ x ∈ g.early ++ g.late, ¬effective x) →
        exec (.captureCutShort (.write g)) s = .next (State.settleAccess { s with monitor := watching }))
    ∧ ((∃ x ∈ g.early ++ g.late, effective x) → ∃ u : State, exec (.captureCutShort (.write g)) s = .next u.settleAccess ∧ guards u ∧ rest u
        ∧ invalidated u ∧ u.cache.store = s.cache.store ∧ u.monitor = watching))
  ∧ (∀ (s : State) (g : Gate) (i : Instr), Still s → s.access.peerHolding = some .observed → s.monitor.state = .capturing →
    s.monitor.kind = none → s.monitor.verdict = none → s.monitor.heldFor = none → s.monitor.abandonedFor = none →
    headerLocates s.monitor.header = none → s.monitor.arm = none → (∃ x ∈ g.early ++ g.late, cellEffective x = true) →
    i = .captureCutShort (.write g) ∨ (∃ c : PeerCapture, c.field = .write g ∧ i = .captureCompletes c) →
    let meant (f : Nat) : Prop := (s.frame f).inDir = true
      ∧ ∃ a, (s.frame f).addr = some a ∧ a.head = s.monitor.capHead ∧ a.sec = s.monitor.capSnum
    ∃ u : State, exec i s = .next u.settleAccess
      ∧ (∀ f, meant f → (s.frame f).pinned = false → s.hold f = 0 → u.frame f = Frame.free)
      ∧ (∀ f, meant f → (s.frame f).pinned = false → s.hold f ≠ 0 →
          u.frame f = { s.frame f with state := .stale, inDir := false, pinned := false, owner := none })
      ∧ (∀ f, meant f → (s.frame f).pinned = true → u.frame f = { s.frame f with state := .stale } ∧ ∃ e ∈ u.cache.refresh, e.frame = f)
      ∧ (∀ f, ¬meant f → u.frame f = s.frame f)
      ∧ u.monitor = { s.monitor with
          state := .watching, header := [], data := [], kind := none, addr := none, verdict := none, heldFor := none }
      ∧ u.cache.store = s.cache.store ∧ u.faults = s.faults ∧ u.port = s.port ∧ u.queue = s.queue ∧ u.zones = s.zones ∧ u.cart = s.cart
      ∧ u.seq = s.seq ∧ u.drive = s.drive ∧ u.access = s.access ∧ u.lines = s.lines)

/-! ### The port reset -/

/-- A port reset, in every state (R23, R39, R102, R123, R139, R180): the intake, the chain staging, the work queue, the FIFO, the notice set,
the enables and the job list are empty or clear; the condition flags clear; the configuration, the fault list and counters, the cartridge
state, PRES, CREL, the turn mark, k, the backoff timer and the clock stand, and so do the words of every frame, the VALID frames, the STALE
ones of the directory, the refresh set, and a capture held. A running staging or delivery job completes its sector for no request, a REPORT or
CONFIGURE job stops. STAGED frames and FILLING ones not read, but that of the field in progress, are FREE. A station that held the line with
no work releases it, SEARCHING or UPDATING stops at once, and a motion or a field goes on, with its line held, to its end: there the
sequencer is IDLE and the line released, with no retry and no fault; SKF leaves the arm cylinder UNKNOWN; the frame of a request being read
is FREE and that of a refresh STALE as it was, the field not used; no frame of another request changes (R109); a label read's frame goes back to the label reservation; the frame of a
field written whole is settled as a written sector (R114), an UPDATE's takes its word if it still holds the sector (log entry 13). That the frame of a WRITE-VERIFY under its read-back was freed at the reset, and
that a staging job left running moves no word into a freed frame, is the model's choice (log entries 12, 22); no clause rests on it. WRD
holds the field sent whole (log entry 46). -/
def Obligations.PortReset : Prop :=
  (∀ (s : State) (c : Instr), s.powered = true → c = .brstAsserted ∨ (∃ x y z, c = .portReset x y z) →
    ∃ t, exec c s = .next t
      ∧ t.queue.held = [] ∧ t.queue.finished = []
      ∧ t.port.partialBlock = [] ∧ t.port.waiting = none ∧ t.port.overrun = false ∧ t.port.fifo = [] ∧ t.port.readPos = 0
      ∧ t.port.notices = 0 ∧ t.port.completionEnable = false ∧ t.port.noticeEnable = false ∧ t.port.jobs = []
      ∧ t.intakeHeld = false ∧ t.irq = false
      ∧ (s.port.running = none → t.port.running = none)
      ∧ (∀ j, s.port.running = some j → (∃ f i, j.kind = .staging f i ∨ j.kind = .delivery f i) →
          t.port.running = some { j with orphan := true })
      ∧ (∀ j, s.port.running = some j → (∃ ws, j.kind = .report ws) ∨ j.kind = .configure → t.port.running = none)
      ∧ t.unit = { inProgress := none, flags := { z := false, c := false, n := false } }
      ∧ t.zones = s.zones ∧ t.faults = s.faults ∧ t.cart = s.cart ∧ t.clock = s.clock ∧ t.identity = s.identity
      ∧ t.lines.pres = s.lines.pres ∧ t.lines.crel = s.lines.crel ∧ t.pins = s.pins
      ∧ t.access.turn = s.access.turn ∧ t.access.k = s.access.k ∧ t.access.backoff = s.access.backoff
      ∧ (∀ f, (s.frame f).state = .valid → (s.frame f).pinned = true → t.frame f = s.frame f)
      ∧ ((∀ w ∈ s.cache.waits, w.req ≠ none) →
          (∀ f, (s.frame f).state = .valid ∨ ((s.frame f).state = .stale ∧ (s.frame f).inDir = true) → t.frame f = s.frame f)
          ∧ (∀ f, (s.frame f).state = .staged ∨ ((s.frame f).state = .filling ∧ (s.frame f).filled = false ∧ (s.frame f).owner.isSome = true) →
              s.fieldFrame ≠ some f → t.frame f = Frame.free)
          ∧ ((∀ e ∈ s.cache.refresh, (s.frame e.frame).state = .stale ∧ (s.frame e.frame).inDir = true) →
              t.cache.refresh = s.cache.refresh)
          ∧ (∀ f, s.monitor.heldFor = some f → (s.frame f).state = .stale → (s.frame f).inDir = true →
              t.monitor.state = s.monitor.state ∧ t.monitor.heldFor = some f ∧ t.monitor.data = s.monitor.data
              ∧ t.monitor.verdict = s.monitor.verdict))
      ∧ t.cache.store = s.cache.store
      ∧ (s.pins.hold = false ∨ s.pins.pres = false → t.monitor.arm = s.monitor.arm) ∧ t.monitor.head = s.monitor.head
      ∧ (s.access.state = .holding → s.seq.state = .idle → t.access.state ≠ .holding ∧ t.lines.hold = false ∧ t.drive.enabled = false)
      ∧ (s.seq.state = .searching ∨ s.seq.state = .updating →
          t.seq = Sequencer.idle ∧ t.access.state ≠ .holding ∧ t.lines.hold = false ∧ t.drive.enabled = false)
      ∧ (s.access.state = .holding → s.seq.state ≠ .idle → s.seq.state ≠ .searching → s.seq.state ≠ .updating →
          t.seq = { s.seq with stopping := true } ∧ t.access = s.access ∧ t.lines = s.lines ∧ t.drive = s.drive))
  ∧ (∀ (s : State) (l : Lines) (c : Instr), Still s → s.seq.stopping = true →
    let stopped (t : State) : Prop := t.seq = Sequencer.idle ∧ t.access.state ≠ .holding ∧ t.lines.hold = false ∧ t.drive.enabled = false
      ∧ t.faults = s.faults ∧ t.queue = s.queue ∧ t.port = s.port
    (s.seq.state = .seeking → s.seq.strobed = true → c = .seekEnds .skc l ∨ c = .seekEnds .skf l ∨ c = .seekTimeout l →
      ∃ t, exec c s = .next t ∧ stopped t ∧ (c ≠ .seekEnds .skc l → t.monitor.arm = none)
        ∧ (c = .seekEnds .skc l → s.pins.hold = false → t.monitor.arm = s.monitor.arm))
    ∧ (s.seq.state = .recalibrating → c = .recalibrateEnds .skc l ∨ c = .recalibrateEnds .skf l ∨ c = .recalibrateTimeout l →
      ∃ t, exec c s = .next t ∧ stopped t ∧ (c ≠ .recalibrateEnds .skc l → t.monitor.arm = none)
        ∧ (c = .recalibrateEnds .skc l → s.pins.hold = false → t.monitor.arm = s.monitor.arm))
    ∧ (∀ d, s.seq.state = .reading → s.seq.visit.isSome = true → c = .dataFieldRead d l →
      ∃ t, exec c s = .next t ∧ stopped t ∧ t.cache.store = s.cache.store
        ∧ (∀ id f, s.seq.work = some (.request id) → s.seq.frame = some f → (s.frame f).owner = some id →
            (s.frame f).state = .filling → (s.frame f).filled = false → t.frame f = Frame.free)
        ∧ (∀ id, s.seq.work = some (.request id) → ∀ g, (s.frame g).owner ≠ some id → t.frame g = s.frame g)
        ∧ (∀ f, s.seq.work = some (.refresh f) → s.seq.frame = some f → (s.frame f).state = .stale → (s.frame f).inDir = true →
            t.frame f = s.frame f)
        ∧ (∀ f, s.seq.work = some .label → s.labelFrame = some f → s.cart.state ≠ .absent →
            t.frame f = Frame.free ∧ t.cache.labelReserved = true))
    ∧ (∀ d, s.seq.state = .verifying → s.seq.visit.isSome = true → c = .readBackEnds d l →
      ∃ t, exec c s = .next t ∧ stopped t ∧ t.cache.store = s.cache.store)
    ∧ (∀ x, s.seq.state = .writing → s.seq.visit.isSome = true → s.seq.work ≠ some .label → s.seq.sending = some x → x.patch = none →
      x.frame < s.cache.frames.length → (s.frame x.frame).pinned = false →
      (∀ g, s.dirFrame x.addr = some g → g = x.frame) → c = .dataFieldWritten l →
      ∃ t, exec c s = .next t ∧ stopped t
        ∧ t.drive.wrd = List.replicate 8 0xAAAA#16 ++ 0x1E3C#16 :: readFrame s.cache.store x.frame ++ [crc (readFrame s.cache.store x.frame)]
        ∧ (s.zones.caches x.addr.cyl = true →
            t.frame x.frame = { Frame.free with state := .valid, addr := some x.addr, inDir := true })
        ∧ (s.zones.caches x.addr.cyl = false → t.frame x.frame = Frame.free)
        ∧ (∀ g, g ≠ x.frame → t.frame g = s.frame g) ∧ t.cache.store = s.cache.store)
    ∧ (∀ x off w id, StoreInv s → s.seq.state = .writing → s.seq.visit.isSome = true → s.seq.work = some (.request id) →
      s.seq.sending = some x → x.patch = some (off, w) → off < 256 → x.frame < 64 → c = .dataFieldWritten l →
      ∃ t, exec c s = .next t ∧ stopped t
        ∧ (∀ g, g ≠ x.frame → readFrame t.cache.store g = readFrame s.cache.store g)
        ∧ readFrame t.cache.store x.frame = (if (s.frame x.frame).addr = some x.addr then (readFrame s.cache.store x.frame).set off w
            else readFrame s.cache.store x.frame)
        ∧ ((s.frame x.frame).owner = some id → (s.frame x.frame).state = .filling → (s.frame x.frame).filled = false →
            t.frame x.frame = Frame.free)
        ∧ (∀ g, (s.frame g).owner ≠ some id → t.frame g = s.frame g)))
end

