-- ==== Sys2Proof/Laws/State.lean ====
section
/-! SUPPORT. One lemma per field per update: what each of the plain updates of a State leaves as it stands, so that no proof unfolds
a record update. -/

namespace Sys2Proof.Machine

@[simp] theorem State.sample_pending (s : State) (l : Lines) : (s.sample l).pending = s.pending := rfl
@[simp] theorem State.sample_powered (s : State) (l : Lines) : (s.sample l).powered = s.powered := rfl
@[simp] theorem State.sample_lines (s : State) (l : Lines) : (s.sample l).lines = s.lines := rfl
@[simp] theorem State.sample_drive (s : State) (l : Lines) : (s.sample l).drive = s.drive := rfl
@[simp] theorem State.sample_clock (s : State) (l : Lines) : (s.sample l).clock = s.clock := rfl
@[simp] theorem State.sample_identity (s : State) (l : Lines) : (s.sample l).identity = s.identity := rfl
@[simp] theorem State.sample_zones (s : State) (l : Lines) : (s.sample l).zones = s.zones := rfl
@[simp] theorem State.sample_port (s : State) (l : Lines) : (s.sample l).port = s.port := rfl
@[simp] theorem State.sample_queue (s : State) (l : Lines) : (s.sample l).queue = s.queue := rfl
@[simp] theorem State.sample_faults (s : State) (l : Lines) : (s.sample l).faults = s.faults := rfl
@[simp] theorem State.sample_access (s : State) (l : Lines) : (s.sample l).access = s.access := rfl
@[simp] theorem State.sample_seq (s : State) (l : Lines) : (s.sample l).seq = s.seq := rfl
@[simp] theorem State.sample_cache (s : State) (l : Lines) : (s.sample l).cache = s.cache := rfl
@[simp] theorem State.sample_monitor (s : State) (l : Lines) : (s.sample l).monitor = s.monitor := rfl
@[simp] theorem State.sample_unit (s : State) (l : Lines) : (s.sample l).unit = s.unit := rfl
@[simp] theorem State.sample_cart (s : State) (l : Lines) : (s.sample l).cart = s.cart := rfl
@[simp] theorem State.sample_freeDraws (s : State) (l : Lines) : (s.sample l).freeDraws = s.freeDraws := rfl

@[simp] theorem State.setFrame_pending (s : State) (f : Nat) (fr : Frame) : (s.setFrame f fr).pending = s.pending := rfl
@[simp] theorem State.setFrame_powered (s : State) (f : Nat) (fr : Frame) : (s.setFrame f fr).powered = s.powered := rfl
@[simp] theorem State.setFrame_pins (s : State) (f : Nat) (fr : Frame) : (s.setFrame f fr).pins = s.pins := rfl
@[simp] theorem State.setFrame_lines (s : State) (f : Nat) (fr : Frame) : (s.setFrame f fr).lines = s.lines := rfl
@[simp] theorem State.setFrame_drive (s : State) (f : Nat) (fr : Frame) : (s.setFrame f fr).drive = s.drive := rfl
@[simp] theorem State.setFrame_clock (s : State) (f : Nat) (fr : Frame) : (s.setFrame f fr).clock = s.clock := rfl
@[simp] theorem State.setFrame_identity (s : State) (f : Nat) (fr : Frame) : (s.setFrame f fr).identity = s.identity := rfl
@[simp] theorem State.setFrame_zones (s : State) (f : Nat) (fr : Frame) : (s.setFrame f fr).zones = s.zones := rfl
@[simp] theorem State.setFrame_port (s : State) (f : Nat) (fr : Frame) : (s.setFrame f fr).port = s.port := rfl
@[simp] theorem State.setFrame_queue (s : State) (f : Nat) (fr : Frame) : (s.setFrame f fr).queue = s.queue := rfl
@[simp] theorem State.setFrame_faults (s : State) (f : Nat) (fr : Frame) : (s.setFrame f fr).faults = s.faults := rfl
@[simp] theorem State.setFrame_access (s : State) (f : Nat) (fr : Frame) : (s.setFrame f fr).access = s.access := rfl
@[simp] theorem State.setFrame_seq (s : State) (f : Nat) (fr : Frame) : (s.setFrame f fr).seq = s.seq := rfl
@[simp] theorem State.setFrame_monitor (s : State) (f : Nat) (fr : Frame) : (s.setFrame f fr).monitor = s.monitor := rfl
@[simp] theorem State.setFrame_unit (s : State) (f : Nat) (fr : Frame) : (s.setFrame f fr).unit = s.unit := rfl
@[simp] theorem State.setFrame_cart (s : State) (f : Nat) (fr : Frame) : (s.setFrame f fr).cart = s.cart := rfl
@[simp] theorem State.setFrame_freeDraws (s : State) (f : Nat) (fr : Frame) : (s.setFrame f fr).freeDraws = s.freeDraws := rfl

@[simp] theorem State.touch_pending (s : State) (f : Nat) : (s.touch f).pending = s.pending := rfl
@[simp] theorem State.touch_powered (s : State) (f : Nat) : (s.touch f).powered = s.powered := rfl
@[simp] theorem State.touch_pins (s : State) (f : Nat) : (s.touch f).pins = s.pins := rfl
@[simp] theorem State.touch_lines (s : State) (f : Nat) : (s.touch f).lines = s.lines := rfl
@[simp] theorem State.touch_drive (s : State) (f : Nat) : (s.touch f).drive = s.drive := rfl
@[simp] theorem State.touch_clock (s : State) (f : Nat) : (s.touch f).clock = s.clock := rfl
@[simp] theorem State.touch_identity (s : State) (f : Nat) : (s.touch f).identity = s.identity := rfl
@[simp] theorem State.touch_zones (s : State) (f : Nat) : (s.touch f).zones = s.zones := rfl
@[simp] theorem State.touch_port (s : State) (f : Nat) : (s.touch f).port = s.port := rfl
@[simp] theorem State.touch_queue (s : State) (f : Nat) : (s.touch f).queue = s.queue := rfl
@[simp] theorem State.touch_faults (s : State) (f : Nat) : (s.touch f).faults = s.faults := rfl
@[simp] theorem State.touch_access (s : State) (f : Nat) : (s.touch f).access = s.access := rfl
@[simp] theorem State.touch_seq (s : State) (f : Nat) : (s.touch f).seq = s.seq := rfl
@[simp] theorem State.touch_monitor (s : State) (f : Nat) : (s.touch f).monitor = s.monitor := rfl
@[simp] theorem State.touch_unit (s : State) (f : Nat) : (s.touch f).unit = s.unit := rfl
@[simp] theorem State.touch_cart (s : State) (f : Nat) : (s.touch f).cart = s.cart := rfl
@[simp] theorem State.touch_freeDraws (s : State) (f : Nat) : (s.touch f).freeDraws = s.freeDraws := rfl

@[simp] theorem State.leaveLru_pending (s : State) (f : Nat) : (s.leaveLru f).pending = s.pending := rfl
@[simp] theorem State.leaveLru_powered (s : State) (f : Nat) : (s.leaveLru f).powered = s.powered := rfl
@[simp] theorem State.leaveLru_pins (s : State) (f : Nat) : (s.leaveLru f).pins = s.pins := rfl
@[simp] theorem State.leaveLru_lines (s : State) (f : Nat) : (s.leaveLru f).lines = s.lines := rfl
@[simp] theorem State.leaveLru_drive (s : State) (f : Nat) : (s.leaveLru f).drive = s.drive := rfl
@[simp] theorem State.leaveLru_clock (s : State) (f : Nat) : (s.leaveLru f).clock = s.clock := rfl
@[simp] theorem State.leaveLru_identity (s : State) (f : Nat) : (s.leaveLru f).identity = s.identity := rfl
@[simp] theorem State.leaveLru_zones (s : State) (f : Nat) : (s.leaveLru f).zones = s.zones := rfl
@[simp] theorem State.leaveLru_port (s : State) (f : Nat) : (s.leaveLru f).port = s.port := rfl
@[simp] theorem State.leaveLru_queue (s : State) (f : Nat) : (s.leaveLru f).queue = s.queue := rfl
@[simp] theorem State.leaveLru_faults (s : State) (f : Nat) : (s.leaveLru f).faults = s.faults := rfl
@[simp] theorem State.leaveLru_access (s : State) (f : Nat) : (s.leaveLru f).access = s.access := rfl
@[simp] theorem State.leaveLru_seq (s : State) (f : Nat) : (s.leaveLru f).seq = s.seq := rfl
@[simp] theorem State.leaveLru_monitor (s : State) (f : Nat) : (s.leaveLru f).monitor = s.monitor := rfl
@[simp] theorem State.leaveLru_unit (s : State) (f : Nat) : (s.leaveLru f).unit = s.unit := rfl
@[simp] theorem State.leaveLru_cart (s : State) (f : Nat) : (s.leaveLru f).cart = s.cart := rfl
@[simp] theorem State.leaveLru_freeDraws (s : State) (f : Nat) : (s.leaveLru f).freeDraws = s.freeDraws := rfl

@[simp] theorem State.leaveRefresh_pending (s : State) (f : Nat) : (s.leaveRefresh f).pending = s.pending := rfl
@[simp] theorem State.leaveRefresh_powered (s : State) (f : Nat) : (s.leaveRefresh f).powered = s.powered := rfl
@[simp] theorem State.leaveRefresh_pins (s : State) (f : Nat) : (s.leaveRefresh f).pins = s.pins := rfl
@[simp] theorem State.leaveRefresh_lines (s : State) (f : Nat) : (s.leaveRefresh f).lines = s.lines := rfl
@[simp] theorem State.leaveRefresh_drive (s : State) (f : Nat) : (s.leaveRefresh f).drive = s.drive := rfl
@[simp] theorem State.leaveRefresh_clock (s : State) (f : Nat) : (s.leaveRefresh f).clock = s.clock := rfl
@[simp] theorem State.leaveRefresh_identity (s : State) (f : Nat) : (s.leaveRefresh f).identity = s.identity := rfl
@[simp] theorem State.leaveRefresh_zones (s : State) (f : Nat) : (s.leaveRefresh f).zones = s.zones := rfl
@[simp] theorem State.leaveRefresh_port (s : State) (f : Nat) : (s.leaveRefresh f).port = s.port := rfl
@[simp] theorem State.leaveRefresh_queue (s : State) (f : Nat) : (s.leaveRefresh f).queue = s.queue := rfl
@[simp] theorem State.leaveRefresh_faults (s : State) (f : Nat) : (s.leaveRefresh f).faults = s.faults := rfl
@[simp] theorem State.leaveRefresh_access (s : State) (f : Nat) : (s.leaveRefresh f).access = s.access := rfl
@[simp] theorem State.leaveRefresh_seq (s : State) (f : Nat) : (s.leaveRefresh f).seq = s.seq := rfl
@[simp] theorem State.leaveRefresh_monitor (s : State) (f : Nat) : (s.leaveRefresh f).monitor = s.monitor := rfl
@[simp] theorem State.leaveRefresh_unit (s : State) (f : Nat) : (s.leaveRefresh f).unit = s.unit := rfl
@[simp] theorem State.leaveRefresh_cart (s : State) (f : Nat) : (s.leaveRefresh f).cart = s.cart := rfl
@[simp] theorem State.leaveRefresh_freeDraws (s : State) (f : Nat) : (s.leaveRefresh f).freeDraws = s.freeDraws := rfl

@[simp] theorem State.dropWaits_pending (s : State) (id : Nat) : (s.dropWaits id).pending = s.pending := rfl
@[simp] theorem State.dropWaits_powered (s : State) (id : Nat) : (s.dropWaits id).powered = s.powered := rfl
@[simp] theorem State.dropWaits_pins (s : State) (id : Nat) : (s.dropWaits id).pins = s.pins := rfl
@[simp] theorem State.dropWaits_lines (s : State) (id : Nat) : (s.dropWaits id).lines = s.lines := rfl
@[simp] theorem State.dropWaits_drive (s : State) (id : Nat) : (s.dropWaits id).drive = s.drive := rfl
@[simp] theorem State.dropWaits_clock (s : State) (id : Nat) : (s.dropWaits id).clock = s.clock := rfl
@[simp] theorem State.dropWaits_identity (s : State) (id : Nat) : (s.dropWaits id).identity = s.identity := rfl
@[simp] theorem State.dropWaits_zones (s : State) (id : Nat) : (s.dropWaits id).zones = s.zones := rfl
@[simp] theorem State.dropWaits_port (s : State) (id : Nat) : (s.dropWaits id).port = s.port := rfl
@[simp] theorem State.dropWaits_queue (s : State) (id : Nat) : (s.dropWaits id).queue = s.queue := rfl
@[simp] theorem State.dropWaits_faults (s : State) (id : Nat) : (s.dropWaits id).faults = s.faults := rfl
@[simp] theorem State.dropWaits_access (s : State) (id : Nat) : (s.dropWaits id).access = s.access := rfl
@[simp] theorem State.dropWaits_seq (s : State) (id : Nat) : (s.dropWaits id).seq = s.seq := rfl
@[simp] theorem State.dropWaits_monitor (s : State) (id : Nat) : (s.dropWaits id).monitor = s.monitor := rfl
@[simp] theorem State.dropWaits_unit (s : State) (id : Nat) : (s.dropWaits id).unit = s.unit := rfl
@[simp] theorem State.dropWaits_cart (s : State) (id : Nat) : (s.dropWaits id).cart = s.cart := rfl
@[simp] theorem State.dropWaits_freeDraws (s : State) (id : Nat) : (s.dropWaits id).freeDraws = s.freeDraws := rfl

@[simp] theorem State.putWords_pending (s : State) (f : Nat) (ws : List Word) : (s.putWords f ws).pending = s.pending := rfl
@[simp] theorem State.putWords_powered (s : State) (f : Nat) (ws : List Word) : (s.putWords f ws).powered = s.powered := rfl
@[simp] theorem State.putWords_pins (s : State) (f : Nat) (ws : List Word) : (s.putWords f ws).pins = s.pins := rfl
@[simp] theorem State.putWords_lines (s : State) (f : Nat) (ws : List Word) : (s.putWords f ws).lines = s.lines := rfl
@[simp] theorem State.putWords_drive (s : State) (f : Nat) (ws : List Word) : (s.putWords f ws).drive = s.drive := rfl
@[simp] theorem State.putWords_clock (s : State) (f : Nat) (ws : List Word) : (s.putWords f ws).clock = s.clock := rfl
@[simp] theorem State.putWords_identity (s : State) (f : Nat) (ws : List Word) : (s.putWords f ws).identity = s.identity := rfl
@[simp] theorem State.putWords_zones (s : State) (f : Nat) (ws : List Word) : (s.putWords f ws).zones = s.zones := rfl
@[simp] theorem State.putWords_port (s : State) (f : Nat) (ws : List Word) : (s.putWords f ws).port = s.port := rfl
@[simp] theorem State.putWords_queue (s : State) (f : Nat) (ws : List Word) : (s.putWords f ws).queue = s.queue := rfl
@[simp] theorem State.putWords_faults (s : State) (f : Nat) (ws : List Word) : (s.putWords f ws).faults = s.faults := rfl
@[simp] theorem State.putWords_access (s : State) (f : Nat) (ws : List Word) : (s.putWords f ws).access = s.access := rfl
@[simp] theorem State.putWords_seq (s : State) (f : Nat) (ws : List Word) : (s.putWords f ws).seq = s.seq := rfl
@[simp] theorem State.putWords_monitor (s : State) (f : Nat) (ws : List Word) : (s.putWords f ws).monitor = s.monitor := rfl
@[simp] theorem State.putWords_unit (s : State) (f : Nat) (ws : List Word) : (s.putWords f ws).unit = s.unit := rfl
@[simp] theorem State.putWords_cart (s : State) (f : Nat) (ws : List Word) : (s.putWords f ws).cart = s.cart := rfl
@[simp] theorem State.putWords_freeDraws (s : State) (f : Nat) (ws : List Word) : (s.putWords f ws).freeDraws = s.freeDraws := rfl

@[simp] theorem State.modify_pending (s : State) (id : Nat) (g : Request → Request) : (s.modify id g).pending = s.pending := rfl
@[simp] theorem State.modify_powered (s : State) (id : Nat) (g : Request → Request) : (s.modify id g).powered = s.powered := rfl
@[simp] theorem State.modify_pins (s : State) (id : Nat) (g : Request → Request) : (s.modify id g).pins = s.pins := rfl
@[simp] theorem State.modify_lines (s : State) (id : Nat) (g : Request → Request) : (s.modify id g).lines = s.lines := rfl
@[simp] theorem State.modify_drive (s : State) (id : Nat) (g : Request → Request) : (s.modify id g).drive = s.drive := rfl
@[simp] theorem State.modify_clock (s : State) (id : Nat) (g : Request → Request) : (s.modify id g).clock = s.clock := rfl
@[simp] theorem State.modify_identity (s : State) (id : Nat) (g : Request → Request) : (s.modify id g).identity = s.identity := rfl
@[simp] theorem State.modify_zones (s : State) (id : Nat) (g : Request → Request) : (s.modify id g).zones = s.zones := rfl
@[simp] theorem State.modify_port (s : State) (id : Nat) (g : Request → Request) : (s.modify id g).port = s.port := rfl
@[simp] theorem State.modify_faults (s : State) (id : Nat) (g : Request → Request) : (s.modify id g).faults = s.faults := rfl
@[simp] theorem State.modify_access (s : State) (id : Nat) (g : Request → Request) : (s.modify id g).access = s.access := rfl
@[simp] theorem State.modify_seq (s : State) (id : Nat) (g : Request → Request) : (s.modify id g).seq = s.seq := rfl
@[simp] theorem State.modify_cache (s : State) (id : Nat) (g : Request → Request) : (s.modify id g).cache = s.cache := rfl
@[simp] theorem State.modify_monitor (s : State) (id : Nat) (g : Request → Request) : (s.modify id g).monitor = s.monitor := rfl
@[simp] theorem State.modify_unit (s : State) (id : Nat) (g : Request → Request) : (s.modify id g).unit = s.unit := rfl
@[simp] theorem State.modify_cart (s : State) (id : Nat) (g : Request → Request) : (s.modify id g).cart = s.cart := rfl
@[simp] theorem State.modify_freeDraws (s : State) (id : Nat) (g : Request → Request) : (s.modify id g).freeDraws = s.freeDraws := rfl

@[simp] theorem State.insert_pending (s : State) (r : Request) : (s.insert r).pending = s.pending := rfl
@[simp] theorem State.insert_powered (s : State) (r : Request) : (s.insert r).powered = s.powered := rfl
@[simp] theorem State.insert_pins (s : State) (r : Request) : (s.insert r).pins = s.pins := rfl
@[simp] theorem State.insert_lines (s : State) (r : Request) : (s.insert r).lines = s.lines := rfl
@[simp] theorem State.insert_drive (s : State) (r : Request) : (s.insert r).drive = s.drive := rfl
@[simp] theorem State.insert_clock (s : State) (r : Request) : (s.insert r).clock = s.clock := rfl
@[simp] theorem State.insert_identity (s : State) (r : Request) : (s.insert r).identity = s.identity := rfl
@[simp] theorem State.insert_zones (s : State) (r : Request) : (s.insert r).zones = s.zones := rfl
@[simp] theorem State.insert_port (s : State) (r : Request) : (s.insert r).port = s.port := rfl
@[simp] theorem State.insert_faults (s : State) (r : Request) : (s.insert r).faults = s.faults := rfl
@[simp] theorem State.insert_access (s : State) (r : Request) : (s.insert r).access = s.access := rfl
@[simp] theorem State.insert_seq (s : State) (r : Request) : (s.insert r).seq = s.seq := rfl
@[simp] theorem State.insert_cache (s : State) (r : Request) : (s.insert r).cache = s.cache := rfl
@[simp] theorem State.insert_monitor (s : State) (r : Request) : (s.insert r).monitor = s.monitor := rfl
@[simp] theorem State.insert_unit (s : State) (r : Request) : (s.insert r).unit = s.unit := rfl
@[simp] theorem State.insert_cart (s : State) (r : Request) : (s.insert r).cart = s.cart := rfl
@[simp] theorem State.insert_freeDraws (s : State) (r : Request) : (s.insert r).freeDraws = s.freeDraws := rfl

@[simp] theorem State.orderFinished_pending (s : State) (n : Nat) : (s.orderFinished n).pending = s.pending := rfl
@[simp] theorem State.orderFinished_powered (s : State) (n : Nat) : (s.orderFinished n).powered = s.powered := rfl
@[simp] theorem State.orderFinished_pins (s : State) (n : Nat) : (s.orderFinished n).pins = s.pins := rfl
@[simp] theorem State.orderFinished_lines (s : State) (n : Nat) : (s.orderFinished n).lines = s.lines := rfl
@[simp] theorem State.orderFinished_drive (s : State) (n : Nat) : (s.orderFinished n).drive = s.drive := rfl
@[simp] theorem State.orderFinished_clock (s : State) (n : Nat) : (s.orderFinished n).clock = s.clock := rfl
@[simp] theorem State.orderFinished_identity (s : State) (n : Nat) : (s.orderFinished n).identity = s.identity := rfl
@[simp] theorem State.orderFinished_zones (s : State) (n : Nat) : (s.orderFinished n).zones = s.zones := rfl
@[simp] theorem State.orderFinished_port (s : State) (n : Nat) : (s.orderFinished n).port = s.port := rfl
@[simp] theorem State.orderFinished_faults (s : State) (n : Nat) : (s.orderFinished n).faults = s.faults := rfl
@[simp] theorem State.orderFinished_access (s : State) (n : Nat) : (s.orderFinished n).access = s.access := rfl
@[simp] theorem State.orderFinished_seq (s : State) (n : Nat) : (s.orderFinished n).seq = s.seq := rfl
@[simp] theorem State.orderFinished_cache (s : State) (n : Nat) : (s.orderFinished n).cache = s.cache := rfl
@[simp] theorem State.orderFinished_monitor (s : State) (n : Nat) : (s.orderFinished n).monitor = s.monitor := rfl
@[simp] theorem State.orderFinished_unit (s : State) (n : Nat) : (s.orderFinished n).unit = s.unit := rfl
@[simp] theorem State.orderFinished_cart (s : State) (n : Nat) : (s.orderFinished n).cart = s.cart := rfl
@[simp] theorem State.orderFinished_freeDraws (s : State) (n : Nat) : (s.orderFinished n).freeDraws = s.freeDraws := rfl

@[simp] theorem State.place_pending (s : State) (c : Completion) : (s.place c).pending = s.pending := rfl
@[simp] theorem State.place_powered (s : State) (c : Completion) : (s.place c).powered = s.powered := rfl
@[simp] theorem State.place_pins (s : State) (c : Completion) : (s.place c).pins = s.pins := rfl
@[simp] theorem State.place_lines (s : State) (c : Completion) : (s.place c).lines = s.lines := rfl
@[simp] theorem State.place_drive (s : State) (c : Completion) : (s.place c).drive = s.drive := rfl
@[simp] theorem State.place_clock (s : State) (c : Completion) : (s.place c).clock = s.clock := rfl
@[simp] theorem State.place_identity (s : State) (c : Completion) : (s.place c).identity = s.identity := rfl
@[simp] theorem State.place_zones (s : State) (c : Completion) : (s.place c).zones = s.zones := rfl
@[simp] theorem State.place_queue (s : State) (c : Completion) : (s.place c).queue = s.queue := rfl
@[simp] theorem State.place_faults (s : State) (c : Completion) : (s.place c).faults = s.faults := rfl
@[simp] theorem State.place_access (s : State) (c : Completion) : (s.place c).access = s.access := rfl
@[simp] theorem State.place_seq (s : State) (c : Completion) : (s.place c).seq = s.seq := rfl
@[simp] theorem State.place_cache (s : State) (c : Completion) : (s.place c).cache = s.cache := rfl
@[simp] theorem State.place_monitor (s : State) (c : Completion) : (s.place c).monitor = s.monitor := rfl
@[simp] theorem State.place_unit (s : State) (c : Completion) : (s.place c).unit = s.unit := rfl
@[simp] theorem State.place_cart (s : State) (c : Completion) : (s.place c).cart = s.cart := rfl
@[simp] theorem State.place_freeDraws (s : State) (c : Completion) : (s.place c).freeDraws = s.freeDraws := rfl

@[simp] theorem State.queueJob_pending (s : State) (j : Job) : (s.queueJob j).pending = s.pending := rfl
@[simp] theorem State.queueJob_powered (s : State) (j : Job) : (s.queueJob j).powered = s.powered := rfl
@[simp] theorem State.queueJob_pins (s : State) (j : Job) : (s.queueJob j).pins = s.pins := rfl
@[simp] theorem State.queueJob_lines (s : State) (j : Job) : (s.queueJob j).lines = s.lines := rfl
@[simp] theorem State.queueJob_drive (s : State) (j : Job) : (s.queueJob j).drive = s.drive := rfl
@[simp] theorem State.queueJob_clock (s : State) (j : Job) : (s.queueJob j).clock = s.clock := rfl
@[simp] theorem State.queueJob_identity (s : State) (j : Job) : (s.queueJob j).identity = s.identity := rfl
@[simp] theorem State.queueJob_zones (s : State) (j : Job) : (s.queueJob j).zones = s.zones := rfl
@[simp] theorem State.queueJob_queue (s : State) (j : Job) : (s.queueJob j).queue = s.queue := rfl
@[simp] theorem State.queueJob_faults (s : State) (j : Job) : (s.queueJob j).faults = s.faults := rfl
@[simp] theorem State.queueJob_access (s : State) (j : Job) : (s.queueJob j).access = s.access := rfl
@[simp] theorem State.queueJob_seq (s : State) (j : Job) : (s.queueJob j).seq = s.seq := rfl
@[simp] theorem State.queueJob_cache (s : State) (j : Job) : (s.queueJob j).cache = s.cache := rfl
@[simp] theorem State.queueJob_monitor (s : State) (j : Job) : (s.queueJob j).monitor = s.monitor := rfl
@[simp] theorem State.queueJob_unit (s : State) (j : Job) : (s.queueJob j).unit = s.unit := rfl
@[simp] theorem State.queueJob_cart (s : State) (j : Job) : (s.queueJob j).cart = s.cart := rfl
@[simp] theorem State.queueJob_freeDraws (s : State) (j : Job) : (s.queueJob j).freeDraws = s.freeDraws := rfl

@[simp] theorem State.dropJobs_pending (s : State) (id : Nat) : (s.dropJobs id).pending = s.pending := rfl
@[simp] theorem State.dropJobs_powered (s : State) (id : Nat) : (s.dropJobs id).powered = s.powered := rfl
@[simp] theorem State.dropJobs_pins (s : State) (id : Nat) : (s.dropJobs id).pins = s.pins := rfl
@[simp] theorem State.dropJobs_lines (s : State) (id : Nat) : (s.dropJobs id).lines = s.lines := rfl
@[simp] theorem State.dropJobs_drive (s : State) (id : Nat) : (s.dropJobs id).drive = s.drive := rfl
@[simp] theorem State.dropJobs_clock (s : State) (id : Nat) : (s.dropJobs id).clock = s.clock := rfl
@[simp] theorem State.dropJobs_identity (s : State) (id : Nat) : (s.dropJobs id).identity = s.identity := rfl
@[simp] theorem State.dropJobs_zones (s : State) (id : Nat) : (s.dropJobs id).zones = s.zones := rfl
@[simp] theorem State.dropJobs_queue (s : State) (id : Nat) : (s.dropJobs id).queue = s.queue := rfl
@[simp] theorem State.dropJobs_faults (s : State) (id : Nat) : (s.dropJobs id).faults = s.faults := rfl
@[simp] theorem State.dropJobs_access (s : State) (id : Nat) : (s.dropJobs id).access = s.access := rfl
@[simp] theorem State.dropJobs_seq (s : State) (id : Nat) : (s.dropJobs id).seq = s.seq := rfl
@[simp] theorem State.dropJobs_cache (s : State) (id : Nat) : (s.dropJobs id).cache = s.cache := rfl
@[simp] theorem State.dropJobs_monitor (s : State) (id : Nat) : (s.dropJobs id).monitor = s.monitor := rfl
@[simp] theorem State.dropJobs_unit (s : State) (id : Nat) : (s.dropJobs id).unit = s.unit := rfl
@[simp] theorem State.dropJobs_cart (s : State) (id : Nat) : (s.dropJobs id).cart = s.cart := rfl
@[simp] theorem State.dropJobs_freeDraws (s : State) (id : Nat) : (s.dropJobs id).freeDraws = s.freeDraws := rfl

@[simp] theorem State.dropStaging_pending (s : State) (id : Nat) : (s.dropStaging id).pending = s.pending := rfl
@[simp] theorem State.dropStaging_powered (s : State) (id : Nat) : (s.dropStaging id).powered = s.powered := rfl
@[simp] theorem State.dropStaging_pins (s : State) (id : Nat) : (s.dropStaging id).pins = s.pins := rfl
@[simp] theorem State.dropStaging_lines (s : State) (id : Nat) : (s.dropStaging id).lines = s.lines := rfl
@[simp] theorem State.dropStaging_drive (s : State) (id : Nat) : (s.dropStaging id).drive = s.drive := rfl
@[simp] theorem State.dropStaging_clock (s : State) (id : Nat) : (s.dropStaging id).clock = s.clock := rfl
@[simp] theorem State.dropStaging_identity (s : State) (id : Nat) : (s.dropStaging id).identity = s.identity := rfl
@[simp] theorem State.dropStaging_zones (s : State) (id : Nat) : (s.dropStaging id).zones = s.zones := rfl
@[simp] theorem State.dropStaging_queue (s : State) (id : Nat) : (s.dropStaging id).queue = s.queue := rfl
@[simp] theorem State.dropStaging_faults (s : State) (id : Nat) : (s.dropStaging id).faults = s.faults := rfl
@[simp] theorem State.dropStaging_access (s : State) (id : Nat) : (s.dropStaging id).access = s.access := rfl
@[simp] theorem State.dropStaging_seq (s : State) (id : Nat) : (s.dropStaging id).seq = s.seq := rfl
@[simp] theorem State.dropStaging_cache (s : State) (id : Nat) : (s.dropStaging id).cache = s.cache := rfl
@[simp] theorem State.dropStaging_monitor (s : State) (id : Nat) : (s.dropStaging id).monitor = s.monitor := rfl
@[simp] theorem State.dropStaging_unit (s : State) (id : Nat) : (s.dropStaging id).unit = s.unit := rfl
@[simp] theorem State.dropStaging_cart (s : State) (id : Nat) : (s.dropStaging id).cart = s.cart := rfl
@[simp] theorem State.dropStaging_freeDraws (s : State) (id : Nat) : (s.dropStaging id).freeDraws = s.freeDraws := rfl

@[simp] theorem State.dropDeliveries_pending (s : State) (id : Nat) : (s.dropDeliveries id).pending = s.pending := rfl
@[simp] theorem State.dropDeliveries_powered (s : State) (id : Nat) : (s.dropDeliveries id).powered = s.powered := rfl
@[simp] theorem State.dropDeliveries_pins (s : State) (id : Nat) : (s.dropDeliveries id).pins = s.pins := rfl
@[simp] theorem State.dropDeliveries_lines (s : State) (id : Nat) : (s.dropDeliveries id).lines = s.lines := rfl
@[simp] theorem State.dropDeliveries_drive (s : State) (id : Nat) : (s.dropDeliveries id).drive = s.drive := rfl
@[simp] theorem State.dropDeliveries_clock (s : State) (id : Nat) : (s.dropDeliveries id).clock = s.clock := rfl
@[simp] theorem State.dropDeliveries_identity (s : State) (id : Nat) : (s.dropDeliveries id).identity = s.identity := rfl
@[simp] theorem State.dropDeliveries_zones (s : State) (id : Nat) : (s.dropDeliveries id).zones = s.zones := rfl
@[simp] theorem State.dropDeliveries_queue (s : State) (id : Nat) : (s.dropDeliveries id).queue = s.queue := rfl
@[simp] theorem State.dropDeliveries_faults (s : State) (id : Nat) : (s.dropDeliveries id).faults = s.faults := rfl
@[simp] theorem State.dropDeliveries_access (s : State) (id : Nat) : (s.dropDeliveries id).access = s.access := rfl
@[simp] theorem State.dropDeliveries_seq (s : State) (id : Nat) : (s.dropDeliveries id).seq = s.seq := rfl
@[simp] theorem State.dropDeliveries_cache (s : State) (id : Nat) : (s.dropDeliveries id).cache = s.cache := rfl
@[simp] theorem State.dropDeliveries_monitor (s : State) (id : Nat) : (s.dropDeliveries id).monitor = s.monitor := rfl
@[simp] theorem State.dropDeliveries_unit (s : State) (id : Nat) : (s.dropDeliveries id).unit = s.unit := rfl
@[simp] theorem State.dropDeliveries_cart (s : State) (id : Nat) : (s.dropDeliveries id).cart = s.cart := rfl
@[simp] theorem State.dropDeliveries_freeDraws (s : State) (id : Nat) : (s.dropDeliveries id).freeDraws = s.freeDraws := rfl

@[simp] theorem State.channelFree_pending (s : State) : (s.channelFree).pending = s.pending := rfl
@[simp] theorem State.channelFree_powered (s : State) : (s.channelFree).powered = s.powered := rfl
@[simp] theorem State.channelFree_pins (s : State) : (s.channelFree).pins = s.pins := rfl
@[simp] theorem State.channelFree_lines (s : State) : (s.channelFree).lines = s.lines := rfl
@[simp] theorem State.channelFree_drive (s : State) : (s.channelFree).drive = s.drive := rfl
@[simp] theorem State.channelFree_clock (s : State) : (s.channelFree).clock = s.clock := rfl
@[simp] theorem State.channelFree_identity (s : State) : (s.channelFree).identity = s.identity := rfl
@[simp] theorem State.channelFree_zones (s : State) : (s.channelFree).zones = s.zones := rfl
@[simp] theorem State.channelFree_queue (s : State) : (s.channelFree).queue = s.queue := rfl
@[simp] theorem State.channelFree_faults (s : State) : (s.channelFree).faults = s.faults := rfl
@[simp] theorem State.channelFree_access (s : State) : (s.channelFree).access = s.access := rfl
@[simp] theorem State.channelFree_seq (s : State) : (s.channelFree).seq = s.seq := rfl
@[simp] theorem State.channelFree_cache (s : State) : (s.channelFree).cache = s.cache := rfl
@[simp] theorem State.channelFree_monitor (s : State) : (s.channelFree).monitor = s.monitor := rfl
@[simp] theorem State.channelFree_unit (s : State) : (s.channelFree).unit = s.unit := rfl
@[simp] theorem State.channelFree_cart (s : State) : (s.channelFree).cart = s.cart := rfl
@[simp] theorem State.channelFree_freeDraws (s : State) : (s.channelFree).freeDraws = s.freeDraws := rfl

@[simp] theorem State.movedOut_pending (s : State) (a : Nat) (ws : List Word) : (s.movedOut a ws).pending = s.pending := rfl
@[simp] theorem State.movedOut_powered (s : State) (a : Nat) (ws : List Word) : (s.movedOut a ws).powered = s.powered := rfl
@[simp] theorem State.movedOut_pins (s : State) (a : Nat) (ws : List Word) : (s.movedOut a ws).pins = s.pins := rfl
@[simp] theorem State.movedOut_lines (s : State) (a : Nat) (ws : List Word) : (s.movedOut a ws).lines = s.lines := rfl
@[simp] theorem State.movedOut_drive (s : State) (a : Nat) (ws : List Word) : (s.movedOut a ws).drive = s.drive := rfl
@[simp] theorem State.movedOut_clock (s : State) (a : Nat) (ws : List Word) : (s.movedOut a ws).clock = s.clock := rfl
@[simp] theorem State.movedOut_identity (s : State) (a : Nat) (ws : List Word) : (s.movedOut a ws).identity = s.identity := rfl
@[simp] theorem State.movedOut_zones (s : State) (a : Nat) (ws : List Word) : (s.movedOut a ws).zones = s.zones := rfl
@[simp] theorem State.movedOut_queue (s : State) (a : Nat) (ws : List Word) : (s.movedOut a ws).queue = s.queue := rfl
@[simp] theorem State.movedOut_faults (s : State) (a : Nat) (ws : List Word) : (s.movedOut a ws).faults = s.faults := rfl
@[simp] theorem State.movedOut_access (s : State) (a : Nat) (ws : List Word) : (s.movedOut a ws).access = s.access := rfl
@[simp] theorem State.movedOut_seq (s : State) (a : Nat) (ws : List Word) : (s.movedOut a ws).seq = s.seq := rfl
@[simp] theorem State.movedOut_cache (s : State) (a : Nat) (ws : List Word) : (s.movedOut a ws).cache = s.cache := rfl
@[simp] theorem State.movedOut_monitor (s : State) (a : Nat) (ws : List Word) : (s.movedOut a ws).monitor = s.monitor := rfl
@[simp] theorem State.movedOut_unit (s : State) (a : Nat) (ws : List Word) : (s.movedOut a ws).unit = s.unit := rfl
@[simp] theorem State.movedOut_cart (s : State) (a : Nat) (ws : List Word) : (s.movedOut a ws).cart = s.cart := rfl
@[simp] theorem State.movedOut_freeDraws (s : State) (a : Nat) (ws : List Word) : (s.movedOut a ws).freeDraws = s.freeDraws := rfl

@[simp] theorem State.setEnables_pending (s : State) (c : Bool) (n : Bool) : (s.setEnables c n).pending = s.pending := rfl
@[simp] theorem State.setEnables_powered (s : State) (c : Bool) (n : Bool) : (s.setEnables c n).powered = s.powered := rfl
@[simp] theorem State.setEnables_pins (s : State) (c : Bool) (n : Bool) : (s.setEnables c n).pins = s.pins := rfl
@[simp] theorem State.setEnables_lines (s : State) (c : Bool) (n : Bool) : (s.setEnables c n).lines = s.lines := rfl
@[simp] theorem State.setEnables_drive (s : State) (c : Bool) (n : Bool) : (s.setEnables c n).drive = s.drive := rfl
@[simp] theorem State.setEnables_clock (s : State) (c : Bool) (n : Bool) : (s.setEnables c n).clock = s.clock := rfl
@[simp] theorem State.setEnables_identity (s : State) (c : Bool) (n : Bool) : (s.setEnables c n).identity = s.identity := rfl
@[simp] theorem State.setEnables_zones (s : State) (c : Bool) (n : Bool) : (s.setEnables c n).zones = s.zones := rfl
@[simp] theorem State.setEnables_queue (s : State) (c : Bool) (n : Bool) : (s.setEnables c n).queue = s.queue := rfl
@[simp] theorem State.setEnables_faults (s : State) (c : Bool) (n : Bool) : (s.setEnables c n).faults = s.faults := rfl
@[simp] theorem State.setEnables_access (s : State) (c : Bool) (n : Bool) : (s.setEnables c n).access = s.access := rfl
@[simp] theorem State.setEnables_seq (s : State) (c : Bool) (n : Bool) : (s.setEnables c n).seq = s.seq := rfl
@[simp] theorem State.setEnables_cache (s : State) (c : Bool) (n : Bool) : (s.setEnables c n).cache = s.cache := rfl
@[simp] theorem State.setEnables_monitor (s : State) (c : Bool) (n : Bool) : (s.setEnables c n).monitor = s.monitor := rfl
@[simp] theorem State.setEnables_unit (s : State) (c : Bool) (n : Bool) : (s.setEnables c n).unit = s.unit := rfl
@[simp] theorem State.setEnables_cart (s : State) (c : Bool) (n : Bool) : (s.setEnables c n).cart = s.cart := rfl
@[simp] theorem State.setEnables_freeDraws (s : State) (c : Bool) (n : Bool) : (s.setEnables c n).freeDraws = s.freeDraws := rfl

@[simp] theorem State.intakeRestarted_pending (s : State) : (s.intakeRestarted).pending = s.pending := rfl
@[simp] theorem State.intakeRestarted_powered (s : State) : (s.intakeRestarted).powered = s.powered := rfl
@[simp] theorem State.intakeRestarted_pins (s : State) : (s.intakeRestarted).pins = s.pins := rfl
@[simp] theorem State.intakeRestarted_lines (s : State) : (s.intakeRestarted).lines = s.lines := rfl
@[simp] theorem State.intakeRestarted_drive (s : State) : (s.intakeRestarted).drive = s.drive := rfl
@[simp] theorem State.intakeRestarted_clock (s : State) : (s.intakeRestarted).clock = s.clock := rfl
@[simp] theorem State.intakeRestarted_identity (s : State) : (s.intakeRestarted).identity = s.identity := rfl
@[simp] theorem State.intakeRestarted_zones (s : State) : (s.intakeRestarted).zones = s.zones := rfl
@[simp] theorem State.intakeRestarted_queue (s : State) : (s.intakeRestarted).queue = s.queue := rfl
@[simp] theorem State.intakeRestarted_faults (s : State) : (s.intakeRestarted).faults = s.faults := rfl
@[simp] theorem State.intakeRestarted_access (s : State) : (s.intakeRestarted).access = s.access := rfl
@[simp] theorem State.intakeRestarted_seq (s : State) : (s.intakeRestarted).seq = s.seq := rfl
@[simp] theorem State.intakeRestarted_cache (s : State) : (s.intakeRestarted).cache = s.cache := rfl
@[simp] theorem State.intakeRestarted_monitor (s : State) : (s.intakeRestarted).monitor = s.monitor := rfl
@[simp] theorem State.intakeRestarted_unit (s : State) : (s.intakeRestarted).unit = s.unit := rfl
@[simp] theorem State.intakeRestarted_cart (s : State) : (s.intakeRestarted).cart = s.cart := rfl
@[simp] theorem State.intakeRestarted_freeDraws (s : State) : (s.intakeRestarted).freeDraws = s.freeDraws := rfl

@[simp] theorem State.noticesWord_pending (s : State) : (s.noticesWord).pending = s.pending := rfl
@[simp] theorem State.noticesWord_powered (s : State) : (s.noticesWord).powered = s.powered := rfl
@[simp] theorem State.noticesWord_pins (s : State) : (s.noticesWord).pins = s.pins := rfl
@[simp] theorem State.noticesWord_lines (s : State) : (s.noticesWord).lines = s.lines := rfl
@[simp] theorem State.noticesWord_drive (s : State) : (s.noticesWord).drive = s.drive := rfl
@[simp] theorem State.noticesWord_clock (s : State) : (s.noticesWord).clock = s.clock := rfl
@[simp] theorem State.noticesWord_identity (s : State) : (s.noticesWord).identity = s.identity := rfl
@[simp] theorem State.noticesWord_zones (s : State) : (s.noticesWord).zones = s.zones := rfl
@[simp] theorem State.noticesWord_queue (s : State) : (s.noticesWord).queue = s.queue := rfl
@[simp] theorem State.noticesWord_faults (s : State) : (s.noticesWord).faults = s.faults := rfl
@[simp] theorem State.noticesWord_access (s : State) : (s.noticesWord).access = s.access := rfl
@[simp] theorem State.noticesWord_seq (s : State) : (s.noticesWord).seq = s.seq := rfl
@[simp] theorem State.noticesWord_cache (s : State) : (s.noticesWord).cache = s.cache := rfl
@[simp] theorem State.noticesWord_monitor (s : State) : (s.noticesWord).monitor = s.monitor := rfl
@[simp] theorem State.noticesWord_unit (s : State) : (s.noticesWord).unit = s.unit := rfl
@[simp] theorem State.noticesWord_cart (s : State) : (s.noticesWord).cart = s.cart := rfl
@[simp] theorem State.noticesWord_freeDraws (s : State) : (s.noticesWord).freeDraws = s.freeDraws := rfl

@[simp] theorem State.mapSeq_pending (s : State) (g : Sequencer → Sequencer) : (s.mapSeq g).pending = s.pending := rfl
@[simp] theorem State.mapSeq_powered (s : State) (g : Sequencer → Sequencer) : (s.mapSeq g).powered = s.powered := rfl
@[simp] theorem State.mapSeq_pins (s : State) (g : Sequencer → Sequencer) : (s.mapSeq g).pins = s.pins := rfl
@[simp] theorem State.mapSeq_lines (s : State) (g : Sequencer → Sequencer) : (s.mapSeq g).lines = s.lines := rfl
@[simp] theorem State.mapSeq_drive (s : State) (g : Sequencer → Sequencer) : (s.mapSeq g).drive = s.drive := rfl
@[simp] theorem State.mapSeq_clock (s : State) (g : Sequencer → Sequencer) : (s.mapSeq g).clock = s.clock := rfl
@[simp] theorem State.mapSeq_identity (s : State) (g : Sequencer → Sequencer) : (s.mapSeq g).identity = s.identity := rfl
@[simp] theorem State.mapSeq_zones (s : State) (g : Sequencer → Sequencer) : (s.mapSeq g).zones = s.zones := rfl
@[simp] theorem State.mapSeq_port (s : State) (g : Sequencer → Sequencer) : (s.mapSeq g).port = s.port := rfl
@[simp] theorem State.mapSeq_queue (s : State) (g : Sequencer → Sequencer) : (s.mapSeq g).queue = s.queue := rfl
@[simp] theorem State.mapSeq_faults (s : State) (g : Sequencer → Sequencer) : (s.mapSeq g).faults = s.faults := rfl
@[simp] theorem State.mapSeq_access (s : State) (g : Sequencer → Sequencer) : (s.mapSeq g).access = s.access := rfl
@[simp] theorem State.mapSeq_cache (s : State) (g : Sequencer → Sequencer) : (s.mapSeq g).cache = s.cache := rfl
@[simp] theorem State.mapSeq_monitor (s : State) (g : Sequencer → Sequencer) : (s.mapSeq g).monitor = s.monitor := rfl
@[simp] theorem State.mapSeq_unit (s : State) (g : Sequencer → Sequencer) : (s.mapSeq g).unit = s.unit := rfl
@[simp] theorem State.mapSeq_cart (s : State) (g : Sequencer → Sequencer) : (s.mapSeq g).cart = s.cart := rfl
@[simp] theorem State.mapSeq_freeDraws (s : State) (g : Sequencer → Sequencer) : (s.mapSeq g).freeDraws = s.freeDraws := rfl

@[simp] theorem State.closeGates_pending (s : State) : (s.closeGates).pending = s.pending := rfl
@[simp] theorem State.closeGates_powered (s : State) : (s.closeGates).powered = s.powered := rfl
@[simp] theorem State.closeGates_pins (s : State) : (s.closeGates).pins = s.pins := rfl
@[simp] theorem State.closeGates_lines (s : State) : (s.closeGates).lines = s.lines := rfl
@[simp] theorem State.closeGates_clock (s : State) : (s.closeGates).clock = s.clock := rfl
@[simp] theorem State.closeGates_identity (s : State) : (s.closeGates).identity = s.identity := rfl
@[simp] theorem State.closeGates_zones (s : State) : (s.closeGates).zones = s.zones := rfl
@[simp] theorem State.closeGates_port (s : State) : (s.closeGates).port = s.port := rfl
@[simp] theorem State.closeGates_queue (s : State) : (s.closeGates).queue = s.queue := rfl
@[simp] theorem State.closeGates_faults (s : State) : (s.closeGates).faults = s.faults := rfl
@[simp] theorem State.closeGates_access (s : State) : (s.closeGates).access = s.access := rfl
@[simp] theorem State.closeGates_seq (s : State) : (s.closeGates).seq = s.seq := rfl
@[simp] theorem State.closeGates_cache (s : State) : (s.closeGates).cache = s.cache := rfl
@[simp] theorem State.closeGates_monitor (s : State) : (s.closeGates).monitor = s.monitor := rfl
@[simp] theorem State.closeGates_unit (s : State) : (s.closeGates).unit = s.unit := rfl
@[simp] theorem State.closeGates_cart (s : State) : (s.closeGates).cart = s.cart := rfl
@[simp] theorem State.closeGates_freeDraws (s : State) : (s.closeGates).freeDraws = s.freeDraws := rfl

@[simp] theorem State.seqIdle_pending (s : State) : (s.seqIdle).pending = s.pending := rfl
@[simp] theorem State.seqIdle_powered (s : State) : (s.seqIdle).powered = s.powered := rfl
@[simp] theorem State.seqIdle_pins (s : State) : (s.seqIdle).pins = s.pins := rfl
@[simp] theorem State.seqIdle_lines (s : State) : (s.seqIdle).lines = s.lines := rfl
@[simp] theorem State.seqIdle_clock (s : State) : (s.seqIdle).clock = s.clock := rfl
@[simp] theorem State.seqIdle_identity (s : State) : (s.seqIdle).identity = s.identity := rfl
@[simp] theorem State.seqIdle_zones (s : State) : (s.seqIdle).zones = s.zones := rfl
@[simp] theorem State.seqIdle_port (s : State) : (s.seqIdle).port = s.port := rfl
@[simp] theorem State.seqIdle_queue (s : State) : (s.seqIdle).queue = s.queue := rfl
@[simp] theorem State.seqIdle_faults (s : State) : (s.seqIdle).faults = s.faults := rfl
@[simp] theorem State.seqIdle_access (s : State) : (s.seqIdle).access = s.access := rfl
@[simp] theorem State.seqIdle_cache (s : State) : (s.seqIdle).cache = s.cache := rfl
@[simp] theorem State.seqIdle_monitor (s : State) : (s.seqIdle).monitor = s.monitor := rfl
@[simp] theorem State.seqIdle_unit (s : State) : (s.seqIdle).unit = s.unit := rfl
@[simp] theorem State.seqIdle_cart (s : State) : (s.seqIdle).cart = s.cart := rfl
@[simp] theorem State.seqIdle_freeDraws (s : State) : (s.seqIdle).freeDraws = s.freeDraws := rfl

@[simp] theorem State.lineInactive_pending (s : State) : (s.lineInactive).pending = s.pending := rfl
@[simp] theorem State.lineInactive_powered (s : State) : (s.lineInactive).powered = s.powered := rfl
@[simp] theorem State.lineInactive_pins (s : State) : (s.lineInactive).pins = s.pins := rfl
@[simp] theorem State.lineInactive_lines (s : State) : (s.lineInactive).lines = s.lines := rfl
@[simp] theorem State.lineInactive_clock (s : State) : (s.lineInactive).clock = s.clock := rfl
@[simp] theorem State.lineInactive_identity (s : State) : (s.lineInactive).identity = s.identity := rfl
@[simp] theorem State.lineInactive_zones (s : State) : (s.lineInactive).zones = s.zones := rfl
@[simp] theorem State.lineInactive_port (s : State) : (s.lineInactive).port = s.port := rfl
@[simp] theorem State.lineInactive_queue (s : State) : (s.lineInactive).queue = s.queue := rfl
@[simp] theorem State.lineInactive_faults (s : State) : (s.lineInactive).faults = s.faults := rfl
@[simp] theorem State.lineInactive_access (s : State) : (s.lineInactive).access = s.access := rfl
@[simp] theorem State.lineInactive_seq (s : State) : (s.lineInactive).seq = s.seq := rfl
@[simp] theorem State.lineInactive_cache (s : State) : (s.lineInactive).cache = s.cache := rfl
@[simp] theorem State.lineInactive_monitor (s : State) : (s.lineInactive).monitor = s.monitor := rfl
@[simp] theorem State.lineInactive_unit (s : State) : (s.lineInactive).unit = s.unit := rfl
@[simp] theorem State.lineInactive_cart (s : State) : (s.lineInactive).cart = s.cart := rfl
@[simp] theorem State.lineInactive_freeDraws (s : State) : (s.lineInactive).freeDraws = s.freeDraws := rfl

@[simp] theorem State.mapMonitor_pending (s : State) (g : Monitor → Monitor) : (s.mapMonitor g).pending = s.pending := rfl
@[simp] theorem State.mapMonitor_powered (s : State) (g : Monitor → Monitor) : (s.mapMonitor g).powered = s.powered := rfl
@[simp] theorem State.mapMonitor_pins (s : State) (g : Monitor → Monitor) : (s.mapMonitor g).pins = s.pins := rfl
@[simp] theorem State.mapMonitor_lines (s : State) (g : Monitor → Monitor) : (s.mapMonitor g).lines = s.lines := rfl
@[simp] theorem State.mapMonitor_drive (s : State) (g : Monitor → Monitor) : (s.mapMonitor g).drive = s.drive := rfl
@[simp] theorem State.mapMonitor_clock (s : State) (g : Monitor → Monitor) : (s.mapMonitor g).clock = s.clock := rfl
@[simp] theorem State.mapMonitor_identity (s : State) (g : Monitor → Monitor) : (s.mapMonitor g).identity = s.identity := rfl
@[simp] theorem State.mapMonitor_zones (s : State) (g : Monitor → Monitor) : (s.mapMonitor g).zones = s.zones := rfl
@[simp] theorem State.mapMonitor_port (s : State) (g : Monitor → Monitor) : (s.mapMonitor g).port = s.port := rfl
@[simp] theorem State.mapMonitor_queue (s : State) (g : Monitor → Monitor) : (s.mapMonitor g).queue = s.queue := rfl
@[simp] theorem State.mapMonitor_faults (s : State) (g : Monitor → Monitor) : (s.mapMonitor g).faults = s.faults := rfl
@[simp] theorem State.mapMonitor_access (s : State) (g : Monitor → Monitor) : (s.mapMonitor g).access = s.access := rfl
@[simp] theorem State.mapMonitor_seq (s : State) (g : Monitor → Monitor) : (s.mapMonitor g).seq = s.seq := rfl
@[simp] theorem State.mapMonitor_cache (s : State) (g : Monitor → Monitor) : (s.mapMonitor g).cache = s.cache := rfl
@[simp] theorem State.mapMonitor_unit (s : State) (g : Monitor → Monitor) : (s.mapMonitor g).unit = s.unit := rfl
@[simp] theorem State.mapMonitor_cart (s : State) (g : Monitor → Monitor) : (s.mapMonitor g).cart = s.cart := rfl
@[simp] theorem State.mapMonitor_freeDraws (s : State) (g : Monitor → Monitor) : (s.mapMonitor g).freeDraws = s.freeDraws := rfl

@[simp] theorem State.armUnknown_pending (s : State) : (s.armUnknown).pending = s.pending := rfl
@[simp] theorem State.armUnknown_powered (s : State) : (s.armUnknown).powered = s.powered := rfl
@[simp] theorem State.armUnknown_pins (s : State) : (s.armUnknown).pins = s.pins := rfl
@[simp] theorem State.armUnknown_lines (s : State) : (s.armUnknown).lines = s.lines := rfl
@[simp] theorem State.armUnknown_drive (s : State) : (s.armUnknown).drive = s.drive := rfl
@[simp] theorem State.armUnknown_clock (s : State) : (s.armUnknown).clock = s.clock := rfl
@[simp] theorem State.armUnknown_identity (s : State) : (s.armUnknown).identity = s.identity := rfl
@[simp] theorem State.armUnknown_zones (s : State) : (s.armUnknown).zones = s.zones := rfl
@[simp] theorem State.armUnknown_port (s : State) : (s.armUnknown).port = s.port := rfl
@[simp] theorem State.armUnknown_queue (s : State) : (s.armUnknown).queue = s.queue := rfl
@[simp] theorem State.armUnknown_faults (s : State) : (s.armUnknown).faults = s.faults := rfl
@[simp] theorem State.armUnknown_access (s : State) : (s.armUnknown).access = s.access := rfl
@[simp] theorem State.armUnknown_seq (s : State) : (s.armUnknown).seq = s.seq := rfl
@[simp] theorem State.armUnknown_cache (s : State) : (s.armUnknown).cache = s.cache := rfl
@[simp] theorem State.armUnknown_unit (s : State) : (s.armUnknown).unit = s.unit := rfl
@[simp] theorem State.armUnknown_cart (s : State) : (s.armUnknown).cart = s.cart := rfl
@[simp] theorem State.armUnknown_freeDraws (s : State) : (s.armUnknown).freeDraws = s.freeDraws := rfl

@[simp] theorem State.mapAccess_pending (s : State) (g : Access → Access) : (s.mapAccess g).pending = s.pending := rfl
@[simp] theorem State.mapAccess_powered (s : State) (g : Access → Access) : (s.mapAccess g).powered = s.powered := rfl
@[simp] theorem State.mapAccess_pins (s : State) (g : Access → Access) : (s.mapAccess g).pins = s.pins := rfl
@[simp] theorem State.mapAccess_lines (s : State) (g : Access → Access) : (s.mapAccess g).lines = s.lines := rfl
@[simp] theorem State.mapAccess_drive (s : State) (g : Access → Access) : (s.mapAccess g).drive = s.drive := rfl
@[simp] theorem State.mapAccess_clock (s : State) (g : Access → Access) : (s.mapAccess g).clock = s.clock := rfl
@[simp] theorem State.mapAccess_identity (s : State) (g : Access → Access) : (s.mapAccess g).identity = s.identity := rfl
@[simp] theorem State.mapAccess_zones (s : State) (g : Access → Access) : (s.mapAccess g).zones = s.zones := rfl
@[simp] theorem State.mapAccess_port (s : State) (g : Access → Access) : (s.mapAccess g).port = s.port := rfl
@[simp] theorem State.mapAccess_queue (s : State) (g : Access → Access) : (s.mapAccess g).queue = s.queue := rfl
@[simp] theorem State.mapAccess_faults (s : State) (g : Access → Access) : (s.mapAccess g).faults = s.faults := rfl
@[simp] theorem State.mapAccess_seq (s : State) (g : Access → Access) : (s.mapAccess g).seq = s.seq := rfl
@[simp] theorem State.mapAccess_cache (s : State) (g : Access → Access) : (s.mapAccess g).cache = s.cache := rfl
@[simp] theorem State.mapAccess_monitor (s : State) (g : Access → Access) : (s.mapAccess g).monitor = s.monitor := rfl
@[simp] theorem State.mapAccess_unit (s : State) (g : Access → Access) : (s.mapAccess g).unit = s.unit := rfl
@[simp] theorem State.mapAccess_cart (s : State) (g : Access → Access) : (s.mapAccess g).cart = s.cart := rfl
@[simp] theorem State.mapAccess_freeDraws (s : State) (g : Access → Access) : (s.mapAccess g).freeDraws = s.freeDraws := rfl

@[simp] theorem State.dropRound_pending (s : State) : (s.dropRound).pending = s.pending := rfl
@[simp] theorem State.dropRound_powered (s : State) : (s.dropRound).powered = s.powered := rfl
@[simp] theorem State.dropRound_pins (s : State) : (s.dropRound).pins = s.pins := rfl
@[simp] theorem State.dropRound_drive (s : State) : (s.dropRound).drive = s.drive := rfl
@[simp] theorem State.dropRound_clock (s : State) : (s.dropRound).clock = s.clock := rfl
@[simp] theorem State.dropRound_identity (s : State) : (s.dropRound).identity = s.identity := rfl
@[simp] theorem State.dropRound_zones (s : State) : (s.dropRound).zones = s.zones := rfl
@[simp] theorem State.dropRound_port (s : State) : (s.dropRound).port = s.port := rfl
@[simp] theorem State.dropRound_queue (s : State) : (s.dropRound).queue = s.queue := rfl
@[simp] theorem State.dropRound_faults (s : State) : (s.dropRound).faults = s.faults := rfl
@[simp] theorem State.dropRound_access (s : State) : (s.dropRound).access = s.access := rfl
@[simp] theorem State.dropRound_seq (s : State) : (s.dropRound).seq = s.seq := rfl
@[simp] theorem State.dropRound_cache (s : State) : (s.dropRound).cache = s.cache := rfl
@[simp] theorem State.dropRound_monitor (s : State) : (s.dropRound).monitor = s.monitor := rfl
@[simp] theorem State.dropRound_unit (s : State) : (s.dropRound).unit = s.unit := rfl
@[simp] theorem State.dropRound_cart (s : State) : (s.dropRound).cart = s.cart := rfl
@[simp] theorem State.dropRound_freeDraws (s : State) : (s.dropRound).freeDraws = s.freeDraws := rfl

@[simp] theorem State.startTimer_pending (s : State) : (s.startTimer).pending = s.pending := rfl
@[simp] theorem State.startTimer_powered (s : State) : (s.startTimer).powered = s.powered := rfl
@[simp] theorem State.startTimer_pins (s : State) : (s.startTimer).pins = s.pins := rfl
@[simp] theorem State.startTimer_lines (s : State) : (s.startTimer).lines = s.lines := rfl
@[simp] theorem State.startTimer_drive (s : State) : (s.startTimer).drive = s.drive := rfl
@[simp] theorem State.startTimer_clock (s : State) : (s.startTimer).clock = s.clock := rfl
@[simp] theorem State.startTimer_identity (s : State) : (s.startTimer).identity = s.identity := rfl
@[simp] theorem State.startTimer_zones (s : State) : (s.startTimer).zones = s.zones := rfl
@[simp] theorem State.startTimer_port (s : State) : (s.startTimer).port = s.port := rfl
@[simp] theorem State.startTimer_queue (s : State) : (s.startTimer).queue = s.queue := rfl
@[simp] theorem State.startTimer_faults (s : State) : (s.startTimer).faults = s.faults := rfl
@[simp] theorem State.startTimer_access (s : State) : (s.startTimer).access = s.access := rfl
@[simp] theorem State.startTimer_seq (s : State) : (s.startTimer).seq = s.seq := rfl
@[simp] theorem State.startTimer_cache (s : State) : (s.startTimer).cache = s.cache := rfl
@[simp] theorem State.startTimer_monitor (s : State) : (s.startTimer).monitor = s.monitor := rfl
@[simp] theorem State.startTimer_unit (s : State) : (s.startTimer).unit = s.unit := rfl
@[simp] theorem State.startTimer_freeDraws (s : State) : (s.startTimer).freeDraws = s.freeDraws := rfl

@[simp] theorem State.enterReleased_pending (s : State) : (s.enterReleased).pending = s.pending := rfl
@[simp] theorem State.enterReleased_powered (s : State) : (s.enterReleased).powered = s.powered := rfl
@[simp] theorem State.enterReleased_pins (s : State) : (s.enterReleased).pins = s.pins := rfl
@[simp] theorem State.enterReleased_drive (s : State) : (s.enterReleased).drive = s.drive := rfl
@[simp] theorem State.enterReleased_clock (s : State) : (s.enterReleased).clock = s.clock := rfl
@[simp] theorem State.enterReleased_identity (s : State) : (s.enterReleased).identity = s.identity := rfl
@[simp] theorem State.enterReleased_zones (s : State) : (s.enterReleased).zones = s.zones := rfl
@[simp] theorem State.enterReleased_port (s : State) : (s.enterReleased).port = s.port := rfl
@[simp] theorem State.enterReleased_queue (s : State) : (s.enterReleased).queue = s.queue := rfl
@[simp] theorem State.enterReleased_faults (s : State) : (s.enterReleased).faults = s.faults := rfl
@[simp] theorem State.enterReleased_access (s : State) : (s.enterReleased).access = s.access := rfl
@[simp] theorem State.enterReleased_seq (s : State) : (s.enterReleased).seq = s.seq := rfl
@[simp] theorem State.enterReleased_cache (s : State) : (s.enterReleased).cache = s.cache := rfl
@[simp] theorem State.enterReleased_monitor (s : State) : (s.enterReleased).monitor = s.monitor := rfl
@[simp] theorem State.enterReleased_unit (s : State) : (s.enterReleased).unit = s.unit := rfl
@[simp] theorem State.enterReleased_freeDraws (s : State) : (s.enterReleased).freeDraws = s.freeDraws := rfl

@[simp] theorem State.enterLoading_pending (s : State) : (s.enterLoading).pending = s.pending := rfl
@[simp] theorem State.enterLoading_powered (s : State) : (s.enterLoading).powered = s.powered := rfl
@[simp] theorem State.enterLoading_pins (s : State) : (s.enterLoading).pins = s.pins := rfl
@[simp] theorem State.enterLoading_lines (s : State) : (s.enterLoading).lines = s.lines := rfl
@[simp] theorem State.enterLoading_drive (s : State) : (s.enterLoading).drive = s.drive := rfl
@[simp] theorem State.enterLoading_clock (s : State) : (s.enterLoading).clock = s.clock := rfl
@[simp] theorem State.enterLoading_identity (s : State) : (s.enterLoading).identity = s.identity := rfl
@[simp] theorem State.enterLoading_zones (s : State) : (s.enterLoading).zones = s.zones := rfl
@[simp] theorem State.enterLoading_port (s : State) : (s.enterLoading).port = s.port := rfl
@[simp] theorem State.enterLoading_queue (s : State) : (s.enterLoading).queue = s.queue := rfl
@[simp] theorem State.enterLoading_faults (s : State) : (s.enterLoading).faults = s.faults := rfl
@[simp] theorem State.enterLoading_access (s : State) : (s.enterLoading).access = s.access := rfl
@[simp] theorem State.enterLoading_seq (s : State) : (s.enterLoading).seq = s.seq := rfl
@[simp] theorem State.enterLoading_monitor (s : State) : (s.enterLoading).monitor = s.monitor := rfl
@[simp] theorem State.enterLoading_unit (s : State) : (s.enterLoading).unit = s.unit := rfl
@[simp] theorem State.enterLoading_freeDraws (s : State) : (s.enterLoading).freeDraws = s.freeDraws := rfl

@[simp] theorem State.takeUnidentified_pending (s : State) : (s.takeUnidentified).pending = s.pending := rfl
@[simp] theorem State.takeUnidentified_powered (s : State) : (s.takeUnidentified).powered = s.powered := rfl
@[simp] theorem State.takeUnidentified_pins (s : State) : (s.takeUnidentified).pins = s.pins := rfl
@[simp] theorem State.takeUnidentified_lines (s : State) : (s.takeUnidentified).lines = s.lines := rfl
@[simp] theorem State.takeUnidentified_drive (s : State) : (s.takeUnidentified).drive = s.drive := rfl
@[simp] theorem State.takeUnidentified_clock (s : State) : (s.takeUnidentified).clock = s.clock := rfl
@[simp] theorem State.takeUnidentified_identity (s : State) : (s.takeUnidentified).identity = s.identity := rfl
@[simp] theorem State.takeUnidentified_zones (s : State) : (s.takeUnidentified).zones = s.zones := rfl
@[simp] theorem State.takeUnidentified_port (s : State) : (s.takeUnidentified).port = s.port := rfl
@[simp] theorem State.takeUnidentified_queue (s : State) : (s.takeUnidentified).queue = s.queue := rfl
@[simp] theorem State.takeUnidentified_faults (s : State) : (s.takeUnidentified).faults = s.faults := rfl
@[simp] theorem State.takeUnidentified_seq (s : State) : (s.takeUnidentified).seq = s.seq := rfl
@[simp] theorem State.takeUnidentified_cache (s : State) : (s.takeUnidentified).cache = s.cache := rfl
@[simp] theorem State.takeUnidentified_unit (s : State) : (s.takeUnidentified).unit = s.unit := rfl
@[simp] theorem State.takeUnidentified_cart (s : State) : (s.takeUnidentified).cart = s.cart := rfl
@[simp] theorem State.takeUnidentified_freeDraws (s : State) : (s.takeUnidentified).freeDraws = s.freeDraws := rfl

@[simp] theorem State.peerTenureBegins_pending (s : State) : (s.peerTenureBegins).pending = s.pending := rfl
@[simp] theorem State.peerTenureBegins_powered (s : State) : (s.peerTenureBegins).powered = s.powered := rfl
@[simp] theorem State.peerTenureBegins_pins (s : State) : (s.peerTenureBegins).pins = s.pins := rfl
@[simp] theorem State.peerTenureBegins_lines (s : State) : (s.peerTenureBegins).lines = s.lines := rfl
@[simp] theorem State.peerTenureBegins_drive (s : State) : (s.peerTenureBegins).drive = s.drive := rfl
@[simp] theorem State.peerTenureBegins_clock (s : State) : (s.peerTenureBegins).clock = s.clock := rfl
@[simp] theorem State.peerTenureBegins_identity (s : State) : (s.peerTenureBegins).identity = s.identity := rfl
@[simp] theorem State.peerTenureBegins_zones (s : State) : (s.peerTenureBegins).zones = s.zones := rfl
@[simp] theorem State.peerTenureBegins_port (s : State) : (s.peerTenureBegins).port = s.port := rfl
@[simp] theorem State.peerTenureBegins_queue (s : State) : (s.peerTenureBegins).queue = s.queue := rfl
@[simp] theorem State.peerTenureBegins_faults (s : State) : (s.peerTenureBegins).faults = s.faults := rfl
@[simp] theorem State.peerTenureBegins_seq (s : State) : (s.peerTenureBegins).seq = s.seq := rfl
@[simp] theorem State.peerTenureBegins_cache (s : State) : (s.peerTenureBegins).cache = s.cache := rfl
@[simp] theorem State.peerTenureBegins_unit (s : State) : (s.peerTenureBegins).unit = s.unit := rfl
@[simp] theorem State.peerTenureBegins_cart (s : State) : (s.peerTenureBegins).cart = s.cart := rfl
@[simp] theorem State.peerTenureBegins_freeDraws (s : State) : (s.peerTenureBegins).freeDraws = s.freeDraws := rfl

@[simp] theorem State.setFrame_store (s : State) (f : Nat) (fr : Frame) : (s.setFrame f fr).cache.store = s.cache.store := rfl
@[simp] theorem State.setFrame_lru (s : State) (f : Nat) (fr : Frame) : (s.setFrame f fr).cache.lru = s.cache.lru := rfl
@[simp] theorem State.setFrame_refresh (s : State) (f : Nat) (fr : Frame) : (s.setFrame f fr).cache.refresh = s.cache.refresh := rfl
@[simp] theorem State.setFrame_frames (s : State) (f : Nat) (fr : Frame) : (s.setFrame f fr).cache.frames = s.cache.frames.set f fr := rfl
@[simp] theorem State.touch_frames (s : State) (f : Nat) : (s.touch f).cache.frames = s.cache.frames := rfl
@[simp] theorem State.touch_store (s : State) (f : Nat) : (s.touch f).cache.store = s.cache.store := rfl
@[simp] theorem State.leaveLru_frames (s : State) (f : Nat) : (s.leaveLru f).cache.frames = s.cache.frames := rfl
@[simp] theorem State.leaveLru_store (s : State) (f : Nat) : (s.leaveLru f).cache.store = s.cache.store := rfl
@[simp] theorem State.leaveRefresh_frames (s : State) (f : Nat) : (s.leaveRefresh f).cache.frames = s.cache.frames := rfl
@[simp] theorem State.leaveRefresh_store (s : State) (f : Nat) : (s.leaveRefresh f).cache.store = s.cache.store := rfl
@[simp] theorem State.putWords_frames (s : State) (f : Nat) (ws : List Word) : (s.putWords f ws).cache.frames = s.cache.frames := rfl
@[simp] theorem State.putWords_store (s : State) (f : Nat) (ws : List Word) :
    (s.putWords f ws).cache.store = writeFrame s.cache.store f ws := rfl
@[simp] theorem State.place_fifo (s : State) (c : Completion) : (s.place c).port.fifo = s.port.fifo ++ [c] := rfl
@[simp] theorem State.queueJob_jobs (s : State) (j : Job) : (s.queueJob j).port.jobs = s.port.jobs ++ [j] := rfl
@[simp] theorem State.modify_finished (s : State) (id : Nat) (g : Request → Request) :
    (s.modify id g).queue.finished = s.queue.finished := rfl
@[simp] theorem State.modify_nextId (s : State) (id : Nat) (g : Request → Request) : (s.modify id g).queue.nextId = s.queue.nextId := rfl
@[simp] theorem State.insert_held (s : State) (r : Request) : (s.insert r).queue.held = s.queue.held ++ [r] := rfl
@[simp] theorem State.mapSeq_seq (s : State) (g : Sequencer → Sequencer) : (s.mapSeq g).seq = g s.seq := rfl
@[simp] theorem State.mapMonitor_monitor (s : State) (g : Monitor → Monitor) : (s.mapMonitor g).monitor = g s.monitor := rfl
@[simp] theorem State.mapAccess_access (s : State) (g : Access → Access) : (s.mapAccess g).access = g s.access := rfl

end Sys2Proof.Machine
end

