-- ==== Sys2Proof/Laws/Frames.lean ====
section
/-! SUPPORT. Frames: the blocks of the station that each shared operation leaves as they stand. -/

namespace Sys2Proof.Machine

/-- A run of steps that each keep a reading of the state keeps it. -/
theorem foldl_keeps {α β : Type} (P : State → β) (g : State → α → State) (h : ∀ t x, P (g t x) = P t) (l : List α) (s : State) :
    P (l.foldl g s) = P s := by
  induction l generalizing s with
  | nil => rfl
  | cons x xs ih => rw [List.foldl_cons, ih, h]

@[simp] theorem State.raise_pending (s : State) (n : Notice) : (s.raise n).pending = s.pending :=
  by unfold State.raise; split <;> rfl
@[simp] theorem State.raise_powered (s : State) (n : Notice) : (s.raise n).powered = s.powered :=
  by unfold State.raise; split <;> rfl
@[simp] theorem State.raise_pins (s : State) (n : Notice) : (s.raise n).pins = s.pins :=
  by unfold State.raise; split <;> rfl
@[simp] theorem State.raise_lines (s : State) (n : Notice) : (s.raise n).lines = s.lines :=
  by unfold State.raise; split <;> rfl
@[simp] theorem State.raise_drive (s : State) (n : Notice) : (s.raise n).drive = s.drive :=
  by unfold State.raise; split <;> rfl
@[simp] theorem State.raise_clock (s : State) (n : Notice) : (s.raise n).clock = s.clock :=
  by unfold State.raise; split <;> rfl
@[simp] theorem State.raise_identity (s : State) (n : Notice) : (s.raise n).identity = s.identity :=
  by unfold State.raise; split <;> rfl
@[simp] theorem State.raise_zones (s : State) (n : Notice) : (s.raise n).zones = s.zones :=
  by unfold State.raise; split <;> rfl
@[simp] theorem State.raise_queue (s : State) (n : Notice) : (s.raise n).queue = s.queue :=
  by unfold State.raise; split <;> rfl
@[simp] theorem State.raise_faults (s : State) (n : Notice) : (s.raise n).faults = s.faults :=
  by unfold State.raise; split <;> rfl
@[simp] theorem State.raise_access (s : State) (n : Notice) : (s.raise n).access = s.access :=
  by unfold State.raise; split <;> rfl
@[simp] theorem State.raise_seq (s : State) (n : Notice) : (s.raise n).seq = s.seq :=
  by unfold State.raise; split <;> rfl
@[simp] theorem State.raise_cache (s : State) (n : Notice) : (s.raise n).cache = s.cache :=
  by unfold State.raise; split <;> rfl
@[simp] theorem State.raise_monitor (s : State) (n : Notice) : (s.raise n).monitor = s.monitor :=
  by unfold State.raise; split <;> rfl
@[simp] theorem State.raise_unit (s : State) (n : Notice) : (s.raise n).unit = s.unit :=
  by unfold State.raise; split <;> rfl
@[simp] theorem State.raise_cart (s : State) (n : Notice) : (s.raise n).cart = s.cart :=
  by unfold State.raise; split <;> rfl
@[simp] theorem State.raise_freeDraws (s : State) (n : Notice) : (s.raise n).freeDraws = s.freeDraws :=
  by unfold State.raise; split <;> rfl

@[simp] theorem State.raiseIf_pending (s : State) (c : Bool) (n : Notice) : (s.raiseIf c n).pending = s.pending :=
  by unfold State.raiseIf; split <;> simp
@[simp] theorem State.raiseIf_powered (s : State) (c : Bool) (n : Notice) : (s.raiseIf c n).powered = s.powered :=
  by unfold State.raiseIf; split <;> simp
@[simp] theorem State.raiseIf_pins (s : State) (c : Bool) (n : Notice) : (s.raiseIf c n).pins = s.pins :=
  by unfold State.raiseIf; split <;> simp
@[simp] theorem State.raiseIf_lines (s : State) (c : Bool) (n : Notice) : (s.raiseIf c n).lines = s.lines :=
  by unfold State.raiseIf; split <;> simp
@[simp] theorem State.raiseIf_drive (s : State) (c : Bool) (n : Notice) : (s.raiseIf c n).drive = s.drive :=
  by unfold State.raiseIf; split <;> simp
@[simp] theorem State.raiseIf_clock (s : State) (c : Bool) (n : Notice) : (s.raiseIf c n).clock = s.clock :=
  by unfold State.raiseIf; split <;> simp
@[simp] theorem State.raiseIf_identity (s : State) (c : Bool) (n : Notice) : (s.raiseIf c n).identity = s.identity :=
  by unfold State.raiseIf; split <;> simp
@[simp] theorem State.raiseIf_zones (s : State) (c : Bool) (n : Notice) : (s.raiseIf c n).zones = s.zones :=
  by unfold State.raiseIf; split <;> simp
@[simp] theorem State.raiseIf_queue (s : State) (c : Bool) (n : Notice) : (s.raiseIf c n).queue = s.queue :=
  by unfold State.raiseIf; split <;> simp
@[simp] theorem State.raiseIf_faults (s : State) (c : Bool) (n : Notice) : (s.raiseIf c n).faults = s.faults :=
  by unfold State.raiseIf; split <;> simp
@[simp] theorem State.raiseIf_access (s : State) (c : Bool) (n : Notice) : (s.raiseIf c n).access = s.access :=
  by unfold State.raiseIf; split <;> simp
@[simp] theorem State.raiseIf_seq (s : State) (c : Bool) (n : Notice) : (s.raiseIf c n).seq = s.seq :=
  by unfold State.raiseIf; split <;> simp
@[simp] theorem State.raiseIf_cache (s : State) (c : Bool) (n : Notice) : (s.raiseIf c n).cache = s.cache :=
  by unfold State.raiseIf; split <;> simp
@[simp] theorem State.raiseIf_monitor (s : State) (c : Bool) (n : Notice) : (s.raiseIf c n).monitor = s.monitor :=
  by unfold State.raiseIf; split <;> simp
@[simp] theorem State.raiseIf_unit (s : State) (c : Bool) (n : Notice) : (s.raiseIf c n).unit = s.unit :=
  by unfold State.raiseIf; split <;> simp
@[simp] theorem State.raiseIf_cart (s : State) (c : Bool) (n : Notice) : (s.raiseIf c n).cart = s.cart :=
  by unfold State.raiseIf; split <;> simp
@[simp] theorem State.raiseIf_freeDraws (s : State) (c : Bool) (n : Notice) : (s.raiseIf c n).freeDraws = s.freeDraws :=
  by unfold State.raiseIf; split <;> simp

@[simp] theorem State.countRetry_pending (s : State) : (s.countRetry).pending = s.pending :=
  by unfold State.countRetry; simp
@[simp] theorem State.countRetry_powered (s : State) : (s.countRetry).powered = s.powered :=
  by unfold State.countRetry; simp
@[simp] theorem State.countRetry_pins (s : State) : (s.countRetry).pins = s.pins :=
  by unfold State.countRetry; simp
@[simp] theorem State.countRetry_lines (s : State) : (s.countRetry).lines = s.lines :=
  by unfold State.countRetry; simp
@[simp] theorem State.countRetry_drive (s : State) : (s.countRetry).drive = s.drive :=
  by unfold State.countRetry; simp
@[simp] theorem State.countRetry_clock (s : State) : (s.countRetry).clock = s.clock :=
  by unfold State.countRetry; simp
@[simp] theorem State.countRetry_identity (s : State) : (s.countRetry).identity = s.identity :=
  by unfold State.countRetry; simp
@[simp] theorem State.countRetry_zones (s : State) : (s.countRetry).zones = s.zones :=
  by unfold State.countRetry; simp
@[simp] theorem State.countRetry_queue (s : State) : (s.countRetry).queue = s.queue :=
  by unfold State.countRetry; simp
@[simp] theorem State.countRetry_access (s : State) : (s.countRetry).access = s.access :=
  by unfold State.countRetry; simp
@[simp] theorem State.countRetry_seq (s : State) : (s.countRetry).seq = s.seq :=
  by unfold State.countRetry; simp
@[simp] theorem State.countRetry_cache (s : State) : (s.countRetry).cache = s.cache :=
  by unfold State.countRetry; simp
@[simp] theorem State.countRetry_monitor (s : State) : (s.countRetry).monitor = s.monitor :=
  by unfold State.countRetry; simp
@[simp] theorem State.countRetry_unit (s : State) : (s.countRetry).unit = s.unit :=
  by unfold State.countRetry; simp
@[simp] theorem State.countRetry_cart (s : State) : (s.countRetry).cart = s.cart :=
  by unfold State.countRetry; simp
@[simp] theorem State.countRetry_freeDraws (s : State) : (s.countRetry).freeDraws = s.freeDraws :=
  by unfold State.countRetry; simp

@[simp] theorem State.countCollide_pending (s : State) : (s.countCollide).pending = s.pending :=
  by unfold State.countCollide; simp
@[simp] theorem State.countCollide_powered (s : State) : (s.countCollide).powered = s.powered :=
  by unfold State.countCollide; simp
@[simp] theorem State.countCollide_pins (s : State) : (s.countCollide).pins = s.pins :=
  by unfold State.countCollide; simp
@[simp] theorem State.countCollide_lines (s : State) : (s.countCollide).lines = s.lines :=
  by unfold State.countCollide; simp
@[simp] theorem State.countCollide_drive (s : State) : (s.countCollide).drive = s.drive :=
  by unfold State.countCollide; simp
@[simp] theorem State.countCollide_clock (s : State) : (s.countCollide).clock = s.clock :=
  by unfold State.countCollide; simp
@[simp] theorem State.countCollide_identity (s : State) : (s.countCollide).identity = s.identity :=
  by unfold State.countCollide; simp
@[simp] theorem State.countCollide_zones (s : State) : (s.countCollide).zones = s.zones :=
  by unfold State.countCollide; simp
@[simp] theorem State.countCollide_queue (s : State) : (s.countCollide).queue = s.queue :=
  by unfold State.countCollide; simp
@[simp] theorem State.countCollide_access (s : State) : (s.countCollide).access = s.access :=
  by unfold State.countCollide; simp
@[simp] theorem State.countCollide_seq (s : State) : (s.countCollide).seq = s.seq :=
  by unfold State.countCollide; simp
@[simp] theorem State.countCollide_cache (s : State) : (s.countCollide).cache = s.cache :=
  by unfold State.countCollide; simp
@[simp] theorem State.countCollide_monitor (s : State) : (s.countCollide).monitor = s.monitor :=
  by unfold State.countCollide; simp
@[simp] theorem State.countCollide_unit (s : State) : (s.countCollide).unit = s.unit :=
  by unfold State.countCollide; simp
@[simp] theorem State.countCollide_cart (s : State) : (s.countCollide).cart = s.cart :=
  by unfold State.countCollide; simp
@[simp] theorem State.countCollide_freeDraws (s : State) : (s.countCollide).freeDraws = s.freeDraws :=
  by unfold State.countCollide; simp

@[simp] theorem State.countCapture_pending (s : State) : (s.countCapture).pending = s.pending :=
  by unfold State.countCapture; simp
@[simp] theorem State.countCapture_powered (s : State) : (s.countCapture).powered = s.powered :=
  by unfold State.countCapture; simp
@[simp] theorem State.countCapture_pins (s : State) : (s.countCapture).pins = s.pins :=
  by unfold State.countCapture; simp
@[simp] theorem State.countCapture_lines (s : State) : (s.countCapture).lines = s.lines :=
  by unfold State.countCapture; simp
@[simp] theorem State.countCapture_drive (s : State) : (s.countCapture).drive = s.drive :=
  by unfold State.countCapture; simp
@[simp] theorem State.countCapture_clock (s : State) : (s.countCapture).clock = s.clock :=
  by unfold State.countCapture; simp
@[simp] theorem State.countCapture_identity (s : State) : (s.countCapture).identity = s.identity :=
  by unfold State.countCapture; simp
@[simp] theorem State.countCapture_zones (s : State) : (s.countCapture).zones = s.zones :=
  by unfold State.countCapture; simp
@[simp] theorem State.countCapture_queue (s : State) : (s.countCapture).queue = s.queue :=
  by unfold State.countCapture; simp
@[simp] theorem State.countCapture_access (s : State) : (s.countCapture).access = s.access :=
  by unfold State.countCapture; simp
@[simp] theorem State.countCapture_seq (s : State) : (s.countCapture).seq = s.seq :=
  by unfold State.countCapture; simp
@[simp] theorem State.countCapture_cache (s : State) : (s.countCapture).cache = s.cache :=
  by unfold State.countCapture; simp
@[simp] theorem State.countCapture_monitor (s : State) : (s.countCapture).monitor = s.monitor :=
  by unfold State.countCapture; simp
@[simp] theorem State.countCapture_unit (s : State) : (s.countCapture).unit = s.unit :=
  by unfold State.countCapture; simp
@[simp] theorem State.countCapture_cart (s : State) : (s.countCapture).cart = s.cart :=
  by unfold State.countCapture; simp
@[simp] theorem State.countCapture_freeDraws (s : State) : (s.countCapture).freeDraws = s.freeDraws :=
  by unfold State.countCapture; simp

@[simp] theorem State.countLate_pending (s : State) : (s.countLate).pending = s.pending :=
  by unfold State.countLate; simp
@[simp] theorem State.countLate_powered (s : State) : (s.countLate).powered = s.powered :=
  by unfold State.countLate; simp
@[simp] theorem State.countLate_pins (s : State) : (s.countLate).pins = s.pins :=
  by unfold State.countLate; simp
@[simp] theorem State.countLate_lines (s : State) : (s.countLate).lines = s.lines :=
  by unfold State.countLate; simp
@[simp] theorem State.countLate_drive (s : State) : (s.countLate).drive = s.drive :=
  by unfold State.countLate; simp
@[simp] theorem State.countLate_clock (s : State) : (s.countLate).clock = s.clock :=
  by unfold State.countLate; simp
@[simp] theorem State.countLate_identity (s : State) : (s.countLate).identity = s.identity :=
  by unfold State.countLate; simp
@[simp] theorem State.countLate_zones (s : State) : (s.countLate).zones = s.zones :=
  by unfold State.countLate; simp
@[simp] theorem State.countLate_queue (s : State) : (s.countLate).queue = s.queue :=
  by unfold State.countLate; simp
@[simp] theorem State.countLate_access (s : State) : (s.countLate).access = s.access :=
  by unfold State.countLate; simp
@[simp] theorem State.countLate_seq (s : State) : (s.countLate).seq = s.seq :=
  by unfold State.countLate; simp
@[simp] theorem State.countLate_cache (s : State) : (s.countLate).cache = s.cache :=
  by unfold State.countLate; simp
@[simp] theorem State.countLate_monitor (s : State) : (s.countLate).monitor = s.monitor :=
  by unfold State.countLate; simp
@[simp] theorem State.countLate_unit (s : State) : (s.countLate).unit = s.unit :=
  by unfold State.countLate; simp
@[simp] theorem State.countLate_cart (s : State) : (s.countLate).cart = s.cart :=
  by unfold State.countLate; simp
@[simp] theorem State.countLate_freeDraws (s : State) : (s.countLate).freeDraws = s.freeDraws :=
  by unfold State.countLate; simp

@[simp] theorem State.listFault_pending (s : State) (a : FaultAddr) (k : FaultKind) (g : Origin) : (s.listFault a k g).pending = s.pending := by
  unfold State.listFault; repeat' split
  all_goals simp
@[simp] theorem State.listFault_powered (s : State) (a : FaultAddr) (k : FaultKind) (g : Origin) : (s.listFault a k g).powered = s.powered := by
  unfold State.listFault; repeat' split
  all_goals simp
@[simp] theorem State.listFault_pins (s : State) (a : FaultAddr) (k : FaultKind) (g : Origin) : (s.listFault a k g).pins = s.pins := by
  unfold State.listFault; repeat' split
  all_goals simp
@[simp] theorem State.listFault_lines (s : State) (a : FaultAddr) (k : FaultKind) (g : Origin) : (s.listFault a k g).lines = s.lines := by
  unfold State.listFault; repeat' split
  all_goals simp
@[simp] theorem State.listFault_drive (s : State) (a : FaultAddr) (k : FaultKind) (g : Origin) : (s.listFault a k g).drive = s.drive := by
  unfold State.listFault; repeat' split
  all_goals simp
@[simp] theorem State.listFault_clock (s : State) (a : FaultAddr) (k : FaultKind) (g : Origin) : (s.listFault a k g).clock = s.clock := by
  unfold State.listFault; repeat' split
  all_goals simp
@[simp] theorem State.listFault_identity (s : State) (a : FaultAddr) (k : FaultKind) (g : Origin) : (s.listFault a k g).identity = s.identity := by
  unfold State.listFault; repeat' split
  all_goals simp
@[simp] theorem State.listFault_zones (s : State) (a : FaultAddr) (k : FaultKind) (g : Origin) : (s.listFault a k g).zones = s.zones := by
  unfold State.listFault; repeat' split
  all_goals simp
@[simp] theorem State.listFault_queue (s : State) (a : FaultAddr) (k : FaultKind) (g : Origin) : (s.listFault a k g).queue = s.queue := by
  unfold State.listFault; repeat' split
  all_goals simp
@[simp] theorem State.listFault_access (s : State) (a : FaultAddr) (k : FaultKind) (g : Origin) : (s.listFault a k g).access = s.access := by
  unfold State.listFault; repeat' split
  all_goals simp
@[simp] theorem State.listFault_seq (s : State) (a : FaultAddr) (k : FaultKind) (g : Origin) : (s.listFault a k g).seq = s.seq := by
  unfold State.listFault; repeat' split
  all_goals simp
@[simp] theorem State.listFault_cache (s : State) (a : FaultAddr) (k : FaultKind) (g : Origin) : (s.listFault a k g).cache = s.cache := by
  unfold State.listFault; repeat' split
  all_goals simp
@[simp] theorem State.listFault_monitor (s : State) (a : FaultAddr) (k : FaultKind) (g : Origin) : (s.listFault a k g).monitor = s.monitor := by
  unfold State.listFault; repeat' split
  all_goals simp
@[simp] theorem State.listFault_unit (s : State) (a : FaultAddr) (k : FaultKind) (g : Origin) : (s.listFault a k g).unit = s.unit := by
  unfold State.listFault; repeat' split
  all_goals simp
@[simp] theorem State.listFault_cart (s : State) (a : FaultAddr) (k : FaultKind) (g : Origin) : (s.listFault a k g).cart = s.cart := by
  unfold State.listFault; repeat' split
  all_goals simp
@[simp] theorem State.listFault_freeDraws (s : State) (a : FaultAddr) (k : FaultKind) (g : Origin) : (s.listFault a k g).freeDraws = s.freeDraws := by
  unfold State.listFault; repeat' split
  all_goals simp

@[simp] theorem State.enterRefresh_pending (s : State) (f : Nat) : (s.enterRefresh f).pending = s.pending :=
  by unfold State.enterRefresh; split <;> rfl
@[simp] theorem State.enterRefresh_powered (s : State) (f : Nat) : (s.enterRefresh f).powered = s.powered :=
  by unfold State.enterRefresh; split <;> rfl
@[simp] theorem State.enterRefresh_pins (s : State) (f : Nat) : (s.enterRefresh f).pins = s.pins :=
  by unfold State.enterRefresh; split <;> rfl
@[simp] theorem State.enterRefresh_lines (s : State) (f : Nat) : (s.enterRefresh f).lines = s.lines :=
  by unfold State.enterRefresh; split <;> rfl
@[simp] theorem State.enterRefresh_drive (s : State) (f : Nat) : (s.enterRefresh f).drive = s.drive :=
  by unfold State.enterRefresh; split <;> rfl
@[simp] theorem State.enterRefresh_clock (s : State) (f : Nat) : (s.enterRefresh f).clock = s.clock :=
  by unfold State.enterRefresh; split <;> rfl
@[simp] theorem State.enterRefresh_identity (s : State) (f : Nat) : (s.enterRefresh f).identity = s.identity :=
  by unfold State.enterRefresh; split <;> rfl
@[simp] theorem State.enterRefresh_zones (s : State) (f : Nat) : (s.enterRefresh f).zones = s.zones :=
  by unfold State.enterRefresh; split <;> rfl
@[simp] theorem State.enterRefresh_port (s : State) (f : Nat) : (s.enterRefresh f).port = s.port :=
  by unfold State.enterRefresh; split <;> rfl
@[simp] theorem State.enterRefresh_queue (s : State) (f : Nat) : (s.enterRefresh f).queue = s.queue :=
  by unfold State.enterRefresh; split <;> rfl
@[simp] theorem State.enterRefresh_faults (s : State) (f : Nat) : (s.enterRefresh f).faults = s.faults :=
  by unfold State.enterRefresh; split <;> rfl
@[simp] theorem State.enterRefresh_access (s : State) (f : Nat) : (s.enterRefresh f).access = s.access :=
  by unfold State.enterRefresh; split <;> rfl
@[simp] theorem State.enterRefresh_seq (s : State) (f : Nat) : (s.enterRefresh f).seq = s.seq :=
  by unfold State.enterRefresh; split <;> rfl
@[simp] theorem State.enterRefresh_monitor (s : State) (f : Nat) : (s.enterRefresh f).monitor = s.monitor :=
  by unfold State.enterRefresh; split <;> rfl
@[simp] theorem State.enterRefresh_unit (s : State) (f : Nat) : (s.enterRefresh f).unit = s.unit :=
  by unfold State.enterRefresh; split <;> rfl
@[simp] theorem State.enterRefresh_cart (s : State) (f : Nat) : (s.enterRefresh f).cart = s.cart :=
  by unfold State.enterRefresh; split <;> rfl
@[simp] theorem State.enterRefresh_freeDraws (s : State) (f : Nat) : (s.enterRefresh f).freeDraws = s.freeDraws :=
  by unfold State.enterRefresh; split <;> rfl

@[simp] theorem State.dropHeld_pending (s : State) (f : Nat) : (s.dropHeld f).pending = s.pending :=
  by unfold State.dropHeld; split <;> rfl
@[simp] theorem State.dropHeld_powered (s : State) (f : Nat) : (s.dropHeld f).powered = s.powered :=
  by unfold State.dropHeld; split <;> rfl
@[simp] theorem State.dropHeld_pins (s : State) (f : Nat) : (s.dropHeld f).pins = s.pins :=
  by unfold State.dropHeld; split <;> rfl
@[simp] theorem State.dropHeld_lines (s : State) (f : Nat) : (s.dropHeld f).lines = s.lines :=
  by unfold State.dropHeld; split <;> rfl
@[simp] theorem State.dropHeld_drive (s : State) (f : Nat) : (s.dropHeld f).drive = s.drive :=
  by unfold State.dropHeld; split <;> rfl
@[simp] theorem State.dropHeld_clock (s : State) (f : Nat) : (s.dropHeld f).clock = s.clock :=
  by unfold State.dropHeld; split <;> rfl
@[simp] theorem State.dropHeld_identity (s : State) (f : Nat) : (s.dropHeld f).identity = s.identity :=
  by unfold State.dropHeld; split <;> rfl
@[simp] theorem State.dropHeld_zones (s : State) (f : Nat) : (s.dropHeld f).zones = s.zones :=
  by unfold State.dropHeld; split <;> rfl
@[simp] theorem State.dropHeld_port (s : State) (f : Nat) : (s.dropHeld f).port = s.port :=
  by unfold State.dropHeld; split <;> rfl
@[simp] theorem State.dropHeld_queue (s : State) (f : Nat) : (s.dropHeld f).queue = s.queue :=
  by unfold State.dropHeld; split <;> rfl
@[simp] theorem State.dropHeld_faults (s : State) (f : Nat) : (s.dropHeld f).faults = s.faults :=
  by unfold State.dropHeld; split <;> rfl
@[simp] theorem State.dropHeld_access (s : State) (f : Nat) : (s.dropHeld f).access = s.access :=
  by unfold State.dropHeld; split <;> rfl
@[simp] theorem State.dropHeld_seq (s : State) (f : Nat) : (s.dropHeld f).seq = s.seq :=
  by unfold State.dropHeld; split <;> rfl
@[simp] theorem State.dropHeld_cache (s : State) (f : Nat) : (s.dropHeld f).cache = s.cache :=
  by unfold State.dropHeld; split <;> rfl
@[simp] theorem State.dropHeld_unit (s : State) (f : Nat) : (s.dropHeld f).unit = s.unit :=
  by unfold State.dropHeld; split <;> rfl
@[simp] theorem State.dropHeld_cart (s : State) (f : Nat) : (s.dropHeld f).cart = s.cart :=
  by unfold State.dropHeld; split <;> rfl
@[simp] theorem State.dropHeld_freeDraws (s : State) (f : Nat) : (s.dropHeld f).freeDraws = s.freeDraws :=
  by unfold State.dropHeld; split <;> rfl

@[simp] theorem State.freeFrame_pending (s : State) (f : Nat) : (s.freeFrame f).pending = s.pending :=
  by simp [State.freeFrame]
@[simp] theorem State.freeFrame_powered (s : State) (f : Nat) : (s.freeFrame f).powered = s.powered :=
  by simp [State.freeFrame]
@[simp] theorem State.freeFrame_pins (s : State) (f : Nat) : (s.freeFrame f).pins = s.pins :=
  by simp [State.freeFrame]
@[simp] theorem State.freeFrame_lines (s : State) (f : Nat) : (s.freeFrame f).lines = s.lines :=
  by simp [State.freeFrame]
@[simp] theorem State.freeFrame_drive (s : State) (f : Nat) : (s.freeFrame f).drive = s.drive :=
  by simp [State.freeFrame]
@[simp] theorem State.freeFrame_clock (s : State) (f : Nat) : (s.freeFrame f).clock = s.clock :=
  by simp [State.freeFrame]
@[simp] theorem State.freeFrame_identity (s : State) (f : Nat) : (s.freeFrame f).identity = s.identity :=
  by simp [State.freeFrame]
@[simp] theorem State.freeFrame_zones (s : State) (f : Nat) : (s.freeFrame f).zones = s.zones :=
  by simp [State.freeFrame]
@[simp] theorem State.freeFrame_port (s : State) (f : Nat) : (s.freeFrame f).port = s.port :=
  by simp [State.freeFrame]
@[simp] theorem State.freeFrame_queue (s : State) (f : Nat) : (s.freeFrame f).queue = s.queue :=
  by simp [State.freeFrame]
@[simp] theorem State.freeFrame_faults (s : State) (f : Nat) : (s.freeFrame f).faults = s.faults :=
  by simp [State.freeFrame]
@[simp] theorem State.freeFrame_access (s : State) (f : Nat) : (s.freeFrame f).access = s.access :=
  by simp [State.freeFrame]
@[simp] theorem State.freeFrame_seq (s : State) (f : Nat) : (s.freeFrame f).seq = s.seq :=
  by simp [State.freeFrame]
@[simp] theorem State.freeFrame_unit (s : State) (f : Nat) : (s.freeFrame f).unit = s.unit :=
  by simp [State.freeFrame]
@[simp] theorem State.freeFrame_cart (s : State) (f : Nat) : (s.freeFrame f).cart = s.cart :=
  by simp [State.freeFrame]
@[simp] theorem State.freeFrame_freeDraws (s : State) (f : Nat) : (s.freeFrame f).freeDraws = s.freeDraws :=
  by simp [State.freeFrame]

@[simp] theorem State.retire_pending (s : State) (f : Nat) : (s.retire f).pending = s.pending :=
  by simp [State.retire]
@[simp] theorem State.retire_powered (s : State) (f : Nat) : (s.retire f).powered = s.powered :=
  by simp [State.retire]
@[simp] theorem State.retire_pins (s : State) (f : Nat) : (s.retire f).pins = s.pins :=
  by simp [State.retire]
@[simp] theorem State.retire_lines (s : State) (f : Nat) : (s.retire f).lines = s.lines :=
  by simp [State.retire]
@[simp] theorem State.retire_drive (s : State) (f : Nat) : (s.retire f).drive = s.drive :=
  by simp [State.retire]
@[simp] theorem State.retire_clock (s : State) (f : Nat) : (s.retire f).clock = s.clock :=
  by simp [State.retire]
@[simp] theorem State.retire_identity (s : State) (f : Nat) : (s.retire f).identity = s.identity :=
  by simp [State.retire]
@[simp] theorem State.retire_zones (s : State) (f : Nat) : (s.retire f).zones = s.zones :=
  by simp [State.retire]
@[simp] theorem State.retire_port (s : State) (f : Nat) : (s.retire f).port = s.port :=
  by simp [State.retire]
@[simp] theorem State.retire_queue (s : State) (f : Nat) : (s.retire f).queue = s.queue :=
  by simp [State.retire]
@[simp] theorem State.retire_faults (s : State) (f : Nat) : (s.retire f).faults = s.faults :=
  by simp [State.retire]
@[simp] theorem State.retire_access (s : State) (f : Nat) : (s.retire f).access = s.access :=
  by simp [State.retire]
@[simp] theorem State.retire_seq (s : State) (f : Nat) : (s.retire f).seq = s.seq :=
  by simp [State.retire]
@[simp] theorem State.retire_unit (s : State) (f : Nat) : (s.retire f).unit = s.unit :=
  by simp [State.retire]
@[simp] theorem State.retire_cart (s : State) (f : Nat) : (s.retire f).cart = s.cart :=
  by simp [State.retire]
@[simp] theorem State.retire_freeDraws (s : State) (f : Nat) : (s.retire f).freeDraws = s.freeDraws :=
  by simp [State.retire]

@[simp] theorem State.release_pending (s : State) (f : Nat) : (s.release f).pending = s.pending :=
  by unfold State.release; split <;> simp
@[simp] theorem State.release_powered (s : State) (f : Nat) : (s.release f).powered = s.powered :=
  by unfold State.release; split <;> simp
@[simp] theorem State.release_pins (s : State) (f : Nat) : (s.release f).pins = s.pins :=
  by unfold State.release; split <;> simp
@[simp] theorem State.release_lines (s : State) (f : Nat) : (s.release f).lines = s.lines :=
  by unfold State.release; split <;> simp
@[simp] theorem State.release_drive (s : State) (f : Nat) : (s.release f).drive = s.drive :=
  by unfold State.release; split <;> simp
@[simp] theorem State.release_clock (s : State) (f : Nat) : (s.release f).clock = s.clock :=
  by unfold State.release; split <;> simp
@[simp] theorem State.release_identity (s : State) (f : Nat) : (s.release f).identity = s.identity :=
  by unfold State.release; split <;> simp
@[simp] theorem State.release_zones (s : State) (f : Nat) : (s.release f).zones = s.zones :=
  by unfold State.release; split <;> simp
@[simp] theorem State.release_port (s : State) (f : Nat) : (s.release f).port = s.port :=
  by unfold State.release; split <;> simp
@[simp] theorem State.release_queue (s : State) (f : Nat) : (s.release f).queue = s.queue :=
  by unfold State.release; split <;> simp
@[simp] theorem State.release_faults (s : State) (f : Nat) : (s.release f).faults = s.faults :=
  by unfold State.release; split <;> simp
@[simp] theorem State.release_access (s : State) (f : Nat) : (s.release f).access = s.access :=
  by unfold State.release; split <;> simp
@[simp] theorem State.release_seq (s : State) (f : Nat) : (s.release f).seq = s.seq :=
  by unfold State.release; split <;> simp
@[simp] theorem State.release_unit (s : State) (f : Nat) : (s.release f).unit = s.unit :=
  by unfold State.release; split <;> simp
@[simp] theorem State.release_cart (s : State) (f : Nat) : (s.release f).cart = s.cart :=
  by unfold State.release; split <;> simp
@[simp] theorem State.release_freeDraws (s : State) (f : Nat) : (s.release f).freeDraws = s.freeDraws :=
  by unfold State.release; split <;> simp

@[simp] theorem State.sweep_pending (s : State) : (s.sweep).pending = s.pending :=
  foldl_keeps (State.pending) _ (fun t f => by split <;> simp) _ _
@[simp] theorem State.sweep_powered (s : State) : (s.sweep).powered = s.powered :=
  foldl_keeps (State.powered) _ (fun t f => by split <;> simp) _ _
@[simp] theorem State.sweep_pins (s : State) : (s.sweep).pins = s.pins :=
  foldl_keeps (State.pins) _ (fun t f => by split <;> simp) _ _
@[simp] theorem State.sweep_lines (s : State) : (s.sweep).lines = s.lines :=
  foldl_keeps (State.lines) _ (fun t f => by split <;> simp) _ _
@[simp] theorem State.sweep_drive (s : State) : (s.sweep).drive = s.drive :=
  foldl_keeps (State.drive) _ (fun t f => by split <;> simp) _ _
@[simp] theorem State.sweep_clock (s : State) : (s.sweep).clock = s.clock :=
  foldl_keeps (State.clock) _ (fun t f => by split <;> simp) _ _
@[simp] theorem State.sweep_identity (s : State) : (s.sweep).identity = s.identity :=
  foldl_keeps (State.identity) _ (fun t f => by split <;> simp) _ _
@[simp] theorem State.sweep_zones (s : State) : (s.sweep).zones = s.zones :=
  foldl_keeps (State.zones) _ (fun t f => by split <;> simp) _ _
@[simp] theorem State.sweep_port (s : State) : (s.sweep).port = s.port :=
  foldl_keeps (State.port) _ (fun t f => by split <;> simp) _ _
@[simp] theorem State.sweep_queue (s : State) : (s.sweep).queue = s.queue :=
  foldl_keeps (State.queue) _ (fun t f => by split <;> simp) _ _
@[simp] theorem State.sweep_faults (s : State) : (s.sweep).faults = s.faults :=
  foldl_keeps (State.faults) _ (fun t f => by split <;> simp) _ _
@[simp] theorem State.sweep_access (s : State) : (s.sweep).access = s.access :=
  foldl_keeps (State.access) _ (fun t f => by split <;> simp) _ _
@[simp] theorem State.sweep_seq (s : State) : (s.sweep).seq = s.seq :=
  foldl_keeps (State.seq) _ (fun t f => by split <;> simp) _ _
@[simp] theorem State.sweep_unit (s : State) : (s.sweep).unit = s.unit :=
  foldl_keeps (State.unit) _ (fun t f => by split <;> simp) _ _
@[simp] theorem State.sweep_cart (s : State) : (s.sweep).cart = s.cart :=
  foldl_keeps (State.cart) _ (fun t f => by split <;> simp) _ _
@[simp] theorem State.sweep_freeDraws (s : State) : (s.sweep).freeDraws = s.freeDraws :=
  foldl_keeps (State.freeDraws) _ (fun t f => by split <;> simp) _ _

@[simp] theorem State.releaseOwned_pending (s : State) (id : Nat) : (s.releaseOwned id).pending = s.pending :=
  foldl_keeps (State.pending) _ (fun t f => by split <;> simp) _ _
@[simp] theorem State.releaseOwned_powered (s : State) (id : Nat) : (s.releaseOwned id).powered = s.powered :=
  foldl_keeps (State.powered) _ (fun t f => by split <;> simp) _ _
@[simp] theorem State.releaseOwned_pins (s : State) (id : Nat) : (s.releaseOwned id).pins = s.pins :=
  foldl_keeps (State.pins) _ (fun t f => by split <;> simp) _ _
@[simp] theorem State.releaseOwned_lines (s : State) (id : Nat) : (s.releaseOwned id).lines = s.lines :=
  foldl_keeps (State.lines) _ (fun t f => by split <;> simp) _ _
@[simp] theorem State.releaseOwned_drive (s : State) (id : Nat) : (s.releaseOwned id).drive = s.drive :=
  foldl_keeps (State.drive) _ (fun t f => by split <;> simp) _ _
@[simp] theorem State.releaseOwned_clock (s : State) (id : Nat) : (s.releaseOwned id).clock = s.clock :=
  foldl_keeps (State.clock) _ (fun t f => by split <;> simp) _ _
@[simp] theorem State.releaseOwned_identity (s : State) (id : Nat) : (s.releaseOwned id).identity = s.identity :=
  foldl_keeps (State.identity) _ (fun t f => by split <;> simp) _ _
@[simp] theorem State.releaseOwned_zones (s : State) (id : Nat) : (s.releaseOwned id).zones = s.zones :=
  foldl_keeps (State.zones) _ (fun t f => by split <;> simp) _ _
@[simp] theorem State.releaseOwned_port (s : State) (id : Nat) : (s.releaseOwned id).port = s.port :=
  foldl_keeps (State.port) _ (fun t f => by split <;> simp) _ _
@[simp] theorem State.releaseOwned_queue (s : State) (id : Nat) : (s.releaseOwned id).queue = s.queue :=
  foldl_keeps (State.queue) _ (fun t f => by split <;> simp) _ _
@[simp] theorem State.releaseOwned_faults (s : State) (id : Nat) : (s.releaseOwned id).faults = s.faults :=
  foldl_keeps (State.faults) _ (fun t f => by split <;> simp) _ _
@[simp] theorem State.releaseOwned_access (s : State) (id : Nat) : (s.releaseOwned id).access = s.access :=
  foldl_keeps (State.access) _ (fun t f => by split <;> simp) _ _
@[simp] theorem State.releaseOwned_seq (s : State) (id : Nat) : (s.releaseOwned id).seq = s.seq :=
  foldl_keeps (State.seq) _ (fun t f => by split <;> simp) _ _
@[simp] theorem State.releaseOwned_unit (s : State) (id : Nat) : (s.releaseOwned id).unit = s.unit :=
  foldl_keeps (State.unit) _ (fun t f => by split <;> simp) _ _
@[simp] theorem State.releaseOwned_cart (s : State) (id : Nat) : (s.releaseOwned id).cart = s.cart :=
  foldl_keeps (State.cart) _ (fun t f => by split <;> simp) _ _
@[simp] theorem State.releaseOwned_freeDraws (s : State) (id : Nat) : (s.releaseOwned id).freeDraws = s.freeDraws :=
  foldl_keeps (State.freeDraws) _ (fun t f => by split <;> simp) _ _

/-- What every action on a frame keeps, acting on frames keeps. -/
theorem overFrames_keeps {α : Type} (get : State → α) {act : State → Nat → State} (h : ∀ t f, get (act t f) = get t)
    (s : State) (p : Frame → Bool) : get (s.overFrames p act) = get s :=
  foldl_keeps get _ (fun t f => by split <;> simp [h]) _ _
@[simp] theorem State.releaseAll_pending (s : State) (p : Frame → Bool) : (s.releaseAll p).pending = s.pending :=
  overFrames_keeps (State.pending) (fun t f => t.release_pending f) s p
@[simp] theorem State.releaseAll_powered (s : State) (p : Frame → Bool) : (s.releaseAll p).powered = s.powered :=
  overFrames_keeps (State.powered) (fun t f => t.release_powered f) s p
@[simp] theorem State.releaseAll_pins (s : State) (p : Frame → Bool) : (s.releaseAll p).pins = s.pins :=
  overFrames_keeps (State.pins) (fun t f => t.release_pins f) s p
@[simp] theorem State.releaseAll_lines (s : State) (p : Frame → Bool) : (s.releaseAll p).lines = s.lines :=
  overFrames_keeps (State.lines) (fun t f => t.release_lines f) s p
@[simp] theorem State.releaseAll_drive (s : State) (p : Frame → Bool) : (s.releaseAll p).drive = s.drive :=
  overFrames_keeps (State.drive) (fun t f => t.release_drive f) s p
@[simp] theorem State.releaseAll_clock (s : State) (p : Frame → Bool) : (s.releaseAll p).clock = s.clock :=
  overFrames_keeps (State.clock) (fun t f => t.release_clock f) s p
@[simp] theorem State.releaseAll_identity (s : State) (p : Frame → Bool) : (s.releaseAll p).identity = s.identity :=
  overFrames_keeps (State.identity) (fun t f => t.release_identity f) s p
@[simp] theorem State.releaseAll_zones (s : State) (p : Frame → Bool) : (s.releaseAll p).zones = s.zones :=
  overFrames_keeps (State.zones) (fun t f => t.release_zones f) s p
@[simp] theorem State.releaseAll_port (s : State) (p : Frame → Bool) : (s.releaseAll p).port = s.port :=
  overFrames_keeps (State.port) (fun t f => t.release_port f) s p
@[simp] theorem State.releaseAll_queue (s : State) (p : Frame → Bool) : (s.releaseAll p).queue = s.queue :=
  overFrames_keeps (State.queue) (fun t f => t.release_queue f) s p
@[simp] theorem State.releaseAll_faults (s : State) (p : Frame → Bool) : (s.releaseAll p).faults = s.faults :=
  overFrames_keeps (State.faults) (fun t f => t.release_faults f) s p
@[simp] theorem State.releaseAll_access (s : State) (p : Frame → Bool) : (s.releaseAll p).access = s.access :=
  overFrames_keeps (State.access) (fun t f => t.release_access f) s p
@[simp] theorem State.releaseAll_seq (s : State) (p : Frame → Bool) : (s.releaseAll p).seq = s.seq :=
  overFrames_keeps (State.seq) (fun t f => t.release_seq f) s p
@[simp] theorem State.releaseAll_unit (s : State) (p : Frame → Bool) : (s.releaseAll p).unit = s.unit :=
  overFrames_keeps (State.unit) (fun t f => t.release_unit f) s p
@[simp] theorem State.releaseAll_cart (s : State) (p : Frame → Bool) : (s.releaseAll p).cart = s.cart :=
  overFrames_keeps (State.cart) (fun t f => t.release_cart f) s p
@[simp] theorem State.releaseAll_freeDraws (s : State) (p : Frame → Bool) : (s.releaseAll p).freeDraws = s.freeDraws :=
  overFrames_keeps (State.freeDraws) (fun t f => t.release_freeDraws f) s p

@[simp] theorem State.freeUnpinned_pending (s : State) : (s.freeUnpinned).pending = s.pending :=
  by simp [State.freeUnpinned]
@[simp] theorem State.freeUnpinned_powered (s : State) : (s.freeUnpinned).powered = s.powered :=
  by simp [State.freeUnpinned]
@[simp] theorem State.freeUnpinned_pins (s : State) : (s.freeUnpinned).pins = s.pins :=
  by simp [State.freeUnpinned]
@[simp] theorem State.freeUnpinned_lines (s : State) : (s.freeUnpinned).lines = s.lines :=
  by simp [State.freeUnpinned]
@[simp] theorem State.freeUnpinned_drive (s : State) : (s.freeUnpinned).drive = s.drive :=
  by simp [State.freeUnpinned]
@[simp] theorem State.freeUnpinned_clock (s : State) : (s.freeUnpinned).clock = s.clock :=
  by simp [State.freeUnpinned]
@[simp] theorem State.freeUnpinned_identity (s : State) : (s.freeUnpinned).identity = s.identity :=
  by simp [State.freeUnpinned]
@[simp] theorem State.freeUnpinned_zones (s : State) : (s.freeUnpinned).zones = s.zones :=
  by simp [State.freeUnpinned]
@[simp] theorem State.freeUnpinned_port (s : State) : (s.freeUnpinned).port = s.port :=
  by simp [State.freeUnpinned]
@[simp] theorem State.freeUnpinned_queue (s : State) : (s.freeUnpinned).queue = s.queue :=
  by simp [State.freeUnpinned]
@[simp] theorem State.freeUnpinned_faults (s : State) : (s.freeUnpinned).faults = s.faults :=
  by simp [State.freeUnpinned]
@[simp] theorem State.freeUnpinned_access (s : State) : (s.freeUnpinned).access = s.access :=
  by simp [State.freeUnpinned]
@[simp] theorem State.freeUnpinned_seq (s : State) : (s.freeUnpinned).seq = s.seq :=
  by simp [State.freeUnpinned]
@[simp] theorem State.freeUnpinned_unit (s : State) : (s.freeUnpinned).unit = s.unit :=
  by simp [State.freeUnpinned]
@[simp] theorem State.freeUnpinned_cart (s : State) : (s.freeUnpinned).cart = s.cart :=
  by simp [State.freeUnpinned]
@[simp] theorem State.freeUnpinned_freeDraws (s : State) : (s.freeUnpinned).freeDraws = s.freeDraws :=
  by simp [State.freeUnpinned]

@[simp] theorem State.freeAllFrames_pending (s : State) : (s.freeAllFrames).pending = s.pending :=
  by simp [State.freeAllFrames]
@[simp] theorem State.freeAllFrames_powered (s : State) : (s.freeAllFrames).powered = s.powered :=
  by simp [State.freeAllFrames]
@[simp] theorem State.freeAllFrames_pins (s : State) : (s.freeAllFrames).pins = s.pins :=
  by simp [State.freeAllFrames]
@[simp] theorem State.freeAllFrames_lines (s : State) : (s.freeAllFrames).lines = s.lines :=
  by simp [State.freeAllFrames]
@[simp] theorem State.freeAllFrames_drive (s : State) : (s.freeAllFrames).drive = s.drive :=
  by simp [State.freeAllFrames]
@[simp] theorem State.freeAllFrames_clock (s : State) : (s.freeAllFrames).clock = s.clock :=
  by simp [State.freeAllFrames]
@[simp] theorem State.freeAllFrames_identity (s : State) : (s.freeAllFrames).identity = s.identity :=
  by simp [State.freeAllFrames]
@[simp] theorem State.freeAllFrames_zones (s : State) : (s.freeAllFrames).zones = s.zones :=
  by simp [State.freeAllFrames]
@[simp] theorem State.freeAllFrames_port (s : State) : (s.freeAllFrames).port = s.port :=
  by simp [State.freeAllFrames]
@[simp] theorem State.freeAllFrames_queue (s : State) : (s.freeAllFrames).queue = s.queue :=
  by simp [State.freeAllFrames]
@[simp] theorem State.freeAllFrames_faults (s : State) : (s.freeAllFrames).faults = s.faults :=
  by simp [State.freeAllFrames]
@[simp] theorem State.freeAllFrames_access (s : State) : (s.freeAllFrames).access = s.access :=
  by simp [State.freeAllFrames]
@[simp] theorem State.freeAllFrames_seq (s : State) : (s.freeAllFrames).seq = s.seq :=
  by simp [State.freeAllFrames]
@[simp] theorem State.freeAllFrames_unit (s : State) : (s.freeAllFrames).unit = s.unit :=
  by simp [State.freeAllFrames]
@[simp] theorem State.freeAllFrames_cart (s : State) : (s.freeAllFrames).cart = s.cart :=
  by simp [State.freeAllFrames]
@[simp] theorem State.freeAllFrames_freeDraws (s : State) : (s.freeAllFrames).freeDraws = s.freeDraws :=
  by simp [State.freeAllFrames]

@[simp] theorem State.reenterStale_pending (s : State) : (s.reenterStale).pending = s.pending :=
  foldl_keeps (State.pending) _ (fun t f => by dsimp only; split <;> simp) _ _
@[simp] theorem State.reenterStale_powered (s : State) : (s.reenterStale).powered = s.powered :=
  foldl_keeps (State.powered) _ (fun t f => by dsimp only; split <;> simp) _ _
@[simp] theorem State.reenterStale_pins (s : State) : (s.reenterStale).pins = s.pins :=
  foldl_keeps (State.pins) _ (fun t f => by dsimp only; split <;> simp) _ _
@[simp] theorem State.reenterStale_lines (s : State) : (s.reenterStale).lines = s.lines :=
  foldl_keeps (State.lines) _ (fun t f => by dsimp only; split <;> simp) _ _
@[simp] theorem State.reenterStale_drive (s : State) : (s.reenterStale).drive = s.drive :=
  foldl_keeps (State.drive) _ (fun t f => by dsimp only; split <;> simp) _ _
@[simp] theorem State.reenterStale_clock (s : State) : (s.reenterStale).clock = s.clock :=
  foldl_keeps (State.clock) _ (fun t f => by dsimp only; split <;> simp) _ _
@[simp] theorem State.reenterStale_identity (s : State) : (s.reenterStale).identity = s.identity :=
  foldl_keeps (State.identity) _ (fun t f => by dsimp only; split <;> simp) _ _
@[simp] theorem State.reenterStale_zones (s : State) : (s.reenterStale).zones = s.zones :=
  foldl_keeps (State.zones) _ (fun t f => by dsimp only; split <;> simp) _ _
@[simp] theorem State.reenterStale_port (s : State) : (s.reenterStale).port = s.port :=
  foldl_keeps (State.port) _ (fun t f => by dsimp only; split <;> simp) _ _
@[simp] theorem State.reenterStale_queue (s : State) : (s.reenterStale).queue = s.queue :=
  foldl_keeps (State.queue) _ (fun t f => by dsimp only; split <;> simp) _ _
@[simp] theorem State.reenterStale_faults (s : State) : (s.reenterStale).faults = s.faults :=
  foldl_keeps (State.faults) _ (fun t f => by dsimp only; split <;> simp) _ _
@[simp] theorem State.reenterStale_access (s : State) : (s.reenterStale).access = s.access :=
  foldl_keeps (State.access) _ (fun t f => by dsimp only; split <;> simp) _ _
@[simp] theorem State.reenterStale_seq (s : State) : (s.reenterStale).seq = s.seq :=
  foldl_keeps (State.seq) _ (fun t f => by dsimp only; split <;> simp) _ _
@[simp] theorem State.reenterStale_monitor (s : State) : (s.reenterStale).monitor = s.monitor :=
  foldl_keeps (State.monitor) _ (fun t f => by dsimp only; split <;> simp) _ _
@[simp] theorem State.reenterStale_unit (s : State) : (s.reenterStale).unit = s.unit :=
  foldl_keeps (State.unit) _ (fun t f => by dsimp only; split <;> simp) _ _
@[simp] theorem State.reenterStale_cart (s : State) : (s.reenterStale).cart = s.cart :=
  foldl_keeps (State.cart) _ (fun t f => by dsimp only; split <;> simp) _ _
@[simp] theorem State.reenterStale_freeDraws (s : State) : (s.reenterStale).freeDraws = s.freeDraws :=
  foldl_keeps (State.freeDraws) _ (fun t f => by dsimp only; split <;> simp) _ _

@[simp] theorem State.stalePinned_pending (s : State) (f : Nat) : (s.stalePinned f).pending = s.pending :=
  by simp [State.stalePinned]
@[simp] theorem State.stalePinned_powered (s : State) (f : Nat) : (s.stalePinned f).powered = s.powered :=
  by simp [State.stalePinned]
@[simp] theorem State.stalePinned_pins (s : State) (f : Nat) : (s.stalePinned f).pins = s.pins :=
  by simp [State.stalePinned]
@[simp] theorem State.stalePinned_lines (s : State) (f : Nat) : (s.stalePinned f).lines = s.lines :=
  by simp [State.stalePinned]
@[simp] theorem State.stalePinned_drive (s : State) (f : Nat) : (s.stalePinned f).drive = s.drive :=
  by simp [State.stalePinned]
@[simp] theorem State.stalePinned_clock (s : State) (f : Nat) : (s.stalePinned f).clock = s.clock :=
  by simp [State.stalePinned]
@[simp] theorem State.stalePinned_identity (s : State) (f : Nat) : (s.stalePinned f).identity = s.identity :=
  by simp [State.stalePinned]
@[simp] theorem State.stalePinned_zones (s : State) (f : Nat) : (s.stalePinned f).zones = s.zones :=
  by simp [State.stalePinned]
@[simp] theorem State.stalePinned_port (s : State) (f : Nat) : (s.stalePinned f).port = s.port :=
  by simp [State.stalePinned]
@[simp] theorem State.stalePinned_queue (s : State) (f : Nat) : (s.stalePinned f).queue = s.queue :=
  by simp [State.stalePinned]
@[simp] theorem State.stalePinned_faults (s : State) (f : Nat) : (s.stalePinned f).faults = s.faults :=
  by simp [State.stalePinned]
@[simp] theorem State.stalePinned_access (s : State) (f : Nat) : (s.stalePinned f).access = s.access :=
  by simp [State.stalePinned]
@[simp] theorem State.stalePinned_seq (s : State) (f : Nat) : (s.stalePinned f).seq = s.seq :=
  by simp [State.stalePinned]
@[simp] theorem State.stalePinned_monitor (s : State) (f : Nat) : (s.stalePinned f).monitor = s.monitor :=
  by simp [State.stalePinned]
@[simp] theorem State.stalePinned_unit (s : State) (f : Nat) : (s.stalePinned f).unit = s.unit :=
  by simp [State.stalePinned]
@[simp] theorem State.stalePinned_cart (s : State) (f : Nat) : (s.stalePinned f).cart = s.cart :=
  by simp [State.stalePinned]
@[simp] theorem State.stalePinned_freeDraws (s : State) (f : Nat) : (s.stalePinned f).freeDraws = s.freeDraws :=
  by simp [State.stalePinned]

@[simp] theorem State.invalidate_pending (s : State) (f : Nat) : (s.invalidate f).pending = s.pending :=
  by unfold State.invalidate; split <;> simp
@[simp] theorem State.invalidate_powered (s : State) (f : Nat) : (s.invalidate f).powered = s.powered :=
  by unfold State.invalidate; split <;> simp
@[simp] theorem State.invalidate_pins (s : State) (f : Nat) : (s.invalidate f).pins = s.pins :=
  by unfold State.invalidate; split <;> simp
@[simp] theorem State.invalidate_lines (s : State) (f : Nat) : (s.invalidate f).lines = s.lines :=
  by unfold State.invalidate; split <;> simp
@[simp] theorem State.invalidate_drive (s : State) (f : Nat) : (s.invalidate f).drive = s.drive :=
  by unfold State.invalidate; split <;> simp
@[simp] theorem State.invalidate_clock (s : State) (f : Nat) : (s.invalidate f).clock = s.clock :=
  by unfold State.invalidate; split <;> simp
@[simp] theorem State.invalidate_identity (s : State) (f : Nat) : (s.invalidate f).identity = s.identity :=
  by unfold State.invalidate; split <;> simp
@[simp] theorem State.invalidate_zones (s : State) (f : Nat) : (s.invalidate f).zones = s.zones :=
  by unfold State.invalidate; split <;> simp
@[simp] theorem State.invalidate_port (s : State) (f : Nat) : (s.invalidate f).port = s.port :=
  by unfold State.invalidate; split <;> simp
@[simp] theorem State.invalidate_queue (s : State) (f : Nat) : (s.invalidate f).queue = s.queue :=
  by unfold State.invalidate; split <;> simp
@[simp] theorem State.invalidate_faults (s : State) (f : Nat) : (s.invalidate f).faults = s.faults :=
  by unfold State.invalidate; split <;> simp
@[simp] theorem State.invalidate_access (s : State) (f : Nat) : (s.invalidate f).access = s.access :=
  by unfold State.invalidate; split <;> simp
@[simp] theorem State.invalidate_seq (s : State) (f : Nat) : (s.invalidate f).seq = s.seq :=
  by unfold State.invalidate; split <;> simp
@[simp] theorem State.invalidate_unit (s : State) (f : Nat) : (s.invalidate f).unit = s.unit :=
  by unfold State.invalidate; split <;> simp
@[simp] theorem State.invalidate_cart (s : State) (f : Nat) : (s.invalidate f).cart = s.cart :=
  by unfold State.invalidate; split <;> simp
@[simp] theorem State.invalidate_freeDraws (s : State) (f : Nat) : (s.invalidate f).freeDraws = s.freeDraws :=
  by unfold State.invalidate; split <;> simp

@[simp] theorem State.torn_pending (s : State) (a : SectorAddr) : (s.torn a).pending = s.pending :=
  by unfold State.torn; split <;> simp
@[simp] theorem State.torn_powered (s : State) (a : SectorAddr) : (s.torn a).powered = s.powered :=
  by unfold State.torn; split <;> simp
@[simp] theorem State.torn_pins (s : State) (a : SectorAddr) : (s.torn a).pins = s.pins :=
  by unfold State.torn; split <;> simp
@[simp] theorem State.torn_lines (s : State) (a : SectorAddr) : (s.torn a).lines = s.lines :=
  by unfold State.torn; split <;> simp
@[simp] theorem State.torn_drive (s : State) (a : SectorAddr) : (s.torn a).drive = s.drive :=
  by unfold State.torn; split <;> simp
@[simp] theorem State.torn_clock (s : State) (a : SectorAddr) : (s.torn a).clock = s.clock :=
  by unfold State.torn; split <;> simp
@[simp] theorem State.torn_identity (s : State) (a : SectorAddr) : (s.torn a).identity = s.identity :=
  by unfold State.torn; split <;> simp
@[simp] theorem State.torn_zones (s : State) (a : SectorAddr) : (s.torn a).zones = s.zones :=
  by unfold State.torn; split <;> simp
@[simp] theorem State.torn_port (s : State) (a : SectorAddr) : (s.torn a).port = s.port :=
  by unfold State.torn; split <;> simp
@[simp] theorem State.torn_queue (s : State) (a : SectorAddr) : (s.torn a).queue = s.queue :=
  by unfold State.torn; split <;> simp
@[simp] theorem State.torn_faults (s : State) (a : SectorAddr) : (s.torn a).faults = s.faults :=
  by unfold State.torn; split <;> simp
@[simp] theorem State.torn_access (s : State) (a : SectorAddr) : (s.torn a).access = s.access :=
  by unfold State.torn; split <;> simp
@[simp] theorem State.torn_seq (s : State) (a : SectorAddr) : (s.torn a).seq = s.seq :=
  by unfold State.torn; split <;> simp
@[simp] theorem State.torn_unit (s : State) (a : SectorAddr) : (s.torn a).unit = s.unit :=
  by unfold State.torn; split <;> simp
@[simp] theorem State.torn_cart (s : State) (a : SectorAddr) : (s.torn a).cart = s.cart :=
  by unfold State.torn; split <;> simp
@[simp] theorem State.torn_freeDraws (s : State) (a : SectorAddr) : (s.torn a).freeDraws = s.freeDraws :=
  by unfold State.torn; split <;> simp

@[simp] theorem State.takeWords_pending (s : State) (f : Nat) (ws : List Word) : (s.takeWords f ws).pending = s.pending :=
  by simp [State.takeWords]
@[simp] theorem State.takeWords_powered (s : State) (f : Nat) (ws : List Word) : (s.takeWords f ws).powered = s.powered :=
  by simp [State.takeWords]
@[simp] theorem State.takeWords_pins (s : State) (f : Nat) (ws : List Word) : (s.takeWords f ws).pins = s.pins :=
  by simp [State.takeWords]
@[simp] theorem State.takeWords_lines (s : State) (f : Nat) (ws : List Word) : (s.takeWords f ws).lines = s.lines :=
  by simp [State.takeWords]
@[simp] theorem State.takeWords_drive (s : State) (f : Nat) (ws : List Word) : (s.takeWords f ws).drive = s.drive :=
  by simp [State.takeWords]
@[simp] theorem State.takeWords_clock (s : State) (f : Nat) (ws : List Word) : (s.takeWords f ws).clock = s.clock :=
  by simp [State.takeWords]
@[simp] theorem State.takeWords_identity (s : State) (f : Nat) (ws : List Word) : (s.takeWords f ws).identity = s.identity :=
  by simp [State.takeWords]
@[simp] theorem State.takeWords_zones (s : State) (f : Nat) (ws : List Word) : (s.takeWords f ws).zones = s.zones :=
  by simp [State.takeWords]
@[simp] theorem State.takeWords_port (s : State) (f : Nat) (ws : List Word) : (s.takeWords f ws).port = s.port :=
  by simp [State.takeWords]
@[simp] theorem State.takeWords_queue (s : State) (f : Nat) (ws : List Word) : (s.takeWords f ws).queue = s.queue :=
  by simp [State.takeWords]
@[simp] theorem State.takeWords_faults (s : State) (f : Nat) (ws : List Word) : (s.takeWords f ws).faults = s.faults :=
  by simp [State.takeWords]
@[simp] theorem State.takeWords_access (s : State) (f : Nat) (ws : List Word) : (s.takeWords f ws).access = s.access :=
  by simp [State.takeWords]
@[simp] theorem State.takeWords_seq (s : State) (f : Nat) (ws : List Word) : (s.takeWords f ws).seq = s.seq :=
  by simp [State.takeWords]
@[simp] theorem State.takeWords_monitor (s : State) (f : Nat) (ws : List Word) : (s.takeWords f ws).monitor = s.monitor :=
  by simp [State.takeWords]
@[simp] theorem State.takeWords_unit (s : State) (f : Nat) (ws : List Word) : (s.takeWords f ws).unit = s.unit :=
  by simp [State.takeWords]
@[simp] theorem State.takeWords_cart (s : State) (f : Nat) (ws : List Word) : (s.takeWords f ws).cart = s.cart :=
  by simp [State.takeWords]
@[simp] theorem State.takeWords_freeDraws (s : State) (f : Nat) (ws : List Word) : (s.takeWords f ws).freeDraws = s.freeDraws :=
  by simp [State.takeWords]

@[simp] theorem State.enterDirectory_pending (s : State) (f : Nat) (a : SectorAddr) (p : Bool) : (s.enterDirectory f a p).pending = s.pending :=
  by unfold State.enterDirectory; dsimp only; split <;> simp
@[simp] theorem State.enterDirectory_powered (s : State) (f : Nat) (a : SectorAddr) (p : Bool) : (s.enterDirectory f a p).powered = s.powered :=
  by unfold State.enterDirectory; dsimp only; split <;> simp
@[simp] theorem State.enterDirectory_pins (s : State) (f : Nat) (a : SectorAddr) (p : Bool) : (s.enterDirectory f a p).pins = s.pins :=
  by unfold State.enterDirectory; dsimp only; split <;> simp
@[simp] theorem State.enterDirectory_lines (s : State) (f : Nat) (a : SectorAddr) (p : Bool) : (s.enterDirectory f a p).lines = s.lines :=
  by unfold State.enterDirectory; dsimp only; split <;> simp
@[simp] theorem State.enterDirectory_drive (s : State) (f : Nat) (a : SectorAddr) (p : Bool) : (s.enterDirectory f a p).drive = s.drive :=
  by unfold State.enterDirectory; dsimp only; split <;> simp
@[simp] theorem State.enterDirectory_clock (s : State) (f : Nat) (a : SectorAddr) (p : Bool) : (s.enterDirectory f a p).clock = s.clock :=
  by unfold State.enterDirectory; dsimp only; split <;> simp
@[simp] theorem State.enterDirectory_identity (s : State) (f : Nat) (a : SectorAddr) (p : Bool) : (s.enterDirectory f a p).identity = s.identity :=
  by unfold State.enterDirectory; dsimp only; split <;> simp
@[simp] theorem State.enterDirectory_zones (s : State) (f : Nat) (a : SectorAddr) (p : Bool) : (s.enterDirectory f a p).zones = s.zones :=
  by unfold State.enterDirectory; dsimp only; split <;> simp
@[simp] theorem State.enterDirectory_port (s : State) (f : Nat) (a : SectorAddr) (p : Bool) : (s.enterDirectory f a p).port = s.port :=
  by unfold State.enterDirectory; dsimp only; split <;> simp
@[simp] theorem State.enterDirectory_queue (s : State) (f : Nat) (a : SectorAddr) (p : Bool) : (s.enterDirectory f a p).queue = s.queue :=
  by unfold State.enterDirectory; dsimp only; split <;> simp
@[simp] theorem State.enterDirectory_faults (s : State) (f : Nat) (a : SectorAddr) (p : Bool) : (s.enterDirectory f a p).faults = s.faults :=
  by unfold State.enterDirectory; dsimp only; split <;> simp
@[simp] theorem State.enterDirectory_access (s : State) (f : Nat) (a : SectorAddr) (p : Bool) : (s.enterDirectory f a p).access = s.access :=
  by unfold State.enterDirectory; dsimp only; split <;> simp
@[simp] theorem State.enterDirectory_seq (s : State) (f : Nat) (a : SectorAddr) (p : Bool) : (s.enterDirectory f a p).seq = s.seq :=
  by unfold State.enterDirectory; dsimp only; split <;> simp
@[simp] theorem State.enterDirectory_unit (s : State) (f : Nat) (a : SectorAddr) (p : Bool) : (s.enterDirectory f a p).unit = s.unit :=
  by unfold State.enterDirectory; dsimp only; split <;> simp
@[simp] theorem State.enterDirectory_cart (s : State) (f : Nat) (a : SectorAddr) (p : Bool) : (s.enterDirectory f a p).cart = s.cart :=
  by unfold State.enterDirectory; dsimp only; split <;> simp
@[simp] theorem State.enterDirectory_freeDraws (s : State) (f : Nat) (a : SectorAddr) (p : Bool) : (s.enterDirectory f a p).freeDraws = s.freeDraws :=
  by unfold State.enterDirectory; dsimp only; split <;> simp

@[simp] theorem State.settleRead_pending (s : State) (r : Request) (f : Nat) (a : SectorAddr) (ws : List Word) : (s.settleRead r f a ws).pending = s.pending :=
  by unfold State.settleRead; dsimp only; split <;> simp
@[simp] theorem State.settleRead_powered (s : State) (r : Request) (f : Nat) (a : SectorAddr) (ws : List Word) : (s.settleRead r f a ws).powered = s.powered :=
  by unfold State.settleRead; dsimp only; split <;> simp
@[simp] theorem State.settleRead_pins (s : State) (r : Request) (f : Nat) (a : SectorAddr) (ws : List Word) : (s.settleRead r f a ws).pins = s.pins :=
  by unfold State.settleRead; dsimp only; split <;> simp
@[simp] theorem State.settleRead_lines (s : State) (r : Request) (f : Nat) (a : SectorAddr) (ws : List Word) : (s.settleRead r f a ws).lines = s.lines :=
  by unfold State.settleRead; dsimp only; split <;> simp
@[simp] theorem State.settleRead_drive (s : State) (r : Request) (f : Nat) (a : SectorAddr) (ws : List Word) : (s.settleRead r f a ws).drive = s.drive :=
  by unfold State.settleRead; dsimp only; split <;> simp
@[simp] theorem State.settleRead_clock (s : State) (r : Request) (f : Nat) (a : SectorAddr) (ws : List Word) : (s.settleRead r f a ws).clock = s.clock :=
  by unfold State.settleRead; dsimp only; split <;> simp
@[simp] theorem State.settleRead_identity (s : State) (r : Request) (f : Nat) (a : SectorAddr) (ws : List Word) : (s.settleRead r f a ws).identity = s.identity :=
  by unfold State.settleRead; dsimp only; split <;> simp
@[simp] theorem State.settleRead_zones (s : State) (r : Request) (f : Nat) (a : SectorAddr) (ws : List Word) : (s.settleRead r f a ws).zones = s.zones :=
  by unfold State.settleRead; dsimp only; split <;> simp
@[simp] theorem State.settleRead_port (s : State) (r : Request) (f : Nat) (a : SectorAddr) (ws : List Word) : (s.settleRead r f a ws).port = s.port :=
  by unfold State.settleRead; dsimp only; split <;> simp
@[simp] theorem State.settleRead_queue (s : State) (r : Request) (f : Nat) (a : SectorAddr) (ws : List Word) : (s.settleRead r f a ws).queue = s.queue :=
  by unfold State.settleRead; dsimp only; split <;> simp
@[simp] theorem State.settleRead_faults (s : State) (r : Request) (f : Nat) (a : SectorAddr) (ws : List Word) : (s.settleRead r f a ws).faults = s.faults :=
  by unfold State.settleRead; dsimp only; split <;> simp
@[simp] theorem State.settleRead_access (s : State) (r : Request) (f : Nat) (a : SectorAddr) (ws : List Word) : (s.settleRead r f a ws).access = s.access :=
  by unfold State.settleRead; dsimp only; split <;> simp
@[simp] theorem State.settleRead_seq (s : State) (r : Request) (f : Nat) (a : SectorAddr) (ws : List Word) : (s.settleRead r f a ws).seq = s.seq :=
  by unfold State.settleRead; dsimp only; split <;> simp
@[simp] theorem State.settleRead_unit (s : State) (r : Request) (f : Nat) (a : SectorAddr) (ws : List Word) : (s.settleRead r f a ws).unit = s.unit :=
  by unfold State.settleRead; dsimp only; split <;> simp
@[simp] theorem State.settleRead_cart (s : State) (r : Request) (f : Nat) (a : SectorAddr) (ws : List Word) : (s.settleRead r f a ws).cart = s.cart :=
  by unfold State.settleRead; dsimp only; split <;> simp
@[simp] theorem State.settleRead_freeDraws (s : State) (r : Request) (f : Nat) (a : SectorAddr) (ws : List Word) : (s.settleRead r f a ws).freeDraws = s.freeDraws :=
  by unfold State.settleRead; dsimp only; split <;> simp

@[simp] theorem State.settleWritten_pending (s : State) (f : Nat) (a : SectorAddr) : (s.settleWritten f a).pending = s.pending :=
  by unfold State.settleWritten; split <;> simp
@[simp] theorem State.settleWritten_powered (s : State) (f : Nat) (a : SectorAddr) : (s.settleWritten f a).powered = s.powered :=
  by unfold State.settleWritten; split <;> simp
@[simp] theorem State.settleWritten_pins (s : State) (f : Nat) (a : SectorAddr) : (s.settleWritten f a).pins = s.pins :=
  by unfold State.settleWritten; split <;> simp
@[simp] theorem State.settleWritten_lines (s : State) (f : Nat) (a : SectorAddr) : (s.settleWritten f a).lines = s.lines :=
  by unfold State.settleWritten; split <;> simp
@[simp] theorem State.settleWritten_drive (s : State) (f : Nat) (a : SectorAddr) : (s.settleWritten f a).drive = s.drive :=
  by unfold State.settleWritten; split <;> simp
@[simp] theorem State.settleWritten_clock (s : State) (f : Nat) (a : SectorAddr) : (s.settleWritten f a).clock = s.clock :=
  by unfold State.settleWritten; split <;> simp
@[simp] theorem State.settleWritten_identity (s : State) (f : Nat) (a : SectorAddr) : (s.settleWritten f a).identity = s.identity :=
  by unfold State.settleWritten; split <;> simp
@[simp] theorem State.settleWritten_zones (s : State) (f : Nat) (a : SectorAddr) : (s.settleWritten f a).zones = s.zones :=
  by unfold State.settleWritten; split <;> simp
@[simp] theorem State.settleWritten_port (s : State) (f : Nat) (a : SectorAddr) : (s.settleWritten f a).port = s.port :=
  by unfold State.settleWritten; split <;> simp
@[simp] theorem State.settleWritten_queue (s : State) (f : Nat) (a : SectorAddr) : (s.settleWritten f a).queue = s.queue :=
  by unfold State.settleWritten; split <;> simp
@[simp] theorem State.settleWritten_faults (s : State) (f : Nat) (a : SectorAddr) : (s.settleWritten f a).faults = s.faults :=
  by unfold State.settleWritten; split <;> simp
@[simp] theorem State.settleWritten_access (s : State) (f : Nat) (a : SectorAddr) : (s.settleWritten f a).access = s.access :=
  by unfold State.settleWritten; split <;> simp
@[simp] theorem State.settleWritten_seq (s : State) (f : Nat) (a : SectorAddr) : (s.settleWritten f a).seq = s.seq :=
  by unfold State.settleWritten; split <;> simp
@[simp] theorem State.settleWritten_unit (s : State) (f : Nat) (a : SectorAddr) : (s.settleWritten f a).unit = s.unit :=
  by unfold State.settleWritten; split <;> simp
@[simp] theorem State.settleWritten_cart (s : State) (f : Nat) (a : SectorAddr) : (s.settleWritten f a).cart = s.cart :=
  by unfold State.settleWritten; split <;> simp
@[simp] theorem State.settleWritten_freeDraws (s : State) (f : Nat) (a : SectorAddr) : (s.settleWritten f a).freeDraws = s.freeDraws :=
  by unfold State.settleWritten; split <;> simp

@[simp] theorem State.giveStaged_pending (s : State) (r : Request) (i : Nat) (f : Nat) : (s.giveStaged r i f).pending = s.pending :=
  by simp [State.giveStaged]
@[simp] theorem State.giveStaged_powered (s : State) (r : Request) (i : Nat) (f : Nat) : (s.giveStaged r i f).powered = s.powered :=
  by simp [State.giveStaged]
@[simp] theorem State.giveStaged_pins (s : State) (r : Request) (i : Nat) (f : Nat) : (s.giveStaged r i f).pins = s.pins :=
  by simp [State.giveStaged]
@[simp] theorem State.giveStaged_lines (s : State) (r : Request) (i : Nat) (f : Nat) : (s.giveStaged r i f).lines = s.lines :=
  by simp [State.giveStaged]
@[simp] theorem State.giveStaged_drive (s : State) (r : Request) (i : Nat) (f : Nat) : (s.giveStaged r i f).drive = s.drive :=
  by simp [State.giveStaged]
@[simp] theorem State.giveStaged_clock (s : State) (r : Request) (i : Nat) (f : Nat) : (s.giveStaged r i f).clock = s.clock :=
  by simp [State.giveStaged]
@[simp] theorem State.giveStaged_identity (s : State) (r : Request) (i : Nat) (f : Nat) : (s.giveStaged r i f).identity = s.identity :=
  by simp [State.giveStaged]
@[simp] theorem State.giveStaged_zones (s : State) (r : Request) (i : Nat) (f : Nat) : (s.giveStaged r i f).zones = s.zones :=
  by simp [State.giveStaged]
@[simp] theorem State.giveStaged_faults (s : State) (r : Request) (i : Nat) (f : Nat) : (s.giveStaged r i f).faults = s.faults :=
  by simp [State.giveStaged]
@[simp] theorem State.giveStaged_access (s : State) (r : Request) (i : Nat) (f : Nat) : (s.giveStaged r i f).access = s.access :=
  by simp [State.giveStaged]
@[simp] theorem State.giveStaged_seq (s : State) (r : Request) (i : Nat) (f : Nat) : (s.giveStaged r i f).seq = s.seq :=
  by simp [State.giveStaged]
@[simp] theorem State.giveStaged_monitor (s : State) (r : Request) (i : Nat) (f : Nat) : (s.giveStaged r i f).monitor = s.monitor :=
  by simp [State.giveStaged]
@[simp] theorem State.giveStaged_unit (s : State) (r : Request) (i : Nat) (f : Nat) : (s.giveStaged r i f).unit = s.unit :=
  by simp [State.giveStaged]
@[simp] theorem State.giveStaged_cart (s : State) (r : Request) (i : Nat) (f : Nat) : (s.giveStaged r i f).cart = s.cart :=
  by simp [State.giveStaged]
@[simp] theorem State.giveStaged_freeDraws (s : State) (r : Request) (i : Nat) (f : Nat) : (s.giveStaged r i f).freeDraws = s.freeDraws :=
  by simp [State.giveStaged]

@[simp] theorem State.giveFilling_pending (s : State) (r : Request) (a : SectorAddr) (f : Nat) : (s.giveFilling r a f).pending = s.pending :=
  by simp [State.giveFilling]
@[simp] theorem State.giveFilling_powered (s : State) (r : Request) (a : SectorAddr) (f : Nat) : (s.giveFilling r a f).powered = s.powered :=
  by simp [State.giveFilling]
@[simp] theorem State.giveFilling_pins (s : State) (r : Request) (a : SectorAddr) (f : Nat) : (s.giveFilling r a f).pins = s.pins :=
  by simp [State.giveFilling]
@[simp] theorem State.giveFilling_lines (s : State) (r : Request) (a : SectorAddr) (f : Nat) : (s.giveFilling r a f).lines = s.lines :=
  by simp [State.giveFilling]
@[simp] theorem State.giveFilling_drive (s : State) (r : Request) (a : SectorAddr) (f : Nat) : (s.giveFilling r a f).drive = s.drive :=
  by simp [State.giveFilling]
@[simp] theorem State.giveFilling_clock (s : State) (r : Request) (a : SectorAddr) (f : Nat) : (s.giveFilling r a f).clock = s.clock :=
  by simp [State.giveFilling]
@[simp] theorem State.giveFilling_identity (s : State) (r : Request) (a : SectorAddr) (f : Nat) : (s.giveFilling r a f).identity = s.identity :=
  by simp [State.giveFilling]
@[simp] theorem State.giveFilling_zones (s : State) (r : Request) (a : SectorAddr) (f : Nat) : (s.giveFilling r a f).zones = s.zones :=
  by simp [State.giveFilling]
@[simp] theorem State.giveFilling_port (s : State) (r : Request) (a : SectorAddr) (f : Nat) : (s.giveFilling r a f).port = s.port :=
  by simp [State.giveFilling]
@[simp] theorem State.giveFilling_faults (s : State) (r : Request) (a : SectorAddr) (f : Nat) : (s.giveFilling r a f).faults = s.faults :=
  by simp [State.giveFilling]
@[simp] theorem State.giveFilling_access (s : State) (r : Request) (a : SectorAddr) (f : Nat) : (s.giveFilling r a f).access = s.access :=
  by simp [State.giveFilling]
@[simp] theorem State.giveFilling_seq (s : State) (r : Request) (a : SectorAddr) (f : Nat) : (s.giveFilling r a f).seq = s.seq :=
  by simp [State.giveFilling]
@[simp] theorem State.giveFilling_monitor (s : State) (r : Request) (a : SectorAddr) (f : Nat) : (s.giveFilling r a f).monitor = s.monitor :=
  by simp [State.giveFilling]
@[simp] theorem State.giveFilling_unit (s : State) (r : Request) (a : SectorAddr) (f : Nat) : (s.giveFilling r a f).unit = s.unit :=
  by simp [State.giveFilling]
@[simp] theorem State.giveFilling_cart (s : State) (r : Request) (a : SectorAddr) (f : Nat) : (s.giveFilling r a f).cart = s.cart :=
  by simp [State.giveFilling]
@[simp] theorem State.giveFilling_freeDraws (s : State) (r : Request) (a : SectorAddr) (f : Nat) : (s.giveFilling r a f).freeDraws = s.freeDraws :=
  by simp [State.giveFilling]

@[simp] theorem State.giveLabel_pending (s : State) (f : Nat) : (s.giveLabel f).pending = s.pending :=
  by simp [State.giveLabel]
@[simp] theorem State.giveLabel_powered (s : State) (f : Nat) : (s.giveLabel f).powered = s.powered :=
  by simp [State.giveLabel]
@[simp] theorem State.giveLabel_pins (s : State) (f : Nat) : (s.giveLabel f).pins = s.pins :=
  by simp [State.giveLabel]
@[simp] theorem State.giveLabel_lines (s : State) (f : Nat) : (s.giveLabel f).lines = s.lines :=
  by simp [State.giveLabel]
@[simp] theorem State.giveLabel_drive (s : State) (f : Nat) : (s.giveLabel f).drive = s.drive :=
  by simp [State.giveLabel]
@[simp] theorem State.giveLabel_clock (s : State) (f : Nat) : (s.giveLabel f).clock = s.clock :=
  by simp [State.giveLabel]
@[simp] theorem State.giveLabel_identity (s : State) (f : Nat) : (s.giveLabel f).identity = s.identity :=
  by simp [State.giveLabel]
@[simp] theorem State.giveLabel_zones (s : State) (f : Nat) : (s.giveLabel f).zones = s.zones :=
  by simp [State.giveLabel]
@[simp] theorem State.giveLabel_port (s : State) (f : Nat) : (s.giveLabel f).port = s.port :=
  by simp [State.giveLabel]
@[simp] theorem State.giveLabel_queue (s : State) (f : Nat) : (s.giveLabel f).queue = s.queue :=
  by simp [State.giveLabel]
@[simp] theorem State.giveLabel_faults (s : State) (f : Nat) : (s.giveLabel f).faults = s.faults :=
  by simp [State.giveLabel]
@[simp] theorem State.giveLabel_access (s : State) (f : Nat) : (s.giveLabel f).access = s.access :=
  by simp [State.giveLabel]
@[simp] theorem State.giveLabel_seq (s : State) (f : Nat) : (s.giveLabel f).seq = s.seq :=
  by simp [State.giveLabel]
@[simp] theorem State.giveLabel_monitor (s : State) (f : Nat) : (s.giveLabel f).monitor = s.monitor :=
  by simp [State.giveLabel]
@[simp] theorem State.giveLabel_unit (s : State) (f : Nat) : (s.giveLabel f).unit = s.unit :=
  by simp [State.giveLabel]
@[simp] theorem State.giveLabel_cart (s : State) (f : Nat) : (s.giveLabel f).cart = s.cart :=
  by simp [State.giveLabel]
@[simp] theorem State.giveLabel_freeDraws (s : State) (f : Nat) : (s.giveLabel f).freeDraws = s.freeDraws :=
  by simp [State.giveLabel]

@[simp] theorem State.giveFrame_pending (s : State) (w : AllocWait) (f : Nat) : (s.giveFrame w f).pending = s.pending := by
  unfold State.giveFrame; repeat' split
  all_goals simp
@[simp] theorem State.giveFrame_powered (s : State) (w : AllocWait) (f : Nat) : (s.giveFrame w f).powered = s.powered := by
  unfold State.giveFrame; repeat' split
  all_goals simp
@[simp] theorem State.giveFrame_pins (s : State) (w : AllocWait) (f : Nat) : (s.giveFrame w f).pins = s.pins := by
  unfold State.giveFrame; repeat' split
  all_goals simp
@[simp] theorem State.giveFrame_lines (s : State) (w : AllocWait) (f : Nat) : (s.giveFrame w f).lines = s.lines := by
  unfold State.giveFrame; repeat' split
  all_goals simp
@[simp] theorem State.giveFrame_drive (s : State) (w : AllocWait) (f : Nat) : (s.giveFrame w f).drive = s.drive := by
  unfold State.giveFrame; repeat' split
  all_goals simp
@[simp] theorem State.giveFrame_clock (s : State) (w : AllocWait) (f : Nat) : (s.giveFrame w f).clock = s.clock := by
  unfold State.giveFrame; repeat' split
  all_goals simp
@[simp] theorem State.giveFrame_identity (s : State) (w : AllocWait) (f : Nat) : (s.giveFrame w f).identity = s.identity := by
  unfold State.giveFrame; repeat' split
  all_goals simp
@[simp] theorem State.giveFrame_zones (s : State) (w : AllocWait) (f : Nat) : (s.giveFrame w f).zones = s.zones := by
  unfold State.giveFrame; repeat' split
  all_goals simp
@[simp] theorem State.giveFrame_faults (s : State) (w : AllocWait) (f : Nat) : (s.giveFrame w f).faults = s.faults := by
  unfold State.giveFrame; repeat' split
  all_goals simp
@[simp] theorem State.giveFrame_access (s : State) (w : AllocWait) (f : Nat) : (s.giveFrame w f).access = s.access := by
  unfold State.giveFrame; repeat' split
  all_goals simp
@[simp] theorem State.giveFrame_seq (s : State) (w : AllocWait) (f : Nat) : (s.giveFrame w f).seq = s.seq := by
  unfold State.giveFrame; repeat' split
  all_goals simp
@[simp] theorem State.giveFrame_monitor (s : State) (w : AllocWait) (f : Nat) : (s.giveFrame w f).monitor = s.monitor := by
  unfold State.giveFrame; repeat' split
  all_goals simp
@[simp] theorem State.giveFrame_unit (s : State) (w : AllocWait) (f : Nat) : (s.giveFrame w f).unit = s.unit := by
  unfold State.giveFrame; repeat' split
  all_goals simp
@[simp] theorem State.giveFrame_cart (s : State) (w : AllocWait) (f : Nat) : (s.giveFrame w f).cart = s.cart := by
  unfold State.giveFrame; repeat' split
  all_goals simp
@[simp] theorem State.giveFrame_freeDraws (s : State) (w : AllocWait) (f : Nat) : (s.giveFrame w f).freeDraws = s.freeDraws := by
  unfold State.giveFrame; repeat' split
  all_goals simp

theorem State.allocate_pending {s t : State} {f : Nat} (h : s.allocate = some (f, t)) : t.pending = s.pending := by
  unfold State.allocate at h
  split at h
  · cases h; rfl
  · obtain ⟨g, -, e⟩ := Option.map_eq_some_iff.mp h
    cases e; simp
@[simp] theorem State.serveList_pending (s : State) (l : List AllocWait) : (s.serveList l).pending = s.pending := by
  induction l generalizing s with
  | nil => rfl
  | cons w ws ih =>
    unfold State.serveList; split
    · rfl
    · rename_i h; simp [ih, State.allocate_pending h]
theorem State.allocate_powered {s t : State} {f : Nat} (h : s.allocate = some (f, t)) : t.powered = s.powered := by
  unfold State.allocate at h
  split at h
  · cases h; rfl
  · obtain ⟨g, -, e⟩ := Option.map_eq_some_iff.mp h
    cases e; simp
@[simp] theorem State.serveList_powered (s : State) (l : List AllocWait) : (s.serveList l).powered = s.powered := by
  induction l generalizing s with
  | nil => rfl
  | cons w ws ih =>
    unfold State.serveList; split
    · rfl
    · rename_i h; simp [ih, State.allocate_powered h]
theorem State.allocate_pins {s t : State} {f : Nat} (h : s.allocate = some (f, t)) : t.pins = s.pins := by
  unfold State.allocate at h
  split at h
  · cases h; rfl
  · obtain ⟨g, -, e⟩ := Option.map_eq_some_iff.mp h
    cases e; simp
@[simp] theorem State.serveList_pins (s : State) (l : List AllocWait) : (s.serveList l).pins = s.pins := by
  induction l generalizing s with
  | nil => rfl
  | cons w ws ih =>
    unfold State.serveList; split
    · rfl
    · rename_i h; simp [ih, State.allocate_pins h]
theorem State.allocate_lines {s t : State} {f : Nat} (h : s.allocate = some (f, t)) : t.lines = s.lines := by
  unfold State.allocate at h
  split at h
  · cases h; rfl
  · obtain ⟨g, -, e⟩ := Option.map_eq_some_iff.mp h
    cases e; simp
@[simp] theorem State.serveList_lines (s : State) (l : List AllocWait) : (s.serveList l).lines = s.lines := by
  induction l generalizing s with
  | nil => rfl
  | cons w ws ih =>
    unfold State.serveList; split
    · rfl
    · rename_i h; simp [ih, State.allocate_lines h]
theorem State.allocate_drive {s t : State} {f : Nat} (h : s.allocate = some (f, t)) : t.drive = s.drive := by
  unfold State.allocate at h
  split at h
  · cases h; rfl
  · obtain ⟨g, -, e⟩ := Option.map_eq_some_iff.mp h
    cases e; simp
@[simp] theorem State.serveList_drive (s : State) (l : List AllocWait) : (s.serveList l).drive = s.drive := by
  induction l generalizing s with
  | nil => rfl
  | cons w ws ih =>
    unfold State.serveList; split
    · rfl
    · rename_i h; simp [ih, State.allocate_drive h]
theorem State.allocate_clock {s t : State} {f : Nat} (h : s.allocate = some (f, t)) : t.clock = s.clock := by
  unfold State.allocate at h
  split at h
  · cases h; rfl
  · obtain ⟨g, -, e⟩ := Option.map_eq_some_iff.mp h
    cases e; simp
@[simp] theorem State.serveList_clock (s : State) (l : List AllocWait) : (s.serveList l).clock = s.clock := by
  induction l generalizing s with
  | nil => rfl
  | cons w ws ih =>
    unfold State.serveList; split
    · rfl
    · rename_i h; simp [ih, State.allocate_clock h]
theorem State.allocate_identity {s t : State} {f : Nat} (h : s.allocate = some (f, t)) : t.identity = s.identity := by
  unfold State.allocate at h
  split at h
  · cases h; rfl
  · obtain ⟨g, -, e⟩ := Option.map_eq_some_iff.mp h
    cases e; simp
@[simp] theorem State.serveList_identity (s : State) (l : List AllocWait) : (s.serveList l).identity = s.identity := by
  induction l generalizing s with
  | nil => rfl
  | cons w ws ih =>
    unfold State.serveList; split
    · rfl
    · rename_i h; simp [ih, State.allocate_identity h]
theorem State.allocate_zones {s t : State} {f : Nat} (h : s.allocate = some (f, t)) : t.zones = s.zones := by
  unfold State.allocate at h
  split at h
  · cases h; rfl
  · obtain ⟨g, -, e⟩ := Option.map_eq_some_iff.mp h
    cases e; simp
@[simp] theorem State.serveList_zones (s : State) (l : List AllocWait) : (s.serveList l).zones = s.zones := by
  induction l generalizing s with
  | nil => rfl
  | cons w ws ih =>
    unfold State.serveList; split
    · rfl
    · rename_i h; simp [ih, State.allocate_zones h]
theorem State.allocate_faults {s t : State} {f : Nat} (h : s.allocate = some (f, t)) : t.faults = s.faults := by
  unfold State.allocate at h
  split at h
  · cases h; rfl
  · obtain ⟨g, -, e⟩ := Option.map_eq_some_iff.mp h
    cases e; simp
@[simp] theorem State.serveList_faults (s : State) (l : List AllocWait) : (s.serveList l).faults = s.faults := by
  induction l generalizing s with
  | nil => rfl
  | cons w ws ih =>
    unfold State.serveList; split
    · rfl
    · rename_i h; simp [ih, State.allocate_faults h]
theorem State.allocate_access {s t : State} {f : Nat} (h : s.allocate = some (f, t)) : t.access = s.access := by
  unfold State.allocate at h
  split at h
  · cases h; rfl
  · obtain ⟨g, -, e⟩ := Option.map_eq_some_iff.mp h
    cases e; simp
@[simp] theorem State.serveList_access (s : State) (l : List AllocWait) : (s.serveList l).access = s.access := by
  induction l generalizing s with
  | nil => rfl
  | cons w ws ih =>
    unfold State.serveList; split
    · rfl
    · rename_i h; simp [ih, State.allocate_access h]
theorem State.allocate_seq {s t : State} {f : Nat} (h : s.allocate = some (f, t)) : t.seq = s.seq := by
  unfold State.allocate at h
  split at h
  · cases h; rfl
  · obtain ⟨g, -, e⟩ := Option.map_eq_some_iff.mp h
    cases e; simp
@[simp] theorem State.serveList_seq (s : State) (l : List AllocWait) : (s.serveList l).seq = s.seq := by
  induction l generalizing s with
  | nil => rfl
  | cons w ws ih =>
    unfold State.serveList; split
    · rfl
    · rename_i h; simp [ih, State.allocate_seq h]
theorem State.allocate_unit {s t : State} {f : Nat} (h : s.allocate = some (f, t)) : t.unit = s.unit := by
  unfold State.allocate at h
  split at h
  · cases h; rfl
  · obtain ⟨g, -, e⟩ := Option.map_eq_some_iff.mp h
    cases e; simp
@[simp] theorem State.serveList_unit (s : State) (l : List AllocWait) : (s.serveList l).unit = s.unit := by
  induction l generalizing s with
  | nil => rfl
  | cons w ws ih =>
    unfold State.serveList; split
    · rfl
    · rename_i h; simp [ih, State.allocate_unit h]
theorem State.allocate_cart {s t : State} {f : Nat} (h : s.allocate = some (f, t)) : t.cart = s.cart := by
  unfold State.allocate at h
  split at h
  · cases h; rfl
  · obtain ⟨g, -, e⟩ := Option.map_eq_some_iff.mp h
    cases e; simp
@[simp] theorem State.serveList_cart (s : State) (l : List AllocWait) : (s.serveList l).cart = s.cart := by
  induction l generalizing s with
  | nil => rfl
  | cons w ws ih =>
    unfold State.serveList; split
    · rfl
    · rename_i h; simp [ih, State.allocate_cart h]
theorem State.allocate_freeDraws {s t : State} {f : Nat} (h : s.allocate = some (f, t)) : t.freeDraws = s.freeDraws := by
  unfold State.allocate at h
  split at h
  · cases h; rfl
  · obtain ⟨g, -, e⟩ := Option.map_eq_some_iff.mp h
    cases e; simp
@[simp] theorem State.serveList_freeDraws (s : State) (l : List AllocWait) : (s.serveList l).freeDraws = s.freeDraws := by
  induction l generalizing s with
  | nil => rfl
  | cons w ws ih =>
    unfold State.serveList; split
    · rfl
    · rename_i h; simp [ih, State.allocate_freeDraws h]
@[simp] theorem State.serveWaits_pending (s : State) : (s.serveWaits).pending = s.pending :=
  s.serveList_pending _
@[simp] theorem State.serveWaits_powered (s : State) : (s.serveWaits).powered = s.powered :=
  s.serveList_powered _
@[simp] theorem State.serveWaits_pins (s : State) : (s.serveWaits).pins = s.pins :=
  s.serveList_pins _
@[simp] theorem State.serveWaits_lines (s : State) : (s.serveWaits).lines = s.lines :=
  s.serveList_lines _
@[simp] theorem State.serveWaits_drive (s : State) : (s.serveWaits).drive = s.drive :=
  s.serveList_drive _
@[simp] theorem State.serveWaits_clock (s : State) : (s.serveWaits).clock = s.clock :=
  s.serveList_clock _
@[simp] theorem State.serveWaits_identity (s : State) : (s.serveWaits).identity = s.identity :=
  s.serveList_identity _
@[simp] theorem State.serveWaits_zones (s : State) : (s.serveWaits).zones = s.zones :=
  s.serveList_zones _
@[simp] theorem State.serveWaits_faults (s : State) : (s.serveWaits).faults = s.faults :=
  s.serveList_faults _
@[simp] theorem State.serveWaits_access (s : State) : (s.serveWaits).access = s.access :=
  s.serveList_access _
@[simp] theorem State.serveWaits_seq (s : State) : (s.serveWaits).seq = s.seq :=
  s.serveList_seq _
@[simp] theorem State.serveWaits_unit (s : State) : (s.serveWaits).unit = s.unit :=
  s.serveList_unit _
@[simp] theorem State.serveWaits_cart (s : State) : (s.serveWaits).cart = s.cart :=
  s.serveList_cart _
@[simp] theorem State.serveWaits_freeDraws (s : State) : (s.serveWaits).freeDraws = s.freeDraws :=
  s.serveList_freeDraws _

@[simp] theorem State.allocOrWait_pending (s : State) (w : AllocWait) : (s.allocOrWait w).pending = s.pending :=
  s.serveList_pending _
@[simp] theorem State.allocOrWait_powered (s : State) (w : AllocWait) : (s.allocOrWait w).powered = s.powered :=
  s.serveList_powered _
@[simp] theorem State.allocOrWait_pins (s : State) (w : AllocWait) : (s.allocOrWait w).pins = s.pins :=
  s.serveList_pins _
@[simp] theorem State.allocOrWait_lines (s : State) (w : AllocWait) : (s.allocOrWait w).lines = s.lines :=
  s.serveList_lines _
@[simp] theorem State.allocOrWait_drive (s : State) (w : AllocWait) : (s.allocOrWait w).drive = s.drive :=
  s.serveList_drive _
@[simp] theorem State.allocOrWait_clock (s : State) (w : AllocWait) : (s.allocOrWait w).clock = s.clock :=
  s.serveList_clock _
@[simp] theorem State.allocOrWait_identity (s : State) (w : AllocWait) : (s.allocOrWait w).identity = s.identity :=
  s.serveList_identity _
@[simp] theorem State.allocOrWait_zones (s : State) (w : AllocWait) : (s.allocOrWait w).zones = s.zones :=
  s.serveList_zones _
@[simp] theorem State.allocOrWait_faults (s : State) (w : AllocWait) : (s.allocOrWait w).faults = s.faults :=
  s.serveList_faults _
@[simp] theorem State.allocOrWait_access (s : State) (w : AllocWait) : (s.allocOrWait w).access = s.access :=
  s.serveList_access _
@[simp] theorem State.allocOrWait_seq (s : State) (w : AllocWait) : (s.allocOrWait w).seq = s.seq :=
  s.serveList_seq _
@[simp] theorem State.allocOrWait_unit (s : State) (w : AllocWait) : (s.allocOrWait w).unit = s.unit :=
  s.serveList_unit _
@[simp] theorem State.allocOrWait_cart (s : State) (w : AllocWait) : (s.allocOrWait w).cart = s.cart :=
  s.serveList_cart _
@[simp] theorem State.allocOrWait_freeDraws (s : State) (w : AllocWait) : (s.allocOrWait w).freeDraws = s.freeDraws :=
  s.serveList_freeDraws _

@[simp] theorem State.tidy_pending (s : State) : (s.tidy).pending = s.pending :=
  by simp [State.tidy]
@[simp] theorem State.tidy_powered (s : State) : (s.tidy).powered = s.powered :=
  by simp [State.tidy]
@[simp] theorem State.tidy_pins (s : State) : (s.tidy).pins = s.pins :=
  by simp [State.tidy]
@[simp] theorem State.tidy_lines (s : State) : (s.tidy).lines = s.lines :=
  by simp [State.tidy]
@[simp] theorem State.tidy_drive (s : State) : (s.tidy).drive = s.drive :=
  by simp [State.tidy]
@[simp] theorem State.tidy_clock (s : State) : (s.tidy).clock = s.clock :=
  by simp [State.tidy]
@[simp] theorem State.tidy_identity (s : State) : (s.tidy).identity = s.identity :=
  by simp [State.tidy]
@[simp] theorem State.tidy_zones (s : State) : (s.tidy).zones = s.zones :=
  by simp [State.tidy]
@[simp] theorem State.tidy_faults (s : State) : (s.tidy).faults = s.faults :=
  by simp [State.tidy]
@[simp] theorem State.tidy_access (s : State) : (s.tidy).access = s.access :=
  by simp [State.tidy]
@[simp] theorem State.tidy_seq (s : State) : (s.tidy).seq = s.seq :=
  by simp [State.tidy]
@[simp] theorem State.tidy_unit (s : State) : (s.tidy).unit = s.unit :=
  by simp [State.tidy]
@[simp] theorem State.tidy_cart (s : State) : (s.tidy).cart = s.cart :=
  by simp [State.tidy]
@[simp] theorem State.tidy_freeDraws (s : State) : (s.tidy).freeDraws = s.freeDraws :=
  by simp [State.tidy]

@[simp] theorem State.queueDelivery_pending (s : State) (r : Request) (i : Nat) (f : Nat) : (s.queueDelivery r i f).pending = s.pending :=
  by unfold State.queueDelivery; split <;> simp
@[simp] theorem State.queueDelivery_powered (s : State) (r : Request) (i : Nat) (f : Nat) : (s.queueDelivery r i f).powered = s.powered :=
  by unfold State.queueDelivery; split <;> simp
@[simp] theorem State.queueDelivery_pins (s : State) (r : Request) (i : Nat) (f : Nat) : (s.queueDelivery r i f).pins = s.pins :=
  by unfold State.queueDelivery; split <;> simp
@[simp] theorem State.queueDelivery_lines (s : State) (r : Request) (i : Nat) (f : Nat) : (s.queueDelivery r i f).lines = s.lines :=
  by unfold State.queueDelivery; split <;> simp
@[simp] theorem State.queueDelivery_drive (s : State) (r : Request) (i : Nat) (f : Nat) : (s.queueDelivery r i f).drive = s.drive :=
  by unfold State.queueDelivery; split <;> simp
@[simp] theorem State.queueDelivery_clock (s : State) (r : Request) (i : Nat) (f : Nat) : (s.queueDelivery r i f).clock = s.clock :=
  by unfold State.queueDelivery; split <;> simp
@[simp] theorem State.queueDelivery_identity (s : State) (r : Request) (i : Nat) (f : Nat) : (s.queueDelivery r i f).identity = s.identity :=
  by unfold State.queueDelivery; split <;> simp
@[simp] theorem State.queueDelivery_zones (s : State) (r : Request) (i : Nat) (f : Nat) : (s.queueDelivery r i f).zones = s.zones :=
  by unfold State.queueDelivery; split <;> simp
@[simp] theorem State.queueDelivery_queue (s : State) (r : Request) (i : Nat) (f : Nat) : (s.queueDelivery r i f).queue = s.queue :=
  by unfold State.queueDelivery; split <;> simp
@[simp] theorem State.queueDelivery_faults (s : State) (r : Request) (i : Nat) (f : Nat) : (s.queueDelivery r i f).faults = s.faults :=
  by unfold State.queueDelivery; split <;> simp
@[simp] theorem State.queueDelivery_access (s : State) (r : Request) (i : Nat) (f : Nat) : (s.queueDelivery r i f).access = s.access :=
  by unfold State.queueDelivery; split <;> simp
@[simp] theorem State.queueDelivery_seq (s : State) (r : Request) (i : Nat) (f : Nat) : (s.queueDelivery r i f).seq = s.seq :=
  by unfold State.queueDelivery; split <;> simp
@[simp] theorem State.queueDelivery_cache (s : State) (r : Request) (i : Nat) (f : Nat) : (s.queueDelivery r i f).cache = s.cache :=
  by unfold State.queueDelivery; split <;> simp
@[simp] theorem State.queueDelivery_monitor (s : State) (r : Request) (i : Nat) (f : Nat) : (s.queueDelivery r i f).monitor = s.monitor :=
  by unfold State.queueDelivery; split <;> simp
@[simp] theorem State.queueDelivery_unit (s : State) (r : Request) (i : Nat) (f : Nat) : (s.queueDelivery r i f).unit = s.unit :=
  by unfold State.queueDelivery; split <;> simp
@[simp] theorem State.queueDelivery_cart (s : State) (r : Request) (i : Nat) (f : Nat) : (s.queueDelivery r i f).cart = s.cart :=
  by unfold State.queueDelivery; split <;> simp
@[simp] theorem State.queueDelivery_freeDraws (s : State) (r : Request) (i : Nat) (f : Nat) : (s.queueDelivery r i f).freeDraws = s.freeDraws :=
  by unfold State.queueDelivery; split <;> simp

@[simp] theorem State.settleAccess_pending (s : State) : (s.settleAccess).pending = s.pending := by
  unfold State.settleAccess; repeat' split
  all_goals rfl
@[simp] theorem State.settleAccess_powered (s : State) : (s.settleAccess).powered = s.powered := by
  unfold State.settleAccess; repeat' split
  all_goals rfl
@[simp] theorem State.settleAccess_pins (s : State) : (s.settleAccess).pins = s.pins := by
  unfold State.settleAccess; repeat' split
  all_goals rfl
@[simp] theorem State.settleAccess_drive (s : State) : (s.settleAccess).drive = s.drive := by
  unfold State.settleAccess; repeat' split
  all_goals rfl
@[simp] theorem State.settleAccess_clock (s : State) : (s.settleAccess).clock = s.clock := by
  unfold State.settleAccess; repeat' split
  all_goals rfl
@[simp] theorem State.settleAccess_identity (s : State) : (s.settleAccess).identity = s.identity := by
  unfold State.settleAccess; repeat' split
  all_goals rfl
@[simp] theorem State.settleAccess_zones (s : State) : (s.settleAccess).zones = s.zones := by
  unfold State.settleAccess; repeat' split
  all_goals rfl
@[simp] theorem State.settleAccess_port (s : State) : (s.settleAccess).port = s.port := by
  unfold State.settleAccess; repeat' split
  all_goals rfl
@[simp] theorem State.settleAccess_queue (s : State) : (s.settleAccess).queue = s.queue := by
  unfold State.settleAccess; repeat' split
  all_goals rfl
@[simp] theorem State.settleAccess_faults (s : State) : (s.settleAccess).faults = s.faults := by
  unfold State.settleAccess; repeat' split
  all_goals rfl
@[simp] theorem State.settleAccess_seq (s : State) : (s.settleAccess).seq = s.seq := by
  unfold State.settleAccess; repeat' split
  all_goals rfl
@[simp] theorem State.settleAccess_cache (s : State) : (s.settleAccess).cache = s.cache := by
  unfold State.settleAccess; repeat' split
  all_goals rfl
@[simp] theorem State.settleAccess_monitor (s : State) : (s.settleAccess).monitor = s.monitor := by
  unfold State.settleAccess; repeat' split
  all_goals rfl
@[simp] theorem State.settleAccess_unit (s : State) : (s.settleAccess).unit = s.unit := by
  unfold State.settleAccess; repeat' split
  all_goals rfl
@[simp] theorem State.settleAccess_cart (s : State) : (s.settleAccess).cart = s.cart := by
  unfold State.settleAccess; repeat' split
  all_goals rfl
@[simp] theorem State.settleAccess_freeDraws (s : State) : (s.settleAccess).freeDraws = s.freeDraws := by
  unfold State.settleAccess; repeat' split
  all_goals rfl

@[simp] theorem State.findHold_pending (s : State) : (s.findHold).pending = s.pending :=
  by unfold State.findHold; split <;> rfl
@[simp] theorem State.findHold_powered (s : State) : (s.findHold).powered = s.powered :=
  by unfold State.findHold; split <;> rfl
@[simp] theorem State.findHold_pins (s : State) : (s.findHold).pins = s.pins :=
  by unfold State.findHold; split <;> rfl
@[simp] theorem State.findHold_lines (s : State) : (s.findHold).lines = s.lines :=
  by unfold State.findHold; split <;> rfl
@[simp] theorem State.findHold_drive (s : State) : (s.findHold).drive = s.drive :=
  by unfold State.findHold; split <;> rfl
@[simp] theorem State.findHold_clock (s : State) : (s.findHold).clock = s.clock :=
  by unfold State.findHold; split <;> rfl
@[simp] theorem State.findHold_identity (s : State) : (s.findHold).identity = s.identity :=
  by unfold State.findHold; split <;> rfl
@[simp] theorem State.findHold_zones (s : State) : (s.findHold).zones = s.zones :=
  by unfold State.findHold; split <;> rfl
@[simp] theorem State.findHold_port (s : State) : (s.findHold).port = s.port :=
  by unfold State.findHold; split <;> rfl
@[simp] theorem State.findHold_queue (s : State) : (s.findHold).queue = s.queue :=
  by unfold State.findHold; split <;> rfl
@[simp] theorem State.findHold_faults (s : State) : (s.findHold).faults = s.faults :=
  by unfold State.findHold; split <;> rfl
@[simp] theorem State.findHold_seq (s : State) : (s.findHold).seq = s.seq :=
  by unfold State.findHold; split <;> rfl
@[simp] theorem State.findHold_cache (s : State) : (s.findHold).cache = s.cache :=
  by unfold State.findHold; split <;> rfl
@[simp] theorem State.findHold_unit (s : State) : (s.findHold).unit = s.unit :=
  by unfold State.findHold; split <;> rfl
@[simp] theorem State.findHold_cart (s : State) : (s.findHold).cart = s.cart :=
  by unfold State.findHold; split <;> rfl
@[simp] theorem State.findHold_freeDraws (s : State) : (s.findHold).freeDraws = s.freeDraws :=
  by unfold State.findHold; split <;> rfl

@[simp] theorem State.releaseLine_pending (s : State) : (s.releaseLine).pending = s.pending :=
  by simp [State.releaseLine]
@[simp] theorem State.releaseLine_powered (s : State) : (s.releaseLine).powered = s.powered :=
  by simp [State.releaseLine]
@[simp] theorem State.releaseLine_pins (s : State) : (s.releaseLine).pins = s.pins :=
  by simp [State.releaseLine]
@[simp] theorem State.releaseLine_clock (s : State) : (s.releaseLine).clock = s.clock :=
  by simp [State.releaseLine]
@[simp] theorem State.releaseLine_identity (s : State) : (s.releaseLine).identity = s.identity :=
  by simp [State.releaseLine]
@[simp] theorem State.releaseLine_zones (s : State) : (s.releaseLine).zones = s.zones :=
  by simp [State.releaseLine]
@[simp] theorem State.releaseLine_port (s : State) : (s.releaseLine).port = s.port :=
  by simp [State.releaseLine]
@[simp] theorem State.releaseLine_queue (s : State) : (s.releaseLine).queue = s.queue :=
  by simp [State.releaseLine]
@[simp] theorem State.releaseLine_faults (s : State) : (s.releaseLine).faults = s.faults :=
  by simp [State.releaseLine]
@[simp] theorem State.releaseLine_seq (s : State) : (s.releaseLine).seq = s.seq :=
  by simp [State.releaseLine]
@[simp] theorem State.releaseLine_cache (s : State) : (s.releaseLine).cache = s.cache :=
  by simp [State.releaseLine]
@[simp] theorem State.releaseLine_unit (s : State) : (s.releaseLine).unit = s.unit :=
  by simp [State.releaseLine]
@[simp] theorem State.releaseLine_cart (s : State) : (s.releaseLine).cart = s.cart :=
  by simp [State.releaseLine]
@[simp] theorem State.releaseLine_freeDraws (s : State) : (s.releaseLine).freeDraws = s.freeDraws :=
  by simp [State.releaseLine]

@[simp] theorem State.tick_pending (s : State) : (s.tick).pending = s.pending :=
  by unfold State.tick; split <;> simp
@[simp] theorem State.tick_powered (s : State) : (s.tick).powered = s.powered :=
  by unfold State.tick; split <;> simp
@[simp] theorem State.tick_pins (s : State) : (s.tick).pins = s.pins :=
  by unfold State.tick; split <;> simp
@[simp] theorem State.tick_lines (s : State) : (s.tick).lines = s.lines :=
  by unfold State.tick; split <;> simp
@[simp] theorem State.tick_drive (s : State) : (s.tick).drive = s.drive :=
  by unfold State.tick; split <;> simp
@[simp] theorem State.tick_identity (s : State) : (s.tick).identity = s.identity :=
  by unfold State.tick; split <;> simp
@[simp] theorem State.tick_zones (s : State) : (s.tick).zones = s.zones :=
  by unfold State.tick; split <;> simp
@[simp] theorem State.tick_port (s : State) : (s.tick).port = s.port :=
  by unfold State.tick; split <;> simp
@[simp] theorem State.tick_queue (s : State) : (s.tick).queue = s.queue :=
  by unfold State.tick; split <;> simp
@[simp] theorem State.tick_faults (s : State) : (s.tick).faults = s.faults :=
  by unfold State.tick; split <;> simp
@[simp] theorem State.tick_seq (s : State) : (s.tick).seq = s.seq :=
  by unfold State.tick; split <;> simp
@[simp] theorem State.tick_cache (s : State) : (s.tick).cache = s.cache :=
  by unfold State.tick; split <;> simp
@[simp] theorem State.tick_unit (s : State) : (s.tick).unit = s.unit :=
  by unfold State.tick; split <;> simp
@[simp] theorem State.tick_cart (s : State) : (s.tick).cart = s.cart :=
  by unfold State.tick; split <;> simp
@[simp] theorem State.tick_freeDraws (s : State) : (s.tick).freeDraws = s.freeDraws :=
  by unfold State.tick; split <;> simp

@[simp] theorem State.putRead_pending (s : State) (ws : List Word) : (s.putRead ws).pending = s.pending :=
  by unfold State.putRead; split <;> simp
@[simp] theorem State.putRead_powered (s : State) (ws : List Word) : (s.putRead ws).powered = s.powered :=
  by unfold State.putRead; split <;> simp
@[simp] theorem State.putRead_pins (s : State) (ws : List Word) : (s.putRead ws).pins = s.pins :=
  by unfold State.putRead; split <;> simp
@[simp] theorem State.putRead_lines (s : State) (ws : List Word) : (s.putRead ws).lines = s.lines :=
  by unfold State.putRead; split <;> simp
@[simp] theorem State.putRead_drive (s : State) (ws : List Word) : (s.putRead ws).drive = s.drive :=
  by unfold State.putRead; split <;> simp
@[simp] theorem State.putRead_clock (s : State) (ws : List Word) : (s.putRead ws).clock = s.clock :=
  by unfold State.putRead; split <;> simp
@[simp] theorem State.putRead_identity (s : State) (ws : List Word) : (s.putRead ws).identity = s.identity :=
  by unfold State.putRead; split <;> simp
@[simp] theorem State.putRead_zones (s : State) (ws : List Word) : (s.putRead ws).zones = s.zones :=
  by unfold State.putRead; split <;> simp
@[simp] theorem State.putRead_port (s : State) (ws : List Word) : (s.putRead ws).port = s.port :=
  by unfold State.putRead; split <;> simp
@[simp] theorem State.putRead_queue (s : State) (ws : List Word) : (s.putRead ws).queue = s.queue :=
  by unfold State.putRead; split <;> simp
@[simp] theorem State.putRead_faults (s : State) (ws : List Word) : (s.putRead ws).faults = s.faults :=
  by unfold State.putRead; split <;> simp
@[simp] theorem State.putRead_access (s : State) (ws : List Word) : (s.putRead ws).access = s.access :=
  by unfold State.putRead; split <;> simp
@[simp] theorem State.putRead_seq (s : State) (ws : List Word) : (s.putRead ws).seq = s.seq :=
  by unfold State.putRead; split <;> simp
@[simp] theorem State.putRead_monitor (s : State) (ws : List Word) : (s.putRead ws).monitor = s.monitor :=
  by unfold State.putRead; split <;> simp
@[simp] theorem State.putRead_unit (s : State) (ws : List Word) : (s.putRead ws).unit = s.unit :=
  by unfold State.putRead; split <;> simp
@[simp] theorem State.putRead_cart (s : State) (ws : List Word) : (s.putRead ws).cart = s.cart :=
  by unfold State.putRead; split <;> simp
@[simp] theorem State.putRead_freeDraws (s : State) (ws : List Word) : (s.putRead ws).freeDraws = s.freeDraws :=
  by unfold State.putRead; split <;> simp

@[simp] theorem State.callIfUrgent_pending (s : State) : (s.callIfUrgent).pending = s.pending :=
  by unfold State.callIfUrgent; split <;> rfl
@[simp] theorem State.callIfUrgent_powered (s : State) : (s.callIfUrgent).powered = s.powered :=
  by unfold State.callIfUrgent; split <;> rfl
@[simp] theorem State.callIfUrgent_pins (s : State) : (s.callIfUrgent).pins = s.pins :=
  by unfold State.callIfUrgent; split <;> rfl
@[simp] theorem State.callIfUrgent_drive (s : State) : (s.callIfUrgent).drive = s.drive :=
  by unfold State.callIfUrgent; split <;> rfl
@[simp] theorem State.callIfUrgent_clock (s : State) : (s.callIfUrgent).clock = s.clock :=
  by unfold State.callIfUrgent; split <;> rfl
@[simp] theorem State.callIfUrgent_identity (s : State) : (s.callIfUrgent).identity = s.identity :=
  by unfold State.callIfUrgent; split <;> rfl
@[simp] theorem State.callIfUrgent_zones (s : State) : (s.callIfUrgent).zones = s.zones :=
  by unfold State.callIfUrgent; split <;> rfl
@[simp] theorem State.callIfUrgent_port (s : State) : (s.callIfUrgent).port = s.port :=
  by unfold State.callIfUrgent; split <;> rfl
@[simp] theorem State.callIfUrgent_queue (s : State) : (s.callIfUrgent).queue = s.queue :=
  by unfold State.callIfUrgent; split <;> rfl
@[simp] theorem State.callIfUrgent_faults (s : State) : (s.callIfUrgent).faults = s.faults :=
  by unfold State.callIfUrgent; split <;> rfl
@[simp] theorem State.callIfUrgent_access (s : State) : (s.callIfUrgent).access = s.access :=
  by unfold State.callIfUrgent; split <;> rfl
@[simp] theorem State.callIfUrgent_seq (s : State) : (s.callIfUrgent).seq = s.seq :=
  by unfold State.callIfUrgent; split <;> rfl
@[simp] theorem State.callIfUrgent_cache (s : State) : (s.callIfUrgent).cache = s.cache :=
  by unfold State.callIfUrgent; split <;> rfl
@[simp] theorem State.callIfUrgent_monitor (s : State) : (s.callIfUrgent).monitor = s.monitor :=
  by unfold State.callIfUrgent; split <;> rfl
@[simp] theorem State.callIfUrgent_unit (s : State) : (s.callIfUrgent).unit = s.unit :=
  by unfold State.callIfUrgent; split <;> rfl
@[simp] theorem State.callIfUrgent_cart (s : State) : (s.callIfUrgent).cart = s.cart :=
  by unfold State.callIfUrgent; split <;> rfl
@[simp] theorem State.callIfUrgent_freeDraws (s : State) : (s.callIfUrgent).freeDraws = s.freeDraws :=
  by unfold State.callIfUrgent; split <;> rfl

theorem failureWords_pending (s : State) (r : Request) (o : ReqOutcome) : (s.failureWords r o).2.2.pending = s.pending := by
  unfold State.failureWords; split <;> split <;> rfl
theorem failureWords_powered (s : State) (r : Request) (o : ReqOutcome) : (s.failureWords r o).2.2.powered = s.powered := by
  unfold State.failureWords; split <;> split <;> rfl
theorem failureWords_pins (s : State) (r : Request) (o : ReqOutcome) : (s.failureWords r o).2.2.pins = s.pins := by
  unfold State.failureWords; split <;> split <;> rfl
theorem failureWords_lines (s : State) (r : Request) (o : ReqOutcome) : (s.failureWords r o).2.2.lines = s.lines := by
  unfold State.failureWords; split <;> split <;> rfl
theorem failureWords_drive (s : State) (r : Request) (o : ReqOutcome) : (s.failureWords r o).2.2.drive = s.drive := by
  unfold State.failureWords; split <;> split <;> rfl
theorem failureWords_clock (s : State) (r : Request) (o : ReqOutcome) : (s.failureWords r o).2.2.clock = s.clock := by
  unfold State.failureWords; split <;> split <;> rfl
theorem failureWords_identity (s : State) (r : Request) (o : ReqOutcome) : (s.failureWords r o).2.2.identity = s.identity := by
  unfold State.failureWords; split <;> split <;> rfl
theorem failureWords_zones (s : State) (r : Request) (o : ReqOutcome) : (s.failureWords r o).2.2.zones = s.zones := by
  unfold State.failureWords; split <;> split <;> rfl
theorem failureWords_access (s : State) (r : Request) (o : ReqOutcome) : (s.failureWords r o).2.2.access = s.access := by
  unfold State.failureWords; split <;> split <;> rfl
theorem failureWords_seq (s : State) (r : Request) (o : ReqOutcome) : (s.failureWords r o).2.2.seq = s.seq := by
  unfold State.failureWords; split <;> split <;> rfl
theorem failureWords_unit (s : State) (r : Request) (o : ReqOutcome) : (s.failureWords r o).2.2.unit = s.unit := by
  unfold State.failureWords; split <;> split <;> rfl
theorem failureWords_cart (s : State) (r : Request) (o : ReqOutcome) : (s.failureWords r o).2.2.cart = s.cart := by
  unfold State.failureWords; split <;> split <;> rfl
@[simp] theorem State.finish_pending (s : State) (id : Nat) (o : ReqOutcome) : (s.finish id o).pending = s.pending := by
  have h : ∀ (r : Request), (s.failureWords r o).2.2.pending = s.pending := fun r => failureWords_pending s r o
  unfold State.finish; dsimp only; repeat' split
  all_goals simp [h]
@[simp] theorem State.finish_powered (s : State) (id : Nat) (o : ReqOutcome) : (s.finish id o).powered = s.powered := by
  have h : ∀ (r : Request), (s.failureWords r o).2.2.powered = s.powered := fun r => failureWords_powered s r o
  unfold State.finish; dsimp only; repeat' split
  all_goals simp [h]
@[simp] theorem State.finish_pins (s : State) (id : Nat) (o : ReqOutcome) : (s.finish id o).pins = s.pins := by
  have h : ∀ (r : Request), (s.failureWords r o).2.2.pins = s.pins := fun r => failureWords_pins s r o
  unfold State.finish; dsimp only; repeat' split
  all_goals simp [h]
@[simp] theorem State.finish_lines (s : State) (id : Nat) (o : ReqOutcome) : (s.finish id o).lines = s.lines := by
  have h : ∀ (r : Request), (s.failureWords r o).2.2.lines = s.lines := fun r => failureWords_lines s r o
  unfold State.finish; dsimp only; repeat' split
  all_goals simp [h]
@[simp] theorem State.finish_drive (s : State) (id : Nat) (o : ReqOutcome) : (s.finish id o).drive = s.drive := by
  have h : ∀ (r : Request), (s.failureWords r o).2.2.drive = s.drive := fun r => failureWords_drive s r o
  unfold State.finish; dsimp only; repeat' split
  all_goals simp [h]
@[simp] theorem State.finish_clock (s : State) (id : Nat) (o : ReqOutcome) : (s.finish id o).clock = s.clock := by
  have h : ∀ (r : Request), (s.failureWords r o).2.2.clock = s.clock := fun r => failureWords_clock s r o
  unfold State.finish; dsimp only; repeat' split
  all_goals simp [h]
@[simp] theorem State.finish_identity (s : State) (id : Nat) (o : ReqOutcome) : (s.finish id o).identity = s.identity := by
  have h : ∀ (r : Request), (s.failureWords r o).2.2.identity = s.identity := fun r => failureWords_identity s r o
  unfold State.finish; dsimp only; repeat' split
  all_goals simp [h]
@[simp] theorem State.finish_zones (s : State) (id : Nat) (o : ReqOutcome) : (s.finish id o).zones = s.zones := by
  have h : ∀ (r : Request), (s.failureWords r o).2.2.zones = s.zones := fun r => failureWords_zones s r o
  unfold State.finish; dsimp only; repeat' split
  all_goals simp [h]
@[simp] theorem State.finish_access (s : State) (id : Nat) (o : ReqOutcome) : (s.finish id o).access = s.access := by
  have h : ∀ (r : Request), (s.failureWords r o).2.2.access = s.access := fun r => failureWords_access s r o
  unfold State.finish; dsimp only; repeat' split
  all_goals simp [h]
@[simp] theorem State.finish_seq (s : State) (id : Nat) (o : ReqOutcome) : (s.finish id o).seq = s.seq := by
  have h : ∀ (r : Request), (s.failureWords r o).2.2.seq = s.seq := fun r => failureWords_seq s r o
  unfold State.finish; dsimp only; repeat' split
  all_goals simp [h]
@[simp] theorem State.finish_unit (s : State) (id : Nat) (o : ReqOutcome) : (s.finish id o).unit = s.unit := by
  have h : ∀ (r : Request), (s.failureWords r o).2.2.unit = s.unit := fun r => failureWords_unit s r o
  unfold State.finish; dsimp only; repeat' split
  all_goals simp [h]
@[simp] theorem State.finish_cart (s : State) (id : Nat) (o : ReqOutcome) : (s.finish id o).cart = s.cart := by
  have h : ∀ (r : Request), (s.failureWords r o).2.2.cart = s.cart := fun r => failureWords_cart s r o
  unfold State.finish; dsimp only; repeat' split
  all_goals simp [h]

@[simp] theorem State.finishAll_pending (s : State) (l : List (Nat × ReqOutcome)) : (s.finishAll l).pending = s.pending :=
  foldl_keeps (State.pending) _ (fun t p => by simp) _ _
@[simp] theorem State.finishAll_powered (s : State) (l : List (Nat × ReqOutcome)) : (s.finishAll l).powered = s.powered :=
  foldl_keeps (State.powered) _ (fun t p => by simp) _ _
@[simp] theorem State.finishAll_pins (s : State) (l : List (Nat × ReqOutcome)) : (s.finishAll l).pins = s.pins :=
  foldl_keeps (State.pins) _ (fun t p => by simp) _ _
@[simp] theorem State.finishAll_lines (s : State) (l : List (Nat × ReqOutcome)) : (s.finishAll l).lines = s.lines :=
  foldl_keeps (State.lines) _ (fun t p => by simp) _ _
@[simp] theorem State.finishAll_drive (s : State) (l : List (Nat × ReqOutcome)) : (s.finishAll l).drive = s.drive :=
  foldl_keeps (State.drive) _ (fun t p => by simp) _ _
@[simp] theorem State.finishAll_clock (s : State) (l : List (Nat × ReqOutcome)) : (s.finishAll l).clock = s.clock :=
  foldl_keeps (State.clock) _ (fun t p => by simp) _ _
@[simp] theorem State.finishAll_identity (s : State) (l : List (Nat × ReqOutcome)) : (s.finishAll l).identity = s.identity :=
  foldl_keeps (State.identity) _ (fun t p => by simp) _ _
@[simp] theorem State.finishAll_zones (s : State) (l : List (Nat × ReqOutcome)) : (s.finishAll l).zones = s.zones :=
  foldl_keeps (State.zones) _ (fun t p => by simp) _ _
@[simp] theorem State.finishAll_access (s : State) (l : List (Nat × ReqOutcome)) : (s.finishAll l).access = s.access :=
  foldl_keeps (State.access) _ (fun t p => by simp) _ _
@[simp] theorem State.finishAll_seq (s : State) (l : List (Nat × ReqOutcome)) : (s.finishAll l).seq = s.seq :=
  foldl_keeps (State.seq) _ (fun t p => by simp) _ _
@[simp] theorem State.finishAll_unit (s : State) (l : List (Nat × ReqOutcome)) : (s.finishAll l).unit = s.unit :=
  foldl_keeps (State.unit) _ (fun t p => by simp) _ _
@[simp] theorem State.finishAll_cart (s : State) (l : List (Nat × ReqOutcome)) : (s.finishAll l).cart = s.cart :=
  foldl_keeps (State.cart) _ (fun t p => by simp) _ _

@[simp] theorem State.endRequest_pending (s : State) (id : Nat) (o : ReqOutcome) (w : Option SectorAddr) : (s.endRequest id o w).pending = s.pending := by
  unfold State.endRequest; dsimp only; repeat' split
  all_goals simp
@[simp] theorem State.endRequest_powered (s : State) (id : Nat) (o : ReqOutcome) (w : Option SectorAddr) : (s.endRequest id o w).powered = s.powered := by
  unfold State.endRequest; dsimp only; repeat' split
  all_goals simp
@[simp] theorem State.endRequest_pins (s : State) (id : Nat) (o : ReqOutcome) (w : Option SectorAddr) : (s.endRequest id o w).pins = s.pins := by
  unfold State.endRequest; dsimp only; repeat' split
  all_goals simp
@[simp] theorem State.endRequest_lines (s : State) (id : Nat) (o : ReqOutcome) (w : Option SectorAddr) : (s.endRequest id o w).lines = s.lines := by
  unfold State.endRequest; dsimp only; repeat' split
  all_goals simp
@[simp] theorem State.endRequest_drive (s : State) (id : Nat) (o : ReqOutcome) (w : Option SectorAddr) : (s.endRequest id o w).drive = s.drive := by
  unfold State.endRequest; dsimp only; repeat' split
  all_goals simp
@[simp] theorem State.endRequest_clock (s : State) (id : Nat) (o : ReqOutcome) (w : Option SectorAddr) : (s.endRequest id o w).clock = s.clock := by
  unfold State.endRequest; dsimp only; repeat' split
  all_goals simp
@[simp] theorem State.endRequest_identity (s : State) (id : Nat) (o : ReqOutcome) (w : Option SectorAddr) : (s.endRequest id o w).identity = s.identity := by
  unfold State.endRequest; dsimp only; repeat' split
  all_goals simp
@[simp] theorem State.endRequest_zones (s : State) (id : Nat) (o : ReqOutcome) (w : Option SectorAddr) : (s.endRequest id o w).zones = s.zones := by
  unfold State.endRequest; dsimp only; repeat' split
  all_goals simp
@[simp] theorem State.endRequest_access (s : State) (id : Nat) (o : ReqOutcome) (w : Option SectorAddr) : (s.endRequest id o w).access = s.access := by
  unfold State.endRequest; dsimp only; repeat' split
  all_goals simp
@[simp] theorem State.endRequest_seq (s : State) (id : Nat) (o : ReqOutcome) (w : Option SectorAddr) : (s.endRequest id o w).seq = s.seq := by
  unfold State.endRequest; dsimp only; repeat' split
  all_goals simp
@[simp] theorem State.endRequest_unit (s : State) (id : Nat) (o : ReqOutcome) (w : Option SectorAddr) : (s.endRequest id o w).unit = s.unit := by
  unfold State.endRequest; dsimp only; repeat' split
  all_goals simp
@[simp] theorem State.endRequest_cart (s : State) (id : Nat) (o : ReqOutcome) (w : Option SectorAddr) : (s.endRequest id o w).cart = s.cart := by
  unfold State.endRequest; dsimp only; repeat' split
  all_goals simp

@[simp] theorem State.hit_pending (s : State) (r : Request) (i : Nat) (f : Nat) : (s.hit r i f).pending = s.pending :=
  by unfold State.hit; dsimp only; split <;> simp
@[simp] theorem State.hit_powered (s : State) (r : Request) (i : Nat) (f : Nat) : (s.hit r i f).powered = s.powered :=
  by unfold State.hit; dsimp only; split <;> simp
@[simp] theorem State.hit_pins (s : State) (r : Request) (i : Nat) (f : Nat) : (s.hit r i f).pins = s.pins :=
  by unfold State.hit; dsimp only; split <;> simp
@[simp] theorem State.hit_lines (s : State) (r : Request) (i : Nat) (f : Nat) : (s.hit r i f).lines = s.lines :=
  by unfold State.hit; dsimp only; split <;> simp
@[simp] theorem State.hit_drive (s : State) (r : Request) (i : Nat) (f : Nat) : (s.hit r i f).drive = s.drive :=
  by unfold State.hit; dsimp only; split <;> simp
@[simp] theorem State.hit_clock (s : State) (r : Request) (i : Nat) (f : Nat) : (s.hit r i f).clock = s.clock :=
  by unfold State.hit; dsimp only; split <;> simp
@[simp] theorem State.hit_identity (s : State) (r : Request) (i : Nat) (f : Nat) : (s.hit r i f).identity = s.identity :=
  by unfold State.hit; dsimp only; split <;> simp
@[simp] theorem State.hit_zones (s : State) (r : Request) (i : Nat) (f : Nat) : (s.hit r i f).zones = s.zones :=
  by unfold State.hit; dsimp only; split <;> simp
@[simp] theorem State.hit_faults (s : State) (r : Request) (i : Nat) (f : Nat) : (s.hit r i f).faults = s.faults :=
  by unfold State.hit; dsimp only; split <;> simp
@[simp] theorem State.hit_access (s : State) (r : Request) (i : Nat) (f : Nat) : (s.hit r i f).access = s.access :=
  by unfold State.hit; dsimp only; split <;> simp
@[simp] theorem State.hit_seq (s : State) (r : Request) (i : Nat) (f : Nat) : (s.hit r i f).seq = s.seq :=
  by unfold State.hit; dsimp only; split <;> simp
@[simp] theorem State.hit_monitor (s : State) (r : Request) (i : Nat) (f : Nat) : (s.hit r i f).monitor = s.monitor :=
  by unfold State.hit; dsimp only; split <;> simp
@[simp] theorem State.hit_unit (s : State) (r : Request) (i : Nat) (f : Nat) : (s.hit r i f).unit = s.unit :=
  by unfold State.hit; dsimp only; split <;> simp
@[simp] theorem State.hit_cart (s : State) (r : Request) (i : Nat) (f : Nat) : (s.hit r i f).cart = s.cart :=
  by unfold State.hit; dsimp only; split <;> simp
@[simp] theorem State.hit_freeDraws (s : State) (r : Request) (i : Nat) (f : Nat) : (s.hit r i f).freeDraws = s.freeDraws :=
  by unfold State.hit; dsimp only; split <;> simp

@[simp] theorem State.takeHits_pending (s : State) (r : Request) : (s.takeHits r).pending = s.pending :=
  foldl_keeps (State.pending) _ (fun t i => by split <;> simp) _ _
@[simp] theorem State.takeHits_powered (s : State) (r : Request) : (s.takeHits r).powered = s.powered :=
  foldl_keeps (State.powered) _ (fun t i => by split <;> simp) _ _
@[simp] theorem State.takeHits_pins (s : State) (r : Request) : (s.takeHits r).pins = s.pins :=
  foldl_keeps (State.pins) _ (fun t i => by split <;> simp) _ _
@[simp] theorem State.takeHits_lines (s : State) (r : Request) : (s.takeHits r).lines = s.lines :=
  foldl_keeps (State.lines) _ (fun t i => by split <;> simp) _ _
@[simp] theorem State.takeHits_drive (s : State) (r : Request) : (s.takeHits r).drive = s.drive :=
  foldl_keeps (State.drive) _ (fun t i => by split <;> simp) _ _
@[simp] theorem State.takeHits_clock (s : State) (r : Request) : (s.takeHits r).clock = s.clock :=
  foldl_keeps (State.clock) _ (fun t i => by split <;> simp) _ _
@[simp] theorem State.takeHits_identity (s : State) (r : Request) : (s.takeHits r).identity = s.identity :=
  foldl_keeps (State.identity) _ (fun t i => by split <;> simp) _ _
@[simp] theorem State.takeHits_zones (s : State) (r : Request) : (s.takeHits r).zones = s.zones :=
  foldl_keeps (State.zones) _ (fun t i => by split <;> simp) _ _
@[simp] theorem State.takeHits_faults (s : State) (r : Request) : (s.takeHits r).faults = s.faults :=
  foldl_keeps (State.faults) _ (fun t i => by split <;> simp) _ _
@[simp] theorem State.takeHits_access (s : State) (r : Request) : (s.takeHits r).access = s.access :=
  foldl_keeps (State.access) _ (fun t i => by split <;> simp) _ _
@[simp] theorem State.takeHits_seq (s : State) (r : Request) : (s.takeHits r).seq = s.seq :=
  foldl_keeps (State.seq) _ (fun t i => by split <;> simp) _ _
@[simp] theorem State.takeHits_monitor (s : State) (r : Request) : (s.takeHits r).monitor = s.monitor :=
  foldl_keeps (State.monitor) _ (fun t i => by split <;> simp) _ _
@[simp] theorem State.takeHits_unit (s : State) (r : Request) : (s.takeHits r).unit = s.unit :=
  foldl_keeps (State.unit) _ (fun t i => by split <;> simp) _ _
@[simp] theorem State.takeHits_cart (s : State) (r : Request) : (s.takeHits r).cart = s.cart :=
  foldl_keeps (State.cart) _ (fun t i => by split <;> simp) _ _
@[simp] theorem State.takeHits_freeDraws (s : State) (r : Request) : (s.takeHits r).freeDraws = s.freeDraws :=
  foldl_keeps (State.freeDraws) _ (fun t i => by split <;> simp) _ _

@[simp] theorem State.consult_pending (s : State) (id : Nat) : (s.consult id).pending = s.pending := by
  unfold State.consult; dsimp only; repeat' split
  all_goals simp
@[simp] theorem State.consult_powered (s : State) (id : Nat) : (s.consult id).powered = s.powered := by
  unfold State.consult; dsimp only; repeat' split
  all_goals simp
@[simp] theorem State.consult_pins (s : State) (id : Nat) : (s.consult id).pins = s.pins := by
  unfold State.consult; dsimp only; repeat' split
  all_goals simp
@[simp] theorem State.consult_lines (s : State) (id : Nat) : (s.consult id).lines = s.lines := by
  unfold State.consult; dsimp only; repeat' split
  all_goals simp
@[simp] theorem State.consult_drive (s : State) (id : Nat) : (s.consult id).drive = s.drive := by
  unfold State.consult; dsimp only; repeat' split
  all_goals simp
@[simp] theorem State.consult_clock (s : State) (id : Nat) : (s.consult id).clock = s.clock := by
  unfold State.consult; dsimp only; repeat' split
  all_goals simp
@[simp] theorem State.consult_identity (s : State) (id : Nat) : (s.consult id).identity = s.identity := by
  unfold State.consult; dsimp only; repeat' split
  all_goals simp
@[simp] theorem State.consult_zones (s : State) (id : Nat) : (s.consult id).zones = s.zones := by
  unfold State.consult; dsimp only; repeat' split
  all_goals simp
@[simp] theorem State.consult_access (s : State) (id : Nat) : (s.consult id).access = s.access := by
  unfold State.consult; dsimp only; repeat' split
  all_goals simp
@[simp] theorem State.consult_seq (s : State) (id : Nat) : (s.consult id).seq = s.seq := by
  unfold State.consult; dsimp only; repeat' split
  all_goals simp
@[simp] theorem State.consult_unit (s : State) (id : Nat) : (s.consult id).unit = s.unit := by
  unfold State.consult; dsimp only; repeat' split
  all_goals simp
@[simp] theorem State.consult_cart (s : State) (id : Nat) : (s.consult id).cart = s.cart := by
  unfold State.consult; dsimp only; repeat' split
  all_goals simp

@[simp] theorem State.consultAll_pending (s : State) : (s.consultAll).pending = s.pending :=
  foldl_keeps (State.pending) _ (fun t i => by simp) _ _
@[simp] theorem State.consultAll_powered (s : State) : (s.consultAll).powered = s.powered :=
  foldl_keeps (State.powered) _ (fun t i => by simp) _ _
@[simp] theorem State.consultAll_pins (s : State) : (s.consultAll).pins = s.pins :=
  foldl_keeps (State.pins) _ (fun t i => by simp) _ _
@[simp] theorem State.consultAll_lines (s : State) : (s.consultAll).lines = s.lines :=
  foldl_keeps (State.lines) _ (fun t i => by simp) _ _
@[simp] theorem State.consultAll_drive (s : State) : (s.consultAll).drive = s.drive :=
  foldl_keeps (State.drive) _ (fun t i => by simp) _ _
@[simp] theorem State.consultAll_clock (s : State) : (s.consultAll).clock = s.clock :=
  foldl_keeps (State.clock) _ (fun t i => by simp) _ _
@[simp] theorem State.consultAll_identity (s : State) : (s.consultAll).identity = s.identity :=
  foldl_keeps (State.identity) _ (fun t i => by simp) _ _
@[simp] theorem State.consultAll_zones (s : State) : (s.consultAll).zones = s.zones :=
  foldl_keeps (State.zones) _ (fun t i => by simp) _ _
@[simp] theorem State.consultAll_access (s : State) : (s.consultAll).access = s.access :=
  foldl_keeps (State.access) _ (fun t i => by simp) _ _
@[simp] theorem State.consultAll_seq (s : State) : (s.consultAll).seq = s.seq :=
  foldl_keeps (State.seq) _ (fun t i => by simp) _ _
@[simp] theorem State.consultAll_unit (s : State) : (s.consultAll).unit = s.unit :=
  foldl_keeps (State.unit) _ (fun t i => by simp) _ _
@[simp] theorem State.consultAll_cart (s : State) : (s.consultAll).cart = s.cart :=
  foldl_keeps (State.cart) _ (fun t i => by simp) _ _

@[simp] theorem State.postRecord_pending (s : State) (id : Nat) (c : Completion) : (s.postRecord id c).pending = s.pending :=
  foldl_keeps (State.pending) _ (fun t i => by simp) _ _
@[simp] theorem State.postRecord_powered (s : State) (id : Nat) (c : Completion) : (s.postRecord id c).powered = s.powered :=
  foldl_keeps (State.powered) _ (fun t i => by simp) _ _
@[simp] theorem State.postRecord_pins (s : State) (id : Nat) (c : Completion) : (s.postRecord id c).pins = s.pins :=
  foldl_keeps (State.pins) _ (fun t i => by simp) _ _
@[simp] theorem State.postRecord_lines (s : State) (id : Nat) (c : Completion) : (s.postRecord id c).lines = s.lines :=
  foldl_keeps (State.lines) _ (fun t i => by simp) _ _
@[simp] theorem State.postRecord_drive (s : State) (id : Nat) (c : Completion) : (s.postRecord id c).drive = s.drive :=
  foldl_keeps (State.drive) _ (fun t i => by simp) _ _
@[simp] theorem State.postRecord_clock (s : State) (id : Nat) (c : Completion) : (s.postRecord id c).clock = s.clock :=
  foldl_keeps (State.clock) _ (fun t i => by simp) _ _
@[simp] theorem State.postRecord_identity (s : State) (id : Nat) (c : Completion) : (s.postRecord id c).identity = s.identity :=
  foldl_keeps (State.identity) _ (fun t i => by simp) _ _
@[simp] theorem State.postRecord_zones (s : State) (id : Nat) (c : Completion) : (s.postRecord id c).zones = s.zones :=
  foldl_keeps (State.zones) _ (fun t i => by simp) _ _
@[simp] theorem State.postRecord_access (s : State) (id : Nat) (c : Completion) : (s.postRecord id c).access = s.access :=
  foldl_keeps (State.access) _ (fun t i => by simp) _ _
@[simp] theorem State.postRecord_seq (s : State) (id : Nat) (c : Completion) : (s.postRecord id c).seq = s.seq :=
  foldl_keeps (State.seq) _ (fun t i => by simp) _ _
@[simp] theorem State.postRecord_unit (s : State) (id : Nat) (c : Completion) : (s.postRecord id c).unit = s.unit :=
  foldl_keeps (State.unit) _ (fun t i => by simp) _ _
@[simp] theorem State.postRecord_cart (s : State) (id : Nat) (c : Completion) : (s.postRecord id c).cart = s.cart :=
  foldl_keeps (State.cart) _ (fun t i => by simp) _ _

@[simp] theorem State.postUpTo_pending (s : State) (n : Nat) : (s.postUpTo n).pending = s.pending := by
  induction n generalizing s with
  | zero => rfl
  | succ n ih => 
    unfold State.postUpTo; repeat' split
    all_goals simp [ih]
@[simp] theorem State.postUpTo_powered (s : State) (n : Nat) : (s.postUpTo n).powered = s.powered := by
  induction n generalizing s with
  | zero => rfl
  | succ n ih => 
    unfold State.postUpTo; repeat' split
    all_goals simp [ih]
@[simp] theorem State.postUpTo_pins (s : State) (n : Nat) : (s.postUpTo n).pins = s.pins := by
  induction n generalizing s with
  | zero => rfl
  | succ n ih => 
    unfold State.postUpTo; repeat' split
    all_goals simp [ih]
@[simp] theorem State.postUpTo_lines (s : State) (n : Nat) : (s.postUpTo n).lines = s.lines := by
  induction n generalizing s with
  | zero => rfl
  | succ n ih => 
    unfold State.postUpTo; repeat' split
    all_goals simp [ih]
@[simp] theorem State.postUpTo_drive (s : State) (n : Nat) : (s.postUpTo n).drive = s.drive := by
  induction n generalizing s with
  | zero => rfl
  | succ n ih => 
    unfold State.postUpTo; repeat' split
    all_goals simp [ih]
@[simp] theorem State.postUpTo_clock (s : State) (n : Nat) : (s.postUpTo n).clock = s.clock := by
  induction n generalizing s with
  | zero => rfl
  | succ n ih => 
    unfold State.postUpTo; repeat' split
    all_goals simp [ih]
@[simp] theorem State.postUpTo_identity (s : State) (n : Nat) : (s.postUpTo n).identity = s.identity := by
  induction n generalizing s with
  | zero => rfl
  | succ n ih => 
    unfold State.postUpTo; repeat' split
    all_goals simp [ih]
@[simp] theorem State.postUpTo_zones (s : State) (n : Nat) : (s.postUpTo n).zones = s.zones := by
  induction n generalizing s with
  | zero => rfl
  | succ n ih => 
    unfold State.postUpTo; repeat' split
    all_goals simp [ih]
@[simp] theorem State.postUpTo_access (s : State) (n : Nat) : (s.postUpTo n).access = s.access := by
  induction n generalizing s with
  | zero => rfl
  | succ n ih => 
    unfold State.postUpTo; repeat' split
    all_goals simp [ih]
@[simp] theorem State.postUpTo_seq (s : State) (n : Nat) : (s.postUpTo n).seq = s.seq := by
  induction n generalizing s with
  | zero => rfl
  | succ n ih => 
    unfold State.postUpTo; repeat' split
    all_goals simp [ih]
@[simp] theorem State.postUpTo_unit (s : State) (n : Nat) : (s.postUpTo n).unit = s.unit := by
  induction n generalizing s with
  | zero => rfl
  | succ n ih => 
    unfold State.postUpTo; repeat' split
    all_goals simp [ih]
@[simp] theorem State.postUpTo_cart (s : State) (n : Nat) : (s.postUpTo n).cart = s.cart := by
  induction n generalizing s with
  | zero => rfl
  | succ n ih => 
    unfold State.postUpTo; repeat' split
    all_goals simp [ih]
@[simp] theorem State.post_pending (s : State) : (s.post).pending = s.pending :=
  s.postUpTo_pending _
@[simp] theorem State.post_powered (s : State) : (s.post).powered = s.powered :=
  s.postUpTo_powered _
@[simp] theorem State.post_pins (s : State) : (s.post).pins = s.pins :=
  s.postUpTo_pins _
@[simp] theorem State.post_lines (s : State) : (s.post).lines = s.lines :=
  s.postUpTo_lines _
@[simp] theorem State.post_drive (s : State) : (s.post).drive = s.drive :=
  s.postUpTo_drive _
@[simp] theorem State.post_clock (s : State) : (s.post).clock = s.clock :=
  s.postUpTo_clock _
@[simp] theorem State.post_identity (s : State) : (s.post).identity = s.identity :=
  s.postUpTo_identity _
@[simp] theorem State.post_zones (s : State) : (s.post).zones = s.zones :=
  s.postUpTo_zones _
@[simp] theorem State.post_access (s : State) : (s.post).access = s.access :=
  s.postUpTo_access _
@[simp] theorem State.post_seq (s : State) : (s.post).seq = s.seq :=
  s.postUpTo_seq _
@[simp] theorem State.post_unit (s : State) : (s.post).unit = s.unit :=
  s.postUpTo_unit _
@[simp] theorem State.post_cart (s : State) : (s.post).cart = s.cart :=
  s.postUpTo_cart _

@[simp] theorem State.settle_pending (s : State) : (s.settle).pending = s.pending :=
  by simp [State.settle]
@[simp] theorem State.settle_powered (s : State) : (s.settle).powered = s.powered :=
  by simp [State.settle]
@[simp] theorem State.settle_pins (s : State) : (s.settle).pins = s.pins :=
  by simp [State.settle]
@[simp] theorem State.settle_drive (s : State) : (s.settle).drive = s.drive :=
  by simp [State.settle]
@[simp] theorem State.settle_clock (s : State) : (s.settle).clock = s.clock :=
  by simp [State.settle]
@[simp] theorem State.settle_identity (s : State) : (s.settle).identity = s.identity :=
  by simp [State.settle]
@[simp] theorem State.settle_zones (s : State) : (s.settle).zones = s.zones :=
  by simp [State.settle]
@[simp] theorem State.settle_seq (s : State) : (s.settle).seq = s.seq :=
  by simp [State.settle]
@[simp] theorem State.settle_unit (s : State) : (s.settle).unit = s.unit :=
  by simp [State.settle]
@[simp] theorem State.settle_cart (s : State) : (s.settle).cart = s.cart :=
  by simp [State.settle]

end Sys2Proof.Machine
end

