-- ==== Sys2Proof/Laws/Memory.lean ====
section
/-! SUPPORT. The frame store: every write keeps the canonical form, a read after a write gives the byte written, and a write leaves
every other byte. -/

namespace Sys2Proof.Machine

/-- The canonical form, one cell at a time. -/
theorem Memory.wf_cons (x : Host.Cell) (m : List Host.Cell) :
    Memory.wf (x :: m) ↔ (∀ y ∈ m, x.1 < y.1) ∧ (x.1 < storeBytes ∧ x.2 ≠ unlistedByte) ∧ Memory.wf m := by
  simp only [Memory.wf, List.pairwise_cons, List.forall_mem_cons]
  tauto

/-- The cells of a write lie at the address written or were there before. -/
theorem writeCell_mem {m : List Host.Cell} {a : Nat} {b : Byte} {y : Host.Cell} (h : y ∈ writeCell m a b) :
    y = (a, b) ∨ y ∈ m := by
  induction m with
  | nil => unfold writeCell at h; split at h <;> simp_all
  | cons x m ih =>
    obtain ⟨k, v⟩ := x
    simp only [writeCell] at h
    repeat' split at h
    all_goals simp only [List.mem_cons] at h ⊢
    all_goals tauto

/-- A write keeps the canonical form. -/
theorem writeCell_wf {m : List Host.Cell} (h : Memory.wf m) {a : Nat} (ha : a < storeBytes) (b : Byte) :
    Memory.wf (writeCell m a b) := by
  induction m with
  | nil =>
    unfold writeCell
    split
    · exact h
    · rename_i hb; exact (Memory.wf_cons _ _).2 ⟨by simp, ⟨ha, hb⟩, h⟩
  | cons x m ih =>
    obtain ⟨k, v⟩ := x
    obtain ⟨h1, h2, h3⟩ := (Memory.wf_cons _ _).1 h
    simp only [writeCell]
    split
    · rename_i hk
      refine (Memory.wf_cons _ _).2 ⟨fun y hy => ?_, h2, ih h3⟩
      rcases writeCell_mem hy with rfl | hy
      · exact hk
      · exact h1 y hy
    · rename_i hk
      by_cases e : k = a
      · subst e
        rw [if_pos rfl]
        split
        · exact h3
        · rename_i hb; exact (Memory.wf_cons _ _).2 ⟨h1, ⟨ha, hb⟩, h3⟩
      · rw [if_neg e]
        split
        · exact h
        · rename_i hb
          have hlt : a < k := by omega
          refine (Memory.wf_cons _ _).2 ⟨fun y hy => ?_, ⟨ha, hb⟩, h⟩
          rcases List.mem_cons.1 hy with rfl | hy
          · exact hlt
          · exact lt_trans hlt (h1 y hy)

/-- `writeByte` keeps the canonical form. -/
theorem writeByte_wf {m : List Host.Cell} (h : Memory.wf m) (a : Nat) (b : Byte) : Memory.wf (writeByte m a b) := by
  unfold writeByte
  split
  · rename_i ha; exact writeCell_wf h ha b
  · exact h

/-- `writeWord` keeps the canonical form. -/
theorem writeWord_wf {m : List Host.Cell} (h : Memory.wf m) (w : Nat) (x : Word) : Memory.wf (writeWord m w x) :=
  writeByte_wf (writeByte_wf h _ _) _ _

/-- `writeWords` keeps the canonical form. -/
theorem writeWords_wf {m : List Host.Cell} (h : Memory.wf m) (w : Nat) (xs : List Word) : Memory.wf (writeWords m w xs) := by
  induction xs generalizing m w with
  | nil => exact h
  | cons x xs ih => exact ih (writeWord_wf h w x) (w + 1)

/-- `writeFrame` keeps the canonical form. -/
theorem writeFrame_wf {m : List Host.Cell} (h : Memory.wf m) (f : Nat) (ws : List Word) : Memory.wf (writeFrame m f ws) :=
  writeWords_wf h _ _

/-- `writeFrameWord` keeps the canonical form. -/
theorem writeFrameWord_wf {m : List Host.Cell} (h : Memory.wf m) (f off : Nat) (x : Word) : Memory.wf (writeFrameWord m f off x) :=
  writeWord_wf h _ _

/-- An address below every cell reads as unlisted. -/
theorem readByte_of_lt {m : List Host.Cell} {a : Nat} (h : ∀ y ∈ m, a < y.1) : readByte m a = unlistedByte := by
  induction m with
  | nil => rfl
  | cons x m ih =>
    obtain ⟨k, v⟩ := x
    have hk : a < k := h (k, v) (by simp)
    simp only [readByte]
    rw [if_neg (by omega)]
    exact ih (fun y hy => h y (by simp [hy]))

/-- A read after a write. -/
theorem readByte_writeCell {m : List Host.Cell} (h : Memory.wf m) (a : Nat) (b : Byte) (c : Nat) :
    readByte (writeCell m a b) c = if c = a then b else readByte m c := by
  induction m with
  | nil =>
    unfold writeCell
    split
    · rename_i hb; split <;> simp_all [readByte]
    · by_cases e : c = a
      · simp [readByte, e]
      · simp [readByte, e, Ne.symm e]
  | cons x m ih =>
    obtain ⟨k, v⟩ := x
    obtain ⟨h1, -, h3⟩ := (Memory.wf_cons _ _).1 h
    simp only [writeCell]
    split
    · rename_i hk
      simp only [readByte, ih h3]
      by_cases e : k = c
      · rw [if_pos e, if_neg (by omega), if_pos e]
      · rw [if_neg e, if_neg e]
    · rename_i hk
      by_cases e : k = a
      · subst e
        rw [if_pos rfl]
        by_cases ec : c = k
        · subst ec
          rw [if_pos rfl]
          split
          · rename_i hb; rw [hb]; exact readByte_of_lt h1
          · simp [readByte]
        · rw [if_neg ec]
          split <;> simp [readByte, Ne.symm ec]
      · rw [if_neg e]
        have hlt : a < k := by omega
        by_cases ec : c = a
        · subst ec
          rw [if_pos rfl]
          split
          · rename_i hb
            rw [hb]
            refine readByte_of_lt (fun y hy => ?_)
            rcases List.mem_cons.1 hy with rfl | hy
            · exact hlt
            · exact lt_trans hlt (h1 y hy)
          · simp [readByte]
        · rw [if_neg ec]
          split
          · rfl
          · rw [readByte, if_neg (Ne.symm ec)]

/-- The byte written is read back, and every other byte reads as before. -/
theorem readByte_writeByte {m : List Host.Cell} (h : Memory.wf m) {a : Nat} (ha : a < storeBytes) (b : Byte) (c : Nat) :
    readByte (writeByte m a b) c = if c = a then b else readByte m c := by
  rw [writeByte, if_pos ha]
  exact readByte_writeCell h a b c

/-- The two halves of a word. -/
theorem word_halves (x : Word) : x.extractLsb' 8 8 ++ x.extractLsb' 0 8 = x := by
  apply BitVec.eq_of_getLsbD_eq
  intro i hi
  rw [BitVec.getLsbD_append]
  by_cases h : i < 8
  · rw [if_pos h]; simp [h]
  · rw [if_neg h, BitVec.getLsbD_extractLsb']
    have h8 : i - 8 < 8 := by omega
    have he : 8 + (i - 8) = i := by omega
    simp [h8, he]

/-- The word written is read back, and every other word reads as before. -/
theorem readWord_writeWord {m : List Host.Cell} (h : Memory.wf m) {w : Nat} (hw : 2 * w + 1 < storeBytes) (x : Word) (v : Nat) :
    readWord (writeWord m w x) v = if v = w then x else readWord m v := by
  have h1 := writeByte_wf h (2 * w) (x.extractLsb' 8 8)
  simp only [readWord, writeWord, readByte_writeByte h1 hw, readByte_writeByte h (show 2 * w < storeBytes by omega)]
  by_cases e : v = w
  · subst e
    simp [word_halves]
  · rw [if_neg (by omega), if_neg (by omega), if_neg (by omega), if_neg (by omega), if_neg e]

end Sys2Proof.Machine
end

