-- ==== Sys2Proof/Laws/Ops.lean ====
section
/-! SUPPORT. What the shared operations can do, said once: the taking up of waiting work, a HOLD found, a peer's gate, notices, counters,
the fault list, the end of a request. -/

namespace Sys2Proof.Machine

/-! ### The CRC -/

/-- One bit more of the CRC. -/
theorem crcBits_cons (b : Bool) (bs : List Bool) (r : Nat) : crcBits (b :: bs) r = crcBits bs (crcShift r b) := by
  rw [crcBits]
  split <;> simp_all

/-- A run of bits in two parts. -/
theorem crcBits_append (bs cs : List Bool) (r : Nat) : crcBits (bs ++ cs) r = crcBits cs (crcBits bs r) := by
  induction bs generalizing r with
  | nil => rfl
  | cons b bs ih => rw [List.cons_append, crcBits_cons, crcBits_cons, ih]

/-! ### Waiting work taken up -/

/-- A sweep with no spent frame changes nothing. -/
theorem sweep_of_unspent (s : State) (h : ∀ f ∈ s.frameNumbers, s.spent f = false) : s.sweep = s := by
  unfold State.sweep
  have go : ∀ l : List Nat, (∀ f ∈ l, s.spent f = false) →
      l.foldl (fun t f => if t.spent f then t.freeFrame f else t) s = s := by
    intro l
    induction l with
    | nil => intro _; rfl
    | cons f fs ih =>
      intro hl
      rw [List.foldl_cons, hl f (by simp), if_neg (by simp)]
      exact ih (fun g hg => hl g (by simp [hg]))
  exact go _ h

/-- With no allocation waiting none is served. -/
theorem serveWaits_of_nil (s : State) (h : s.cache.waits = []) : s.serveWaits = s := by
  unfold State.serveWaits
  rw [h]
  simp only [State.serveList]
  rw [← h]

/-- With no finished request none is posted. -/
theorem postUpTo_of_nil (s : State) (n : Nat) (h : s.queue.finished = []) : s.postUpTo n = s := by
  cases n with
  | zero => rfl
  | succ n => simp [State.postUpTo, h]

/-- With no finished request `post` changes nothing. -/
theorem post_of_nil (s : State) (h : s.queue.finished = []) : s.post = s := postUpTo_of_nil s _ h

/-- A still station tidies nothing. -/
theorem tidy_of_still {s : State} (h : Still s) : s.tidy = s := by
  unfold State.tidy
  rw [sweep_of_unspent s h.spent, serveWaits_of_nil s h.waits]

/-- What a still station takes up after a command is the access state alone. -/
theorem settle_of_still {s : State} (h : Still s) : s.settle = s.settleAccess := by
  unfold State.settle
  rw [tidy_of_still h, post_of_nil s h.finished]

/-- An access state other than IDLE and WAITING is not moved. -/
theorem settleAccess_of_steady {s : State} (h : Steady s) : s.settleAccess = s := by
  unfold State.settleAccess
  split
  · rename_i e; exact absurd e h.1
  · rename_i e; exact absurd e h.2
  all_goals rfl

/-- A still station in a steady access state takes up nothing. -/
theorem settle_of_steady {s : State} (h : Still s) (a : Steady s) : s.settle = s := by
  rw [settle_of_still h, settleAccess_of_steady a]

/-- HOLDING is steady. -/
theorem steady_of_holding {s : State} (h : s.access.state = .holding) : Steady s := by
  constructor <;> rw [h] <;> decide

/-- A change of the drive work in IDLE or WAITING moves the access state, and nothing else but CALL (R24). -/
theorem settleAccess_cases (s : State) :
    s.settleAccess = s
      ∨ (s.access.state = .idle ∧ s.hasWork = true ∧ s.settleAccess = { s with access := { s.access with state := .waiting } })
      ∨ (s.access.state = .waiting ∧ s.hasWork = false ∧
          s.settleAccess = { s with access := { s.access with state := .idle }, lines := { s.lines with call := false } }) := by
  unfold State.settleAccess
  repeat' split
  all_goals simp_all

/-! ### A HOLD found (R33) -/

/-- When a HOLD is found: asserted by a present peer, with no holding taken for it, where no identity check falls, in IDLE, WAITING or
BACKOFF (R33). -/
theorem holdUntaken_iff (s : State) : s.holdUntaken = true ↔
    s.pins.hold = true ∧ s.pins.pres = true ∧ s.access.peerHolding = none ∧ s.access.round ≠ some .check
      ∧ (s.access.state = .idle ∨ s.access.state = .waiting ∨ s.access.state = .backoff) := by
  unfold State.holdUntaken
  cases s.access.state <;> simp [and_assoc]

/-- A HOLD found begins an unidentified holding, and the arm cylinder is UNKNOWN; else nothing changes (R33, R125). -/
theorem findHold_cases (s : State) :
    (s.holdUntaken = true ∧ s.findHold = { s with
        access := { s.access with peerHolding := some .unidentified, lineHeldRaised := false }
        monitor := { s.monitor with arm := none } })
      ∨ (s.holdUntaken = false ∧ s.findHold = s) := by
  unfold State.findHold
  by_cases h : s.holdUntaken = true
  · exact .inl ⟨h, by simp [h, State.takeUnidentified]⟩
  · exact .inr ⟨by simpa using h, by simp [h]⟩

/-- Finding a HOLD moves no access state. -/
@[simp] theorem findHold_access_state (s : State) : s.findHold.access.state = s.access.state := by
  unfold State.findHold; split <;> rfl

/-- After a release no line is driven but PRES and CREL (R37). -/
@[simp] theorem releaseLine_lines (s : State) :
    s.releaseLine.lines = { s.lines with hold := false, call := false, mark1 := false, mark2 := false } := by
  simp [State.releaseLine]

/-- After a release the command lines are at high impedance (R10, R37). -/
@[simp] theorem releaseLine_drive (s : State) :
    s.releaseLine.drive = { s.drive with enabled := false, cyl := 0, hsel := false, rdg := false, wrg := false } := by
  simp [State.releaseLine]

/-- After a release the access state is WAITING or IDLE (R37). -/
@[simp] theorem releaseLine_access_state (s : State) : s.releaseLine.access.state = s.restingState := by
  simp [State.releaseLine]

/-! ### A peer's gate (R129) -/

/-- No write: the conditions hold at no bit cell. -/
theorem gateVerdict_noWrite (g : Gate) : gateVerdict g = .noWrite ↔ ∀ x ∈ g.early ++ g.late, cellEffective x = false := by
  unfold gateVerdict
  by_cases h : (g.early ++ g.late).any cellEffective = true
  · rw [if_pos h]
    obtain ⟨x, hx, e⟩ := List.any_eq_true.mp h
    constructor
    · intro k; split at k <;> cases k
    · intro k; rw [k x hx] at e; cases e
  · rw [if_neg h]
    exact ⟨fun _ x hx => by simpa using fun e => h (List.any_eq_true.mpr ⟨x, hx, e⟩), fun _ => rfl⟩

/-- A whole write: the conditions hold at the last bit cell before the data sync and from there on. -/
theorem gateVerdict_whole (g : Gate) : gateVerdict g = .whole ↔
    (∃ x, g.early.getLast? = some x ∧ cellEffective x = true) ∧ ∀ x ∈ g.late, cellEffective x = true := by
  unfold gateVerdict
  constructor
  · intro k
    split at k
    · split at k
      · rename_i _ h
        simp only [Bool.and_eq_true, Option.any_eq_true_iff_get, List.all_eq_true] at h
        obtain ⟨⟨hs, e⟩, hl⟩ := h
        exact ⟨⟨_, (Option.some_get hs).symm, e⟩, hl⟩
      · cases k
    · cases k
  · rintro ⟨⟨x, hx, e⟩, hl⟩
    have any : (g.early ++ g.late).any cellEffective = true :=
      List.any_eq_true.mpr ⟨x, List.mem_append_left _ (List.mem_of_getLast? hx), e⟩
    rw [if_pos any, if_pos (by simpa [hx, e] using hl)]

/-- A broken write is whatever is neither. -/
theorem gateVerdict_cases (g : Gate) : gateVerdict g = .noWrite ∨ gateVerdict g = .whole ∨ gateVerdict g = .broken := by
  unfold gateVerdict; split <;> [split; skip] <;> simp

/-! ### The completion FIFO -/

@[simp] theorem raise_fifo (s : State) (n : Notice) : (s.raise n).port.fifo = s.port.fifo := by unfold State.raise; split <;> rfl

@[simp] theorem countLate_fifo (s : State) : s.countLate.port.fifo = s.port.fifo := by
  unfold State.countLate State.raiseIf; split <;> simp

@[simp] theorem dropJobs_fifo (s : State) (id : Nat) : (s.dropJobs id).port.fifo = s.port.fifo := rfl

@[simp] theorem queueJob_fifo (s : State) (j : Job) : (s.queueJob j).port.fifo = s.port.fifo := rfl

@[simp] theorem queueDelivery_fifo (s : State) (r : Request) (i f : Nat) : (s.queueDelivery r i f).port.fifo = s.port.fifo := by
  unfold State.queueDelivery; split <;> simp

/-- A request that enters FINISHED leaves the FIFO alone. -/
@[simp] theorem finish_fifo (s : State) (id : Nat) (o : ReqOutcome) : (s.finish id o).port.fifo = s.port.fifo := by
  have h : ∀ r : Request, (s.failureWords r o).2.2.port = s.port := fun r => by
    unfold State.failureWords; split <;> split <;> rfl
  unfold State.finish
  dsimp only
  repeat' split
  all_goals simp [h]

@[simp] theorem finishAll_fifo (s : State) (l : List (Nat × ReqOutcome)) : (s.finishAll l).port.fifo = s.port.fifo :=
  foldl_keeps (fun t => t.port.fifo) _ (fun t p => by simp) _ _

@[simp] theorem endRequest_fifo (s : State) (id : Nat) (o : ReqOutcome) (a : Option SectorAddr) :
    (s.endRequest id o a).port.fifo = s.port.fifo := by
  unfold State.endRequest
  dsimp only
  repeat' split
  all_goals simp

@[simp] theorem hit_fifo (s : State) (r : Request) (i f : Nat) : (s.hit r i f).port.fifo = s.port.fifo := by
  unfold State.hit; dsimp only; split <;> simp

@[simp] theorem takeHits_fifo (s : State) (r : Request) : (s.takeHits r).port.fifo = s.port.fifo :=
  foldl_keeps (fun t => t.port.fifo) _ (fun t i => by split <;> simp) _ _

/-- A consultation of the cache leaves the FIFO alone. -/
@[simp] theorem consult_fifo (s : State) (id : Nat) : (s.consult id).port.fifo = s.port.fifo := by
  unfold State.consult
  dsimp only
  repeat' split
  all_goals simp

/-- A record posted stands last in the FIFO (R55, R174). -/
@[simp] theorem postRecord_fifo (s : State) (id : Nat) (c : Completion) : (s.postRecord id c).port.fifo = s.port.fifo ++ [c] :=
  foldl_keeps (fun t => t.port.fifo) _ (fun t i => by simp) _ _

/-- Posting keeps the records there are in front (R174). -/
theorem postUpTo_fifo_prefix (s : State) (n : Nat) : s.port.fifo <+: (s.postUpTo n).port.fifo := by
  induction n generalizing s with
  | zero => exact List.prefix_refl _
  | succ n ih =>
    unfold State.postUpTo
    repeat' split
    · exact List.prefix_refl _
    · exact (List.prefix_append _ _).trans (by simpa using ih (s.postRecord _ _))
    · exact List.prefix_refl _

/-- Posting keeps to the 16 places (R174). -/
theorem postUpTo_fifo_length (s : State) (n : Nat) (h : s.port.fifo.length ≤ Config.fifoPlaces) :
    (s.postUpTo n).port.fifo.length ≤ Config.fifoPlaces := by
  induction n generalizing s with
  | zero => exact h
  | succ n ih =>
    unfold State.postUpTo
    repeat' split
    · exact h
    · rename_i hl _ _ _
      refine ih _ ?_
      rw [postRecord_fifo, List.length_append, List.length_singleton]
      exact hl
    · exact h

/-! ### Notices, counters, faults -/

/-- A configured station's notice sets its mark. -/
theorem raise_of_configured {s : State} (h : s.zones.configured = true) (n : Notice) :
    s.raise n = { s with port := { s.port with notices := setMark s.port.notices n } } := by simp [State.raise, h]

/-- An unconfigured station raises nothing. -/
theorem raise_of_unconfigured {s : State} (h : s.zones.configured = false) (n : Notice) : s.raise n = s := by simp [State.raise, h]

/-- With the threshold OFF a counter raises nothing. -/
theorem thresholdHit_off (v : BitVec 16) : thresholdHit 0#2 v = false := rfl

/-- RETRY counted with its threshold OFF. -/
theorem countRetry_off {s : State} (h : s.zones.thresholds.retry = 0) :
    s.countRetry = { s with faults := { s.faults with retry := s.faults.retry + 1 } } := by
  unfold State.countRetry
  rw [h]
  rfl

/-- COLLIDE counted with its threshold OFF. -/
theorem countCollide_off {s : State} (h : s.zones.thresholds.collide = 0) :
    s.countCollide = { s with faults := { s.faults with collide := s.faults.collide + 1 } } := by
  unfold State.countCollide
  rw [h]
  rfl

/-- The fault list after a fault: merged, appended or unchanged (R103). -/
theorem listFault_entries (s : State) (a : FaultAddr) (k : FaultKind) (o : Origin) :
    (s.listFault a k o).faults.entries = s.faults.entries.map (fun e => if e.same a k then e.again else e)
      ∨ (s.listFault a k o).faults.entries =
          s.faults.entries ++ [{ addr := a, kind := k, origin := o, firstTime := s.clock, repeats := 1 }]
      ∨ (s.listFault a k o).faults.entries = s.faults.entries := by
  unfold State.listFault
  split
  · exact .inl rfl
  · split
    · refine .inr (.inl ?_)
      unfold State.raise; split <;> rfl
    · exact .inr (.inr rfl)

/-! ### Held requests -/

/-- A request changed keeps its place and its neighbours. -/
theorem modify_held (s : State) (id : Nat) (g : Request → Request) :
    (s.modify id g).queue.held = s.queue.held.map (fun r => if r.id == id then g r else r) := rfl

/-- A change that keeps the id keeps the ids of all. -/
theorem modify_ids (s : State) (id : Nat) (g : Request → Request) (h : ∀ r, (g r).id = r.id) :
    (s.modify id g).queue.held.map (·.id) = s.queue.held.map (·.id) := by
  simp only [State.modify, List.map_map]
  refine List.map_congr_left (fun r _ => ?_)
  simp only [Function.comp]
  split <;> simp [h]

/-- What a sector marked done leaves of a request. -/
theorem markDone_id (r : Request) (i : Nat) (x : Source) : (r.markDone i x).id = r.id := by
  unfold Request.markDone; split <;> rfl

/-! ### Events -/

/-- A command of a station with power answers its effect. -/
theorem live_of_powered {s : State} (h : s.powered = true) (f : State → State) : s.live f = .next (f s) := by simp [State.live, h]

/-- Every effect of `live` is a next state. -/
theorem live_next (s : State) (f : State → State) : ∃ t, s.live f = .next t := ⟨_, rfl⟩

/-! ### Blocks and STATUS -/

/-- The code of a kind names it (section 11.6). -/
theorem kindOfCode_code (k : Kind) : kindOfCode k.code = some k := by cases k <;> rfl

/-- A code that names a kind is the kind's (section 11.6). -/
theorem code_of_kindOfCode {c : BitVec 4} {k : Kind} (h : kindOfCode c = some k) : k.code = c := by
  revert h; revert c k; decide +revert

/-- The command of a block completes it at the intake (R47, R173). -/
theorem exec_blockCommand (k : Kind) (b : BlockBody) (s : State) (h : s.powered = true) :
    exec (blockCommand k b) s = .next (s.completeBlock { kindCode := k.code, body := b }) := by
  cases k <;> exact live_of_powered h (State.completeBlock · { kindCode := _, body := b })

/-- The drive work of a station does not hang on the port but for its jobs. -/
theorem hasWork_port {s : State} {p : Port} (hj : p.jobs = s.port.jobs) (hr : p.running = s.port.running) :
    State.hasWork { s with port := p } = s.hasWork := by
  have hold : ∀ f, State.hold { s with port := p } f = s.hold f := by intro f; simp [State.hold, State.allJobs, hj, hr]
  have refresh : State.refreshCandidate { s with port := p } = s.refreshCandidate := by
    funext x; simp only [State.refreshCandidate, hold]; rfl
  unfold State.hasWork State.bidUrgency State.candidates
  simp only [refresh]; rfl

/-- A change of a quiet station's port that leaves its jobs is left as it stands by the taking up of waiting work. -/
theorem settle_quiet_port {s : State} (q : Quiet s) {p : Port} (hj : p.jobs = s.port.jobs) (hr : p.running = s.port.running) :
    State.settle { s with port := p } = { s with port := p } := by
  have still : Still { s with port := p } := ⟨q.powered, q.waits, q.finished, by
    intro f hf; have := q.spent f hf; simp only [State.spent, State.hold, State.allJobs, hj, hr] at *; exact this⟩
  rw [settle_of_still still]
  unfold State.settleAccess
  dsimp only
  rw [hasWork_port hj hr]
  split
  · rename_i e; rw [q.idle e]; rfl
  · rename_i e; rw [q.waiting e]; rfl
  all_goals rfl

/-- A bit of the low part of joined bits. -/
theorem append_low {n m : Nat} (x : BitVec n) (y : BitVec m) (i : Nat) (h : i < m) : (x ++ y).getLsbD i = y.getLsbD i := by
  simp [BitVec.getLsbD_append, h]

/-- A bit of the high part of joined bits. -/
theorem append_high {n m : Nat} (x : BitVec n) (y : BitVec m) (i : Nat) (h : ¬i < m) :
    (x ++ y).getLsbD i = x.getLsbD (i - m) := by
  simp [BitVec.getLsbD_append, h]

/-- STATUS bit 3 shows the fault list non-empty (R103, section 11.6). -/
theorem statusWord_listNonEmpty (s : State) : s.statusWord.getLsbD 3 = !s.faults.entries.isEmpty := by
  have low {n m : Nat} (x : BitVec n) (y : BitVec m) (h : 3 < m) := append_low x y 3 h
  refine (low _ _ (by decide)).trans ((low _ _ (by decide)).trans ((low _ _ (by decide)).trans ((low _ _ (by decide)).trans
    ((low _ _ (by decide)).trans ((low _ _ (by decide)).trans ((append_high _ _ 3 (by decide)).trans ?_))))))
  simp [bit]

/-- STATUS bit 2 shows the fault overflow flag (R103, section 11.6). -/
theorem statusWord_overflow (s : State) : s.statusWord.getLsbD 2 = s.faults.overflow := by
  have low {n m : Nat} (x : BitVec n) (y : BitVec m) (h : 2 < m) := append_low x y 2 h
  refine (low _ _ (by decide)).trans ((low _ _ (by decide)).trans ((low _ _ (by decide)).trans ((low _ _ (by decide)).trans
    ((low _ _ (by decide)).trans ((low _ _ (by decide)).trans ((low _ _ (by decide)).trans ((append_high _ _ 2 (by decide)).trans ?_)))))))
  simp [bit]

end Sys2Proof.Machine
end

