-- ==== Sys2Proof/WellFormed.lean ====
section
/-! DEFINITION. The well-formed commands: those whose operands the outside can bring. A request block is well-formed whatever its
fields hold, since admission judges them (R48). -/

namespace Sys2Proof

/-- SNUM carries the number of a sector, 0–19 (R2). -/
def Lines.wf (l : Lines) : Bool := decide (l.snum.toNat < Config.sectorsPerTrack)

/-- At most the five header words, and none without the header sync (R3, R4). -/
def HeaderField.wf (h : HeaderField) : Bool := decide (h.words.length ≤ 5) && (h.sync || h.words.isEmpty)

/-- At most the 257 words of a data field, and none without the data sync (R3, R7). -/
def DataField.wf (d : DataField) : Bool :=
  decide (d.words.length ≤ Config.sectorWords + 1) && (d.sync || d.words.isEmpty)

/-- A completed capture has its 257 words, and a write's gate bit cells up to its CRC word (R129, R131). -/
def PeerCapture.wf (c : PeerCapture) : Bool :=
  c.words.length == Config.sectorWords + 1 &&
    (match c.field with
     | .read => true
     | .write g => !g.late.isEmpty)

/-- The words that a job moves from the computer's memory: 256 for staging, 20 for CONFIGURE, none for the others (R178). -/
def jobWordsWf (ws : List Word) : Bool := ws.isEmpty || ws.length == 20 || ws.length == Config.sectorWords

/-- A job ended by DNA has moved fewer than 256 words, and those it moved from the computer's memory are as many or none (R178). -/
def stoppedJobWf (n : Nat) (ws : List Word) : Bool := decide (n < Config.sectorWords) && (ws.isEmpty || ws.length == n)

/-- The command is well-formed. -/
def Instr.wf : Instr → Bool
  | .powerOn _ | .brstAsserted | .intakeWrite _ | .setInterruptEnables _ _ | .intakeRestart _ _ | .portReset _ _ _
  | .outletRead | .noticesRead => true
  | .read _ | .check _ | .write _ | .writeVerify _ | .update _ | .pin _ | .unpin _ | .discard _ | .cancel _
  | .releaseCartridge _ | .fetchFault _ | .report _ | .configure _ => true
  | .heldBlockProcessed | .postWaitingFinished | .rdyRises | .ulrRises | .ulrFalls | .peerPresRises
  | .peerPresFalls _ | .holdFalls _ | .holdRises | .window1Ends _ | .window2Ends _ | .tieWindowEnds _
  | .backoffTimerExpires | .lineHeld | .releaseTimerExpires | .dmaJobStart | .peerSkfRises | .peerHselChange _
  | .captureKindNone | .captureCutShort _ | .powerLost | .captureDataSyncNotFound _ => true
  | .rdyFalls _ l | .gapCompletes l | .identityCheckEnds _ _ _ l | .yieldCall l | .motionWaitTimeout l | .seekStrobe l
  | .seekEnds _ l | .seekTimeout l | .recalibrateEnds _ l | .recalibrateTimeout l | .sectorVisit l
  | .dataFieldWritten l | .peerSeekStrobe _ l | .peerRcalStrobe l => l.wf
  | .headerRead h l => h.wf && l.wf
  | .dataFieldRead d l | .readBackEnds d l => d.wf && l.wf
  | .dmaJobEnds ws => jobWordsWf ws
  | .dmaNoAnswer n ws => stoppedJobWf n ws
  | .peerHeader _ ws l => decide (ws.length ≤ 5) && l.wf
  | .captureCompletes c => c.wf

end Sys2Proof
end

