-- ==== Sys2Proof/Tests/Slice0.lean ====
section
/-! SUPPORT. Tests: the ill-formed commands that the checks refuse, worked figures of the spec, and for each statement of
Certificates/Slice0/Obligations.lean a concrete state and operands that meet its hypotheses together (`witness_<statement>`). -/

namespace Sys2Proof.Tests

open Sys2Proof.Machine

/-! ### The ill-formed commands -/

/-- No line asserted and sector `n` under the heads; SKC as given. -/
def at_ (n : Nat) (skc : Bool := true) : Lines :=
  { snum := BitVec.ofNat 5 n, wpt := false, skc := skc, skf := false, call := false, crel := false }

theorem test_wf_snum : Instr.wf (.sectorVisit (at_ 20)) = false := by decide
theorem test_wf_snum_last : Instr.wf (.sectorVisit (at_ 19)) = true := by decide
theorem test_wf_header_six_words : Instr.wf (.headerRead { sync := true, words := [0, 0, 0, 0, 0, 0] } (at_ 0)) = false := by decide
theorem test_wf_header_no_sync : Instr.wf (.headerRead { sync := false, words := [0] } (at_ 0)) = false := by decide
theorem test_wf_field_too_long :
    Instr.wf (.dataFieldRead { sync := true, words := List.replicate 258 0 } (at_ 0)) = false := by decide +kernel
theorem test_wf_field_no_sync : Instr.wf (.readBackEnds { sync := false, words := [0] } (at_ 0)) = false := by decide
theorem test_wf_job_words : Instr.wf (.dmaJobEnds (List.replicate 21 0)) = false := by decide
theorem test_wf_stopped_job : Instr.wf (.dmaNoAnswer 256 []) = false := by decide
theorem test_wf_stopped_job_words : Instr.wf (.dmaNoAnswer 3 [0]) = false := by decide
theorem test_wf_peer_header : Instr.wf (.peerHeader true [0, 0, 0, 0, 0, 0] (at_ 0)) = false := by decide
theorem test_wf_capture : Instr.wf (.captureCompletes { field := .read, words := [] }) = false := by decide
theorem test_wf_capture_no_gate : Instr.wf (.captureCompletes
    { field := .write { early := [], late := [] }, words := List.replicate 257 0 }) = false := by decide +kernel

/-! ### Figures of the spec -/

/-- R74: T is 6 for d from 1 to 8, 7 from 9 to 16, 55 at d = 393 and at d = 399. -/
theorem test_seek_estimate : seekEstimate (some 0) 8 = 6 ∧ seekEstimate (some 0) 9 = 7 ∧ seekEstimate (some 0) 393 = 55
    ∧ seekEstimate (some 399) 0 = 55 ∧ seekEstimate (some 5) 5 = 0 := by decide

/-- R75: W is 0 at the arrival sector and 19 at the current sector of the current cylinder. -/
theorem test_rotational_wait : rotationalWait 7 0 8 = 0 ∧ rotationalWait 7 0 7 = 19 ∧ rotationalWait 7 0 27 = 19 := by decide

/-- R76: the greatest transfer time is a WRITE-VERIFY of 40 sectors. -/
theorem test_transfer_time : transferTime .writeVerify .set 40 = 80 ∧ transferTime .writeVerify .set 3 = 23 := by decide

/-- R30: the last row of the backoff table. -/
theorem test_backoff : backoffLength .A 8 = 32000 ∧ backoffLength .B 8 = 64000 ∧ backoffLength .A 1 = 250 := by decide

/-- R140: a carry out of bit 15 with a zero result. -/
theorem test_add_carry : updateWord .add 1 0 0xFFFF = 0 ∧ updateFlags .add 1 0 0xFFFF = { z := true, c := true, n := false } := by decide

/-- R5: the check word of a field of 256 zero words, and its residue. -/
theorem test_crc_residue : crc (List.replicate 256 0 ++ [crc (List.replicate 256 0)]) = 0 := by decide +kernel

/-- R3: the words of a written field are eight of preamble, the data sync, the data words and the check word. -/
theorem test_written_field : (writtenField [7]).length = 11 ∧ (writtenField [7]).take 10 = List.replicate 8 0xAAAA ++ [0x1E3C, 7]
    ∧ (writtenField [7]).getLast? = some (crc [7]) := by decide +kernel

/-- A bit cell of a peer's gate with WPT as given, WRG, RDY and SKC asserted. -/
def cell (wpt : Bool) : GateCell := { wrg := true, rdy := true, skc := true, wpt := wpt }

/-- R129: the three rows of the table, and a write whose recording began after the data sync. -/
theorem test_gate_verdicts :
    gateVerdict { early := [cell true], late := [cell true] } = .noWrite
    ∧ gateVerdict { early := [cell true, cell false], late := [cell false] } = .whole
    ∧ gateVerdict { early := [cell false], late := [cell false, cell true] } = .broken
    ∧ gateVerdict { early := [cell true], late := [cell false] } = .broken := by decide

/-- The request block of section 11.6: a READ of tag 12, (163, 1, 4), count 3, memory address 1000, deadline 80, word by word. -/
theorem test_block_words :
    blockOfWords [0x0C00, 0b010100011_01_00100, 0x0300, 1000, 0x0000, 80, 0, 0] =
      { kindCode := 0, body :=
        { tag := 12, opCode := 0, cyl := 163, head := 1, sector := 4, count := 3, offset := 0, mem := 1000, bypass := false,
          dropIfLate := false, continues := false, condCode := 0, deadline := 80, opA := 0, opB := 0 } } := by decide

/-! ### States to test on -/

/-- A configured station in IDLE with a cartridge MOUNTED, every zone in CAPTURE, the arm on cylinder 0, the peer present. -/
def station : State :=
  { State.reset with
    zones := { Zones.powerOn with map := List.replicate 16 { mode := .capture, noWrite := false }, configured := true }
    lines := { StationLines.none with pres := true }
    access := { Access.powerOn with state := .idle }
    monitor := { Monitor.powerOn with state := .idle, arm := some 0 }
    cart := { Cartridge.powerOn with state := .mounted, lastSerial := some 7 }
    pins := { Pins.quiet with rdy := true, skc := true, pres := true } }

/-- Two sectors from (3, 0, 2) on, tag 5. -/
def block : BlockBody :=
  { tag := 5, opCode := 0, cyl := 3, head := 0, sector := 2, count := 2, offset := 0, mem := 1000, bypass := false,
    dropIfLate := false, continues := false, condCode := 0, deadline := 0, opA := 0, opB := 0 }

/-- A block with nothing but a tag. -/
def plain : BlockBody := { block with cyl := 0, sector := 0, count := 0, mem := 0 }

/-- A VALID directory frame of (3, 0, n). -/
def valid (n : Nat) : Frame := { Frame.free with state := .valid, addr := some { cyl := 3, head := 0, sec := n }, inDir := true }

/-- A FILLING directory frame of (3, 0, 2) that request `id` owns. -/
def filling (id : Nat) : Frame :=
  { Frame.free with state := .filling, addr := some { cyl := 3, head := 0, sec := 2 }, owner := some id, inDir := true }

/-- The station with (3, 0, 2) and (3, 0, 3) in frames 2 and 3. -/
def cached : State :=
  { station with cache := { station.cache with
      frames := [Frame.free, Frame.free, valid 2, valid 3] ++ List.replicate 60 Frame.free, lru := [2, 3] } }

/-- A request of `block`'s sectors, held under id 0. -/
def request (k : Kind) (st : ReqState) : Request := loneRequest State.reset k block st 0

/-- The station holding one request. -/
def holds (r : Request) : State := { station with queue := { held := [r], finished := [], nextId := 1 } }

/-- The station with (3, 0, 2) STALE and pinned in frame 2 and (3, 0, 3) VALID and pinned in frame 3. -/
def pinnedStation : State :=
  { station with cache := { station.cache with
      frames := [Frame.free, Frame.free, { valid 2 with state := .stale, pinned := true }, { valid 3 with pinned := true }]
        ++ List.replicate 60 Frame.free
      lru := [2, 3] } }

/-- The station in its own tenure, the sequencer at work for request 0 on index 2 of two. -/
def working (k : Kind) (p : Purpose) (st : SeqState) : State :=
  { station with
    access := { station.access with state := .holding }
    lines := { station.lines with hold := true }
    drive := { DriveLines.off with enabled := true }
    queue := { held := [request k .running], finished := [], nextId := 1 }
    cache := { station.cache with frames := filling 0 :: List.replicate 63 Frame.free }
    seq := { Sequencer.idle with
      state := st, work := some (.request 0), cyl := 3, recs := [SectorRec.start p 2, SectorRec.start p 3], visit := some 2,
      frame := some 0 } }

/-- The station watching a peer tenure, the monitor in state `m`. -/
def watching (m : MonState) : State :=
  { cached with
    access := { station.access with state := .backoff, backoff := some 250, k := 1, peerHolding := some .observed }
    monitor := { station.monitor with state := m } }

/-- The station in its own tenure, the sequencer refreshing frame 2, STALE and pinned, with (3, 0, 3) VALID in frame 3. -/
def refresh (st : SeqState) : State :=
  { working .read .read st with
    queue := { held := [], finished := [], nextId := 0 }
    cache := { station.cache with
      frames := [Frame.free, Frame.free, { valid 2 with state := .stale, pinned := true }, valid 3] ++ List.replicate 60 Frame.free
      lru := [2, 3], refresh := [{ frame := 2, entered := 0 }] }
    seq := { (working .read .read st).seq with work := some (.refresh 2), recs := [SectorRec.start .read 2], frame := some 2 } }

/-- The station in its own tenure, at work for the CHECK that opens a chain, on its last sector; a WRITE of condition `c` follows. -/
def chain (c : Cond) (st : SeqState) : State :=
  { working .check .read st with
    queue := {
      held := [{ request .check .running with chain := some 0 },
        { request .write .running with id := 1, tag := 6, chain := some 0, cond := c }]
      finished := [], nextId := 2 }
    cache := { station.cache with
      frames := { Frame.free with state := .filling, addr := some { cyl := 3, head := 0, sec := 2 }, owner := some 0 }
        :: { Frame.free with state := .staged, owner := some 1, idx := some 2 } :: List.replicate 62 Frame.free }
    seq := { (working .check .read st).seq with recs := [SectorRec.start .read 2] } }

/-- A good header of (3, 0, 2). -/
def header : List Word := [3, 0, 2, 0, crc [3, 0, 2, 0]]

/-- A data field of 256 zero words that reads good. -/
def goodField : DataField := { sync := true, words := List.replicate 256 0 ++ [crc (List.replicate 256 0)] }

/-! ### From decidable readings to the premises -/

theorem still_of {s : State} (h : s.powered = true ∧ s.cache.waits = [] ∧ s.queue.finished = [] ∧ ∀ f ∈ s.frameNumbers, s.spent f = false) :
    Still s := ⟨h.1, h.2.1, h.2.2.1, h.2.2.2⟩

theorem quiet_of {s : State} (h : (s.powered = true ∧ s.cache.waits = [] ∧ s.queue.finished = [] ∧ ∀ f ∈ s.frameNumbers, s.spent f = false)
    ∧ s.port.waiting = none ∧ s.configureHeld = false ∧ s.stagedMembers = [] ∧ (s.access.state = .idle → s.hasWork = false)
    ∧ (s.access.state = .waiting → s.hasWork = true)) : Quiet s :=
  ⟨still_of h.1, h.2.1, h.2.2.1, h.2.2.2.1, h.2.2.2.2.1, h.2.2.2.2.2⟩

theorem store_of {s : State} (h : Memory.wf s.cache.store) : StoreInv s := h

theorem fresh_of {s : State} (h : (∀ r ∈ s.queue.held, r.id < s.queue.nextId) ∧ (∀ fr ∈ s.cache.frames, fr.owner ≠ some s.queue.nextId)
    ∧ ∀ j ∈ s.allJobs, j.req ≠ s.queue.nextId) : Fresh s := ⟨h.1, h.2.1, h.2.2⟩

theorem ids_of {s : State} (h : (s.queue.held.map (·.id)).Nodup ∧ ∀ r ∈ s.queue.held, r.id < s.queue.nextId) : IdInv s := ⟨h.1, h.2⟩

theorem line_of {s : State} (h : (s.lines.hold = true ↔ s.access.state = .checking ∨ s.access.state = .holding)
    ∧ (s.drive.enabled = true ↔ s.access.state = .holding)
    ∧ (s.access.state ≠ .holding → s.drive.rdg = false ∧ s.drive.wrg = false ∧ s.drive.hsel = false ∧ s.drive.cyl = 0)
    ∧ (s.seq.state ≠ .idle → s.access.state = .holding)
    ∧ (s.access.state = .off ↔ ¬(s.powered = true ∧ s.zones.configured = true))
    ∧ (s.lines.pres = true ↔ s.powered = true ∧ s.zones.configured = true)
    ∧ (s.lines.crel = true ↔ s.powered = true ∧ s.cart.state = .released)
    ∧ (s.zones.configured = false → s.cart.state = .absent) ∧ s.access.k ≤ Config.maxCollisions
    ∧ (s.access.backoff.isSome = true ↔ s.access.state = .backoff) ∧ (s.seq.state = .idle → s.seq.stopping = false)) : LineInv s :=
  ⟨h.1, h.2.1, h.2.2.1, h.2.2.2.1, h.2.2.2.2.1, h.2.2.2.2.2.1, h.2.2.2.2.2.2.1, h.2.2.2.2.2.2.2.1, h.2.2.2.2.2.2.2.2.1,
    h.2.2.2.2.2.2.2.2.2.1, h.2.2.2.2.2.2.2.2.2.2⟩

theorem passes_of {s : State} {k : Kind} {b : BlockBody} (h : s.zones.configured = true ∧ k.isDrive = true ∧ b.condCode ≠ 3
    ∧ (k = .update → b.opCode.toNat ≤ 4 ∧ b.count = 1)
    ∧ (b.cyl.toNat ≤ 399 ∧ b.head.toNat ≤ 1 ∧ b.sector.toNat ≤ 19 ∧ 1 ≤ b.count.toNat
        ∧ b.head.toNat * 20 + b.sector.toNat + b.count.toNat ≤ 40)
    ∧ b.deadline.toNat ≤ 30000 ∧ (k = .read ∨ k.isWrite = true → b.mem.toNat + b.count.toNat * 256 ≤ 262144)
    ∧ (∀ r ∈ s.queue.held, r.tag ≠ b.tag) ∧ (b.continues = true → k ≠ .pin)
    ∧ (k.isWrite = true ∨ (k = .update ∧ b.opCode ≠ 2) →
        ∀ i ∈ blockIndices b, s.zones.refusesWrite (sectorAt b.cyl.toNat i) = false)
    ∧ (k = .pin → s.zones.mode b.cyl.toNat ≠ .none)) : Passes s k b :=
  ⟨h.1, h.2.1, h.2.2.1, h.2.2.2.1,
    ⟨h.2.2.2.2.1.1, h.2.2.2.2.1.2.1, h.2.2.2.2.1.2.2.1, h.2.2.2.2.1.2.2.2.1, h.2.2.2.2.1.2.2.2.2⟩,
    h.2.2.2.2.2.1, h.2.2.2.2.2.2.1, h.2.2.2.2.2.2.2.1, h.2.2.2.2.2.2.2.2.1, h.2.2.2.2.2.2.2.2.2.1, h.2.2.2.2.2.2.2.2.2.2⟩

theorem accepts_of {s : State} {k : Kind} {b : BlockBody} (p : Passes s k b) (h : (s.cart.state = .loading ∨ s.cart.state = .mounted)
    ∧ s.queue.held.length < 16 ∧ s.reservedCount + k.need b.count.toNat ≤ s.available
    ∧ (k = .pin → s.pinnedCount + s.promisedPins
        + ((blockIndices b).filter (fun i => !s.isPinned (sectorAt b.cyl.toNat i))).length ≤ 48)) : Accepts s k b :=
  ⟨p, h.1, h.2.1, h.2.2.1, h.2.2.2⟩

theorem plain_of {s : State} {k : Kind} {b : BlockBody} (h : (s.zones.configured = true ∨ k = .configure) ∧ k.isDrive = false
    ∧ b.condCode ≠ 3 ∧ (∀ r ∈ s.queue.held, r.tag ≠ b.tag) ∧ (b.continues = true → k = .cancel ∨ k = .configure)
    ∧ (k = .unpin ∨ k = .discard → b.cyl.toNat ≤ 399 ∧ b.head.toNat ≤ 1 ∧ b.sector.toNat ≤ 19 ∧ 1 ≤ b.count.toNat
        ∧ b.head.toNat * 20 + b.sector.toNat + b.count.toNat ≤ 40)
    ∧ (k = .report → b.mem.toNat + 9 ≤ 262143 ∧ s.queue.held.length < 16) ∧ (k = .configure → b.mem.toNat + 19 ≤ 262143)) :
    PassesPlain s k b :=
  ⟨h.1, h.2.1, h.2.2.1, h.2.2.2.1, h.2.2.2.2.1,
    fun e => ⟨(h.2.2.2.2.2.1 e).1, (h.2.2.2.2.2.1 e).2.1, (h.2.2.2.2.2.1 e).2.2.1, (h.2.2.2.2.2.1 e).2.2.2.1,
      (h.2.2.2.2.2.1 e).2.2.2.2⟩, h.2.2.2.2.2.2.1, h.2.2.2.2.2.2.2⟩

theorem visiting_of {s : State} {st : SeqState} {r : Request} {idx : Nat} (h : s.seq.state = st ∧ s.seq.work = some (.request r.id)
    ∧ s.request r.id = some r ∧ s.seq.visit = some idx ∧ s.seq.stopping = false ∧ s.access.state = .holding) : Visiting s st r idx :=
  ⟨h.1, h.2.1, h.2.2.1, h.2.2.2.1, h.2.2.2.2.1, h.2.2.2.2.2⟩

theorem lone_of {s : State} {r : Request} (h : s.queue.held = [r] ∧ r.kind.isDrive = true ∧ r.chain = none ∧ s.delivering r.id = false
    ∧ s.port.fifo.length < 16) : Lone s r := ⟨h.1, h.2.1, h.2.2.1, h.2.2.2.1, h.2.2.2.2⟩

theorem drainable_of {s : State} {r : Request} (l : Lone s r) (h : (r.state = .staging ∨ r.state = .waiting) ∧ r.undone ≠ []
    ∧ (r.kind = .read ∨ r.kind = .pin → ∀ i ∈ r.undone, s.validFrame (sectorAt r.addr.cyl i) = none)) : Drainable s r :=
  ⟨l, h.1, h.2.1, h.2.2⟩

theorem quiet_station : Quiet station := quiet_of (by decide)
theorem still_station : Still station := quiet_station.toStill
theorem quiet_cached : Quiet cached := quiet_of (by decide)
theorem passes_block (k : Kind) (h : k = .read ∨ k = .check ∨ k = .write ∨ k = .writeVerify ∨ k = .pin) : Passes station k block := by
  rcases h with rfl | rfl | rfl | rfl | rfl <;> exact passes_of (by decide)

/-! ### Witnesses: the machine -/

theorem witness_StepRunsTheFrontCommand : ({ station with pending := [.outletRead] } : State).pending = .outletRead :: [] := rfl

/-- The peer's HOLD stands asserted, with no holding taken for it. -/
def unseen (a : AccessState) : State :=
  { station with pins := { station.pins with hold := true }, access := { station.access with state := a } }

theorem witness_EmptyQueueTicks : station.pending = [] ∧ station.powered = true ∧ station.pins.hold = false
    ∧ (unseen .idle).pending = [] ∧ (unseen .idle).pins.hold = true ∧ (unseen .idle).pins.pres = true
    ∧ (unseen .idle).access.peerHolding = none ∧ (unseen .idle).access.round ≠ some .check ∧ (unseen .idle).access.state = .idle
    ∧ ({ station with powered := false } : State).powered = false := by decide

theorem witness_StepKeepsStore : StoreInv { station with cache := { station.cache with store := [(5, 1), (32767, 2)] } } := store_of (by decide)

theorem witness_StepKeepsFaultList : FaultInv { station with faults := { station.faults with
    entries := [{ addr := .cylinder 3, kind := .seekFault, origin := .own, firstTime := 0, repeats := 255 }] } } :=
  ⟨by decide, by decide, by decide⟩

theorem witness_StepKeepsPort : PortInv { station with port := { station.port with partialBlock := List.replicate 7 0 } } :=
  ⟨by decide, by decide, by decide, by decide, by decide⟩

theorem witness_StepKeepsRequestIds :
    IdInv { station with queue := { held := [request .read .waiting], finished := [], nextId := 1 } } := ids_of (by decide)

theorem witness_StepKeepsLine : LineInv (working .read .read .reading) ∧ LineInv (watching .watching) :=
  ⟨line_of (by decide), line_of (by decide)⟩

theorem witness_PowerCommands : ({ station with powered := false } : State).powered = false ∧ (∀ l, Instr.outletRead ≠ .powerOn l)
    ∧ Instr.outletRead ≠ .powerLost := ⟨rfl, by intro l; simp, by simp⟩

theorem witness_CommandsKeepClockAndLock : ∀ l, Instr.outletRead ≠ .powerOn l := by intro l; simp

/-- The station in LOADING with the label reservation, in access state `a`. -/
def loading (a : AccessState) : State :=
  { station with
    access := { station.access with state := a }
    cart := { station.cart with state := .loading }
    cache := { station.cache with labelReserved := true } }

theorem witness_DriveWorkMovesAccess :
    ((loading .idle).access.state = .idle ∧ 1 ≤ (loading .idle).bidUrgency ∧ (loading .idle).cart.state = .loading)
    ∧ (station.access.state = .idle ∧ ¬1 ≤ station.bidUrgency)
    ∧ ((loading .waiting).access.state = .waiting ∧ 1 ≤ (loading .waiting).bidUrgency ∧ (loading .waiting).cart.state = .loading)
    ∧ ({ station with access := { station.access with state := .waiting } } : State).access.state = .waiting
    ∧ ((loading .backoff).access.state ≠ .idle ∧ (loading .backoff).access.state ≠ .waiting) := by decide

/-! ### Witnesses: arithmetic and the fault list -/

theorem witness_UpdateArithmetic : (1 : Word) ≠ 0 ∧ UpdateOp.add ≠ .storeIfEqual
    ∧ updateWord (request .update .running).op 1 0 0 ≠ 0 := by decide

theorem witness_CrcResidue :
    let good : HeaderField := { sync := true, words := [3, 1, 2, 0, crc [3, 1, 2, 0]] }
    headerGood good = true ∧ headerGood { good with sync := false } = false ∧ headerGood { good with words := good.words.take 4 } = false
    ∧ ((good.words.getD 0 0).toNat = 3 ∧ (good.words.getD 1 0).toNat = 1 ∧ (good.words.getD 2 0).toNat = 2)
    ∧ headerClass good { cyl := 3, head := 1, sec := 2 } = .matching ∧ headerClass good { cyl := 3, head := 0, sec := 2 } = .wrongSector
    ∧ headerClass good { cyl := 3, head := 1, sec := 19 } = .wrongSector ∧ headerClass good { cyl := 399, head := 1, sec := 2 } = .wrongCylinder 3
    ∧ fieldClass { sync := true, words := [] } = .bad ∧ fieldClass { sync := false, words := [] } = .missing := by decide

theorem witness_CrcResidue_field :
    let ws := List.replicate 256 (0 : Word) ++ [crc (List.replicate 256 0)]
    ws.length = 257 ∧ ws.getD 256 0 = crc (ws.take 256) ∧ fieldClass { sync := true, words := ws } = .good := by decide +kernel

theorem witness_LabelVerdict : labelSerial [0x2240, 400, 2, 20, 0, 9] = some 9 ∧ labelSerial [0x2240, 400, 2, 21, 0, 9] = none := by decide

theorem witness_FrameStoreReadsBack : Memory.wf [(0, 1), (32767, 1)] ∧ 63 < 64 ∧ (List.replicate 256 (7 : Word)).length = 256 := by
  decide +kernel

theorem witness_CostParts :
    let s := { station with queue := { held := [request .read .waiting, { request .write .waiting with id := 1 }], finished := [], nextId := 2 } }
    s.isCandidate (request .read .waiting) = true ∧ (request .read .waiting).addr.cyl < 400
      ∧ (request .read .waiting).addr.index + (request .read .waiting).count ≤ 40 ∧ s.requestCost (request .read .waiting) = 23
      ∧ (request .read .waiting).due = some 2500 ∧ s.requestSlack (request .read .waiting) = 2477
      ∧ s.blocked { request .write .waiting with id := 1 } = true ∧ s.blocked (request .read .waiting) = false := by decide

theorem witness_SelectionTakesLeast :
    let c : Candidate := { work := .request 0, slack := some 100, cost := 5, age := 0, urgency := 2 }
    let d : Candidate := { work := .request 1, slack := some 101, cost := 4, age := 0, urgency := 1 }
    let e : Candidate := { c with work := .request 2, age := 1 }
    let s : State := { holds (request .read .waiting) with
      access := { station.access with state := .holding }
      cache := { pinnedStation.cache with refresh := [{ frame := 2, entered := 0 }] } }
    selectCandidate [d, c] = some c ∧ selectCandidate [d] = some d ∧ selectCandidate (loading .holding).candidates ≠ none
    ∧ (selectCandidate [e, c] = some c ∧ (∀ x ∈ [e, c], ((1 : Clock) - x.age).toNat < 2 ^ 30) ∧ e.cost = c.cost ∧ e.slack = c.slack)
    ∧ selectCandidate [c, { c with work := .request 3 }] = some c
    ∧ (s.cart.state = .mounted ∧ s.candidates.map (·.work) = [.request 0, .refresh 2] ∧ (s.frame 2).addr = some (sectorAt 3 2) ∧ s.hold 2 = 0)
    ∧ (station.cart.state ≠ .loading ∧ selectCandidate station.prepare.candidates = none)
    ∧ selectCandidate s.prepare.candidates ≠ none
    ∧ 60 ≤ (({ s with clock := 60 } : State).prepare.clock - s.access.tenureStart).toInt := by decide +kernel

theorem witness_CountersAndThresholds : station.zones.configured = true ∧ thresholdHit 1 16 = true ∧ thresholdHit 3 0 = true := by decide

theorem witness_FaultListTakesAFault :
    let e : FaultEntry := { addr := .cylinder 3, kind := .seekFault, origin := .own, firstTime := 0, repeats := 255 }
    let one := { station with faults := { station.faults with entries := [e] } }
    let full := { station with faults := { station.faults with
      entries := (List.range 16).map (fun i => { e with addr := FaultAddr.cylinder i }) } }
    (∃ x ∈ one.faults.entries, x.addr = .cylinder 3 ∧ x.kind = .seekFault)
    ∧ (∀ x ∈ one.faults.entries, ¬(x.addr = .cylinder 3 ∧ x.kind = .noHeader)) ∧ one.faults.entries.length < 16
    ∧ (∀ x ∈ full.faults.entries, ¬(x.addr = .cylinder 16 ∧ x.kind = .seekFault)) ∧ 16 ≤ full.faults.entries.length
    ∧ one.faults.entries = e :: [] := by decide

theorem witness_FaultListTakesAFault_status : station.port.fifo.length ≤ 16 ∧ station.cart.state = .mounted
    ∧ station.statusWord = 0xA002#16 := by decide

/-! ### Witnesses: the port -/

/-- A completion record. -/
def record : Completion := plainRecord station .check block .done .disk 0

theorem witness_ControlAndInterrupt : station.powered = true := rfl

theorem witness_NoticeSet : station.powered = true ∧ station.zones.configured = true
    ∧ (station.raise .lineHeld).port.notices.getLsbD Notice.lineHeld.bit = true := by decide

theorem witness_IntakeTakesWords :
    let w : State := { station with port := { station.port with waiting := some { kindCode := 0, body := block } } }
    let p (n : Nat) : State := { station with port := { station.port with partialBlock := List.replicate n 0 } }
    let e : State := { station with port := { station.port with partialBlock := 0x00D0 :: List.replicate 6 0 } }
    (Quiet e ∧ e.port.partialBlock.length = 7 ∧ e.port.fifo.length < 16
      ∧ kindOfCode (blockOfWords (e.port.partialBlock ++ [0])).kindCode = none)
    ∧ w.powered = true ∧ w.port.waiting.isSome = true ∧ (p 6).port.waiting = none ∧ (p 6).port.partialBlock.length < 7
    ∧ (p 7).port.partialBlock.length = 7 ∧ kindOfCode (blockOfWords ((p 7).port.partialBlock ++ [0])).kindCode = some .read :=
  ⟨⟨quiet_of (by decide), by decide, by decide, by decide⟩, by decide⟩

/-- The station with one record in the FIFO, read up to word `n`. -/
def unread (n : Nat) : State := { station with port := { station.port with fifo := [record], readPos := n } }

theorem witness_OutletGivesWords : station.port.fifo = [] ∧ (unread 4).port.fifo = record :: [] ∧ (unread 4).port.readPos < 5
    ∧ Quiet (unread 5) ∧ (unread 5).port.readPos = 5 ∧ record.sectors ≤ 40
    ∧ ({ record with outcome := .chainAborted, late := true, sectors := 40, source := .mixed } : Completion).word 1 = 0x3910
    ∧ ({ record with sectors := 40, source := .mixed } : Completion).word 2 = 0xC028 :=
  ⟨rfl, rfl, by decide, quiet_of (by decide), rfl, by decide, by decide, by decide⟩

theorem witness_FreedPlaceGoesToTheFirstFinished :
    let s : State := { station with
      queue := { held := [request .check .finished], finished := [(0, record)], nextId := 1 }
      port := { station.port with fifo := List.replicate 15 record } }
    s.powered = true ∧ s.queue.finished = (0, record) :: [] ∧ s.port.fifo.length < 16
    ∧ ∀ r ∈ s.queue.held, r.id = 0 → r.chain = none := by decide

theorem witness_HeldBlockIsProcessedAgain :
    let s : State := { station with port := { station.port with waiting := some { kindCode := 10, body := plain } } }
    s.powered = true ∧ s.port.waiting = some { kindCode := 10, body := plain } ∧ kindOfCode 10 = some .fetchFault
    ∧ s.port.partialBlock = [] ∧ s.queue.finished = [] ∧ s.configureHeld = false ∧ s.port.fifo.length < 16 := by decide

/-! ### Witnesses: admission -/

/-- A READ that opens a chain, waiting for the chain's next member. -/
def opened : Request := { request .read .pendingChain with chain := some 0, continues := true }

theorem witness_ChecksOfADriveBlock : (Kind.read.isDrive = true ∧ station.stagedMembers = [])
    ∧ (holds opened).stagedMembers = opened :: []
    ∧ (holds opened).refusal { kindCode := Kind.check.code, body := { block with tag := 6, cyl := 4 } } = some .chainSpan
    ∧ ((holds opened).stagedMembers ≠ [] ∧ PassesPlain (holds opened) .unpin { block with tag := 6 }) :=
  ⟨by decide, by decide, by decide, by decide, plain_of (by decide)⟩

theorem witness_RefusalLeavesOnlyARecord :
    (Quiet station ∧ station.port.fifo.length < 16
      ∧ station.refusal { kindCode := Kind.read.code, body := { block with sector := 20 } } = some .badAddress)
    ∧ (let ms := [opened, { request .write .pendingChain with id := 1, tag := 6, chain := some 0, mark := some .memoryError }]
      let s : State := { station with
        queue := { held := ms, finished := [], nextId := 2 }
        cache := { station.cache with
          frames := { Frame.free with state := .staged, owner := some 1, idx := some 2 } :: List.replicate 63 Frame.free } }
      Still s ∧ s.port.waiting = none ∧ (∀ p ∈ ms, p.state = .pendingChain ∧ p.kind.isDrive = true ∧ p.chain = some 0)
      ∧ ms.Pairwise (fun p q => p.id < q.id) ∧ s.port.fifo.length + ms.length + 1 ≤ 16
      ∧ s.refusal { kindCode := Kind.cancel.code, body := { plain with tag := 9 } } = some .badKind
      ∧ (s.frame 0).owner = some 1 ∧ (s.frame 0).state = .staged) :=
  ⟨⟨quiet_station, by decide, by decide⟩, still_of (by decide), by decide, by decide, by decide, by decide, by decide, by decide, by decide⟩

theorem witness_TestsOfImmediateKinds :
    let late := holds (request .read .running)
    let member := holds { request .read .waiting with chain := some 7 }
    let c : BlockBody := { plain with tag := 9, opA := 5 }
    (station.stagedMembers = [] ∧ PassesPlain station .cancel c ∧ (∀ r ∈ station.queue.held, r.tag ≠ c.opA.extractLsb' 0 8))
    ∧ (member.stagedMembers = [] ∧ PassesPlain member .cancel c
        ∧ member.queue.held.find? (fun q => q.tag == c.opA.extractLsb' 0 8) = some { request .read .waiting with chain := some 7 })
    ∧ (late.stagedMembers = [] ∧ PassesPlain late .cancel c
        ∧ late.queue.held.find? (fun q => q.tag == c.opA.extractLsb' 0 8) = some (request .read .running))
    ∧ (PassesPlain station .releaseCartridge plain ∧ station.cart.state ≠ .leaving)
    ∧ (PassesPlain station .configure plain ∧ ({ station with zones := { station.zones with lock := true } } : State).zones.lock = true)
    ∧ (PassesPlain late .configure c ∧ late.zones.lock = false ∧ late.queue.held ≠ []) :=
  ⟨⟨by decide, plain_of (by decide), by decide⟩, ⟨by decide, plain_of (by decide), by decide⟩,
    ⟨by decide, plain_of (by decide), by decide⟩, ⟨plain_of (by decide), by decide⟩, ⟨plain_of (by decide), by decide⟩,
    ⟨plain_of (by decide), by decide, by decide⟩⟩

/-! ### Witnesses: drive requests -/

theorem witness_DriveRequestAccepted : Quiet station ∧ Fresh station ∧ Accepts station .read block ∧ Accepts station .pin block
    ∧ Accepts station .check block ∧ Accepts station .update { block with count := 1 }
    ∧ ∀ i ∈ blockIndices block, station.validFrame (blockSector block i) = none :=
  ⟨quiet_station, fresh_of (by decide), accepts_of (passes_block _ (by decide)) (by decide),
    accepts_of (passes_block _ (by decide)) (by decide), accepts_of (passes_block _ (by decide)) (by decide),
    accepts_of (passes_of (by decide)) (by decide), by decide⟩

theorem witness_ChainOpensAndCloses :
    let f : Request := { request .check .pendingChain with chain := some 0, continues := true }
    let b : BlockBody := { block with tag := 6, condCode := 1 }
    (Accepts station .read { block with continues := true } ∧ Accepts station .check { block with continues := true })
    ∧ (Still (holds f) ∧ (holds f).port.waiting = none ∧ f.chain = some f.id ∧ f.id < (holds f).queue.nextId ∧ f.due.isSome = true
        ∧ f.mark = none ∧ (holds f).allJobs = [] ∧ (holds f).refusal { kindCode := Kind.read.code, body := b } = none)
    ∧ (∀ c ∈ [Cond.ifNZ, .ifZ], Still (chain c .reading) ∧ (chain c .reading).allJobs = [] ∧ (chain c .reading).cache.refresh = []
        ∧ (chain c .reading).seq.pendingIdx = [2]
        ∧ Visiting (chain c .reading) .reading { request .check .running with chain := some 0 } 2)
    ∧ (Still (chain .always .searching) ∧ Visiting (chain .always .searching) .searching { request .check .running with chain := some 0 } 2
        ∧ (chain .always .searching).seq.unverified = [] ∧ (chain .always .searching).faults.entries = []
        ∧ ((chain .always .searching).frame 1).owner = some 1 ∧ ((chain .always .searching).frame 1).state = .staged
        ∧ headerClass { sync := true, words := [3, 0, 2, 0x8000, crc [3, 0, 2, 0x8000]] } (sectorAt 3 2) = .matchingBad) :=
  ⟨⟨accepts_of (passes_of (by decide)) (by decide), accepts_of (passes_of (by decide)) (by decide)⟩,
    ⟨still_of (by decide), by decide, by decide, by decide, by decide, by decide, by decide, by decide⟩,
    fun c h => by
      rcases List.mem_cons.mp h with rfl | h
      · exact ⟨still_of (by decide), by decide, by decide, by decide, visiting_of (by decide)⟩
      · obtain rfl : c = .ifZ := by simpa using h
        exact ⟨still_of (by decide), by decide, by decide, by decide, visiting_of (by decide)⟩,
    still_of (by decide), visiting_of (by decide), by decide, by decide, by decide, by decide, by decide⟩

theorem witness_ReadServedAtAdmission : Quiet cached ∧ Fresh cached ∧ Passes cached .read block ∧ cached.queue.held.length < 16
    ∧ (∀ r ∈ cached.queue.held, r.addr.cyl ≠ block.cyl.toNat)
    ∧ ∀ i ∈ blockIndices block, cached.validFrame (blockSector block i) = some i :=
  ⟨quiet_cached, fresh_of (by decide), passes_of (by decide), by decide, by decide, by decide⟩

theorem witness_PinServedAtProcessing : Quiet cached ∧ Passes cached .pin block ∧ cached.port.fifo.length < 16
    ∧ (∀ i ∈ blockIndices block, cached.validFrame (blockSector block i) = some i) ∧ cached.reservedCount + 2 ≤ cached.available
    ∧ cached.pinnedCount + cached.promisedPins + 2 ≤ 48 :=
  ⟨quiet_cached, passes_of (by decide), by decide, by decide, by decide, by decide⟩

/-- The station with no frame FREE: (3, 0, 2) and (3, 0, 3) VALID in frames 0 and 1, the rest pinned. -/
def crowded : State :=
  { station with cache := { station.cache with
      frames := [valid 2, valid 3] ++ List.replicate 62 { valid 4 with pinned := true }, lru := [2, 1, 0] } }

/-- The crowded station holding a write whose one frame waits for the end of the delivery from frame 0. -/
def jammed : State :=
  { crowded with
    queue := { held := [{ request .write .staging with reserved := 1 }], finished := [], nextId := 2 }
    port := { station.port with
      running := some { req := 5, orphan := true, kind := .delivery 0 2, base := 0 }
      jobs := [{ req := 5, orphan := true, kind := .delivery 1 3, base := 0 }] }
    cache := { crowded.cache with waits := [{ req := some 0, idx := 2, staged := true }] } }

theorem witness_WriteIsStaged :
    let held : State := { crowded with port := { station.port with
      jobs := [{ req := 5, orphan := true, kind := .delivery 0 2, base := 0 }, { req := 5, orphan := true, kind := .delivery 1 3, base := 0 }] } }
    (Quiet station ∧ Fresh station ∧ Accepts station .write block ∧ Accepts station .writeVerify block
      ∧ station.cache.frames.length = 64 ∧ block.count.toNat ≤ station.freeCount)
    ∧ (Quiet crowded ∧ Fresh crowded ∧ Accepts crowded .write { block with count := 1 } ∧ (∀ fr ∈ crowded.cache.frames, fr.state ≠ .free)
      ∧ crowded.cache.lru = [2] ++ 1 :: [0] ∧ (crowded.frame 1).state = .valid ∧ (crowded.frame 1).pinned = false ∧ crowded.hold 1 = 0
      ∧ ∀ g ∈ [2], ¬((crowded.frame g).state = .valid ∧ (crowded.frame g).pinned = false ∧ crowded.hold g = 0))
    ∧ (Quiet held ∧ Fresh held ∧ Accepts held .write block
      ∧ ∀ g ∈ held.cache.lru, ¬((held.frame g).state = .valid ∧ (held.frame g).pinned = false ∧ held.hold g = 0))
    ∧ (jammed.powered = true ∧ (∀ g ∈ jammed.frameNumbers, jammed.spent g = false)
      ∧ jammed.request 0 = some { request .write .staging with reserved := 1 } ∧ (jammed.frame 0).state = .valid
      ∧ (jammed.frame 0).pinned = false ∧ jammed.hold 0 = 1 ∧ 0 ∈ jammed.cache.lru ∧ jammed.monitor.heldFor ≠ some 0
      ∧ ∀ g ∈ jammed.cache.lru, g ≠ 0 → ¬((jammed.frame g).state = .valid ∧ (jammed.frame g).pinned = false ∧ jammed.hold g = 0)) :=
  ⟨⟨quiet_station, fresh_of (by decide), accepts_of (passes_block _ (by decide)) (by decide),
      accepts_of (passes_block _ (by decide)) (by decide), by decide, by decide⟩,
    ⟨quiet_of (by decide), fresh_of (by decide), accepts_of (passes_of (by decide)) (by decide), by decide, by decide, by decide, by decide,
      by decide, by decide⟩,
    ⟨quiet_of (by decide), fresh_of (by decide), accepts_of (passes_of (by decide)) (by decide), by decide⟩,
    ⟨by decide, by decide, by decide, by decide, by decide, by decide, by decide, by decide, by decide⟩⟩

/-! ### Witnesses: immediate requests -/

/-- `pinnedStation` with a capture held for frame 2, from which a delivery runs. -/
def holding : State :=
  { pinnedStation with
    port := { station.port with running := some { req := 5, orphan := true, kind := .delivery 2 2, base := 1000 } }
    monitor := { station.monitor with
      state := .holding, heldFor := some 2, header := [3, 0, 2, 0, crc [3, 0, 2, 0]], data := List.replicate 257 0, kind := some .write
      addr := some { cyl := 3, head := 0, sec := 2 }, verdict := some .good } }

theorem witness_UnpinAndDiscard :
    (Quiet pinnedStation ∧ PassesPlain pinnedStation .unpin block ∧ pinnedStation.dirFrame (blockSector block 2) = some 2
      ∧ pinnedStation.hold 2 = 0)
    ∧ (Quiet (refresh .reading) ∧ PassesPlain (refresh .reading) .unpin block ∧ (refresh .reading).dirFrame (blockSector block 2) = some 2
      ∧ (refresh .reading).hold 2 = 0 ∧ (refresh .reading).refreshing 2 = true)
    ∧ (Quiet holding ∧ PassesPlain holding .unpin block ∧ holding.dirFrame (blockSector block 2) = some 2 ∧ (holding.frame 2).state = .stale
      ∧ (holding.frame 2).pinned = true ∧ holding.hold 2 ≠ 0 ∧ holding.port.fifo.length < 16)
    ∧ (Quiet cached ∧ PassesPlain cached .discard block ∧ cached.dirFrame (blockSector block 3) = some 3 ∧ cached.port.fifo.length < 16) :=
  ⟨⟨quiet_of (by decide), plain_of (by decide), by decide, by decide⟩,
    ⟨quiet_of (by decide), plain_of (by decide), by decide, by decide, by decide⟩,
    ⟨quiet_of (by decide), plain_of (by decide), by decide, by decide, by decide, by decide, by decide⟩,
    ⟨quiet_cached, plain_of (by decide), by decide, by decide⟩⟩

theorem witness_CancelWithdraws :
    let s := { holds (request .read .waiting) with access := { station.access with state := .waiting } }
    let w : State := { holds (request .write .staging) with
      port := { station.port with running := some { req := 0, orphan := false, kind := .staging 0 2, base := 1000 } }
      cache := { station.cache with
        frames := { Frame.free with state := .staged, owner := some 0, idx := some 2 } :: List.replicate 63 Frame.free } }
    let c : BlockBody := { plain with tag := 9, opA := 5 }
    (Quiet s ∧ IdInv s ∧ PassesPlain s .cancel c ∧ s.port.fifo.length + 2 ≤ 16
      ∧ s.queue.held.find? (fun q => q.tag == c.opA.extractLsb' 0 8) = some (request .read .waiting)
      ∧ (request .read .waiting).failAt = none ∧ s.delivering 0 = false)
    ∧ (Quiet w ∧ IdInv w ∧ PassesPlain w .cancel c
      ∧ w.queue.held.find? (fun q => q.tag == c.opA.extractLsb' 0 8) = some (request .write .staging)
      ∧ w.delivering 0 = false ∧ (w.frame 0).owner = some 0 ∧ (w.frame 0).state = .staged) :=
  ⟨⟨quiet_of (by decide), ids_of (by decide), plain_of (by decide), by decide, by decide, by decide, by decide⟩,
    quiet_of (by decide), ids_of (by decide), plain_of (by decide), by decide, by decide, by decide, by decide⟩

/-- The station in LEAVING with the release timer running. -/
def leaving : State :=
  { station with cart := { station.cart with state := .leaving, recorded := some .mounted, timer := some 30000 } }

/-- `s` holding `r`, its sector of index 2 STAGED in frame 0. -/
def staging (s : State) (r : Request) : State :=
  { s with
    queue := { held := [r], finished := [], nextId := 1 }
    cache := { s.cache with
      frames := { Frame.free with state := .staged, owner := some 0, idx := some 2 } :: List.replicate 63 Frame.free } }

theorem witness_ReleaseEntersReleased : (Quiet leaving ∧ IdInv leaving ∧ PassesPlain leaving .releaseCartridge plain
    ∧ leaving.port.fifo.length < 16 ∧ leaving.cart.state = .leaving ∧ leaving.cart.timer.isSome = true)
    ∧ (∀ st ∈ [ReqState.staging, .waiting], let s := staging leaving (request .write st)
      Quiet s ∧ IdInv s ∧ PassesPlain s .releaseCartridge { plain with tag := 9 } ∧ Drainable s (request .write st)
        ∧ s.port.fifo.length + 2 ≤ 16 ∧ (s.frame 0).owner = some 0)
    ∧ (let m : Request := { opened with kind := .write }
      Still (staging leaving m) ∧ IdInv (staging leaving m) ∧ m.state = .pendingChain ∧ ((staging leaving m).frame 0).owner = some m.id) :=
  ⟨⟨quiet_of (by decide), ids_of (by decide), plain_of (by decide), by decide, by decide, by decide⟩,
    fun st h => by
      simp only [List.mem_cons, List.not_mem_nil, or_false] at h
      rcases h with rfl | rfl <;>
        exact ⟨quiet_of (by decide), ids_of (by decide), plain_of (by decide), drainable_of (lone_of (by decide)) (by decide), by decide,
          by decide⟩,
    still_of (by decide), ids_of (by decide), by decide, by decide⟩

theorem witness_FetchFaultTakesTheOldest :
    let e : FaultEntry := { addr := .cylinder 3, kind := .seekFault, origin := .own, firstTime := 0, repeats := 1 }
    let one : State := { station with faults := { station.faults with entries := [e], overflow := true } }
    let full : State := { station with port := { station.port with fifo := List.replicate 16 record } }
    (Quiet one ∧ PassesPlain one .fetchFault plain ∧ one.port.fifo.length < 16 ∧ one.faults.entries = e :: [])
    ∧ (Quiet station ∧ PassesPlain station .fetchFault plain ∧ station.faults.entries = [])
    ∧ (Quiet full ∧ PassesPlain full .fetchFault plain ∧ 16 ≤ full.port.fifo.length) :=
  ⟨⟨quiet_of (by decide), plain_of (by decide), by decide, by decide⟩, ⟨quiet_station, plain_of (by decide), by decide⟩,
    ⟨quiet_of (by decide), plain_of (by decide), by decide⟩⟩

theorem witness_ReportAndConfigureAccepted :
    PassesPlain station .report { plain with mem := 262134 } ∧ PassesPlain station .configure { plain with mem := 262124 }
    ∧ station.zones.lock = false ∧ station.queue.held = [] ∧ Quiet State.reset ∧ PassesPlain State.reset .configure plain :=
  ⟨plain_of (by decide), plain_of (by decide), by decide, by decide, quiet_of (by decide), plain_of (by decide)⟩

/-! ### Witnesses: the data channel -/

/-- Job `k` of request 0. -/
def job (k : JobKind) : Job := { req := 0, orphan := false, kind := k, base := 1000 }

/-- The station holding `r`, its job `k` running. -/
def running (r : Request) (k : JobKind) : State := { holds r with port := { station.port with running := some (job k) } }

theorem witness_OldestJobStarts :
    ({ station with port := { station.port with jobs := [job .configure] } } : State).port.jobs = job .configure :: []
    ∧ station.port.running = none ∧ station.port.jobs = [] := by decide

theorem witness_JobsEnd :
    (Still (running (request .write .staging) (.staging 63 3)) ∧ StoreInv (running (request .write .staging) (.staging 63 3))
      ∧ (running (request .write .staging) (.staging 63 3)).request 0 = some (request .write .staging))
    ∧ (Still (running { request .read .delivering with outcome := some .done } (.delivery 0 2))
      ∧ (running { request .read .delivering with outcome := some .done } (.delivery 0 2)).port.jobs.all (fun x => x.req != 0) = true)
    ∧ (let s : State := { running { request .read .delivering with outcome := some .done } (.delivery 0 2) with
          cache := { station.cache with frames := { filling 0 with inDir := false, filled := true } :: List.replicate 63 Frame.free } }
      Still s ∧ (s.frame 0).state = .filling ∧ (s.frame 0).filled = true ∧ s.hold 0 = 1 ∧ s.monitor.heldFor ≠ some 0)
    ∧ (Still (running (request .report .running) (.report [1, 2])) ∧ (request .report .running).chain = none)
    ∧ (Still holding ∧ StoreInv holding ∧ (holding.frame 2).state = .stale ∧ (holding.frame 2).inDir = true
      ∧ holding.monitor.heldFor = some 2 ∧ holding.monitor.verdict = some .good ∧ holding.hold 2 = 1
      ∧ holding.cache.frames.length = 64) :=
  ⟨⟨still_of (by decide), store_of (by decide), by decide⟩, ⟨still_of (by decide), by decide⟩,
    ⟨still_of (by decide), by decide, by decide, by decide, by decide⟩, ⟨still_of (by decide), by decide⟩,
    still_of (by decide), store_of (by decide), by decide, by decide, by decide, by decide, by decide, by decide⟩

theorem witness_JobsEnd_data : holding.monitor.data.length = 257 := by decide +kernel

theorem witness_ConfigurationJudged :
    let s : State := { State.reset with
      queue := { held := [request .configure .running], finished := [], nextId := 1 }
      port := { State.reset.port with running := some (job .configure) }
      pins := { State.reset.pins with rdy := true, ulr := true } }
    let t : State := running (request .configure .running) .configure
    let u : State := { refresh .searching with
      queue := t.queue, port := t.port, zones := station.zones }
    (Still u ∧ LineInv u ∧ u.port.jobs = [] ∧ u.refreshing 2 = true ∧ (u.frame 2).state = .stale ∧ u.refreshing 3 = false
      ∧ (u.frame 3).state = .valid ∧ u.zones.mode 3 ≠ .none ∧ configBad (List.replicate 20 0) = false
      ∧ (∀ fr ∈ u.cache.frames, fr.owner ≠ some 0) ∧ (u.zones.ofRecord (List.replicate 20 0)).mode 3 = .none)
    ∧ (Still s ∧ LineInv s ∧ s.port.waiting = none ∧ s.queue.held = [request .configure .running]
      ∧ (∀ fr ∈ s.cache.frames, fr.owner ≠ some 0) ∧ s.zones.configured = false)
    ∧ (Still t ∧ LineInv t ∧ t.zones.configured = true)
    ∧ configBad (List.replicate 16 2 ++ [399, 399, 0x3333, 1]) = false ∧ configBad (List.replicate 16 2 ++ [400, 399, 0, 0]) = true
    ∧ configBad (3 :: List.replicate 19 0) = true ∧ configBad (List.replicate 18 0 ++ [0x4000, 0]) = true :=
  ⟨⟨still_of (by decide), line_of (by decide), by decide, by decide, by decide, by decide, by decide, by decide, by decide, by decide,
      by decide⟩,
    ⟨still_of (by decide), line_of (by decide), by decide, by decide, by decide, by decide⟩,
    ⟨still_of (by decide), line_of (by decide), by decide⟩, by decide, by decide, by decide, by decide⟩

theorem witness_MemoryDoesNotAnswer :
    (Still (running (request .report .running) (.report [1, 2])) ∧ Still (running (request .configure .running) .configure))
    ∧ Still (running (request .writeVerify .staging) (.staging 0 2))
    ∧ (Still (running (request .read .running) (.delivery 0 2)) ∧ (running (request .read .running) (.delivery 0 2)).monitor.heldFor = none)
    ∧ (let s : State := { chain .ifZ .idle with
          access := station.access, lines := station.lines, drive := station.drive, seq := Sequencer.idle
          queue := { (chain .ifZ .idle).queue with
            held := [{ request .check .staging with chain := some 0 }, { request .write .staging with id := 1, tag := 6, chain := some 0 }] }
          cache := { station.cache with
            frames := { Frame.free with state := .staged, owner := some 1, idx := some 2 } :: List.replicate 63 Frame.free }
          port := { station.port with running := some { req := 1, orphan := false, kind := .staging 0 2, base := 1000 } } }
      Still s ∧ s.port.waiting = none ∧ (s.frame 0).owner = some 1 ∧ (s.frame 0).state = .staged ∧ s.port.fifo.length + 2 ≤ 16)
    ∧ (let m : Request := { opened with kind := .write }
      let s : State := { staging station m with port := { station.port with running := some (job (.staging 0 2)) } }
      Still s ∧ s.request 0 = some m ∧ m.state = .pendingChain ∧ (s.frame 0).owner = some m.id) :=
  ⟨⟨still_of (by decide), still_of (by decide)⟩, still_of (by decide), ⟨still_of (by decide), by decide⟩,
    ⟨still_of (by decide), by decide, by decide, by decide, by decide⟩, still_of (by decide), by decide, by decide, by decide⟩

/-! ### Witnesses: the cartridge and the line -/

/-- The station with no cartridge. -/
def absent : State := { station with cart := { station.cart with state := .absent }, pins := { Pins.quiet with pres := true } }

theorem witness_ReadyRises : Still absent ∧ absent.zones.configured = true ∧ absent.cart.state = .absent :=
  ⟨still_of (by decide), by decide, by decide⟩

/-- The station writing (3, 0, 2) of a WRITE from frame 0, the sector STALE and pinned, or VALID, in frame 2. -/
def tearing (fr : Frame) : State :=
  { working .write .write .writing with
    cache := { cached.cache with
      frames := { Frame.free with state := .staged, owner := some 0, idx := some 2 } :: cached.cache.frames.tail.set 1 fr }
    seq := { (working .write .write .writing).seq with sending := some { frame := 0, addr := sectorAt 3 2, patch := none } } }

theorem witness_ReadyFalls : (IdInv (working .read .read .reading) ∧ LineInv (working .read .read .reading)
      ∧ (working .read .read .reading).cart.state ≠ .absent ∧ (working .read .read .reading).powered = true)
    ∧ (∀ st ∈ [ReqState.staging, .waiting], let s := staging station (request .write st)
      IdInv s ∧ LineInv s ∧ Still s ∧ Drainable s (request .write st) ∧ s.seq.state = .idle ∧ s.seq.work = none
        ∧ s.monitor.state ≠ .capturing ∧ s.cart.state ≠ .absent)
    ∧ (let s := staging station { opened with kind := .write }
      IdInv s ∧ LineInv s ∧ Still s ∧ s.seq.work = none)
    ∧ (∀ fr ∈ [valid 2, { valid 2 with pinned := true }],
      Still (tearing fr) ∧ IdInv (tearing fr) ∧ LineInv (tearing fr) ∧ Lone (tearing fr) (request .write .running)
        ∧ (tearing fr).seq.work = some (.request 0) ∧ (tearing fr).seq.stopping = false ∧ (tearing fr).seq.visit = some 2
        ∧ (tearing fr).seq.unverified = [] ∧ (tearing fr).dirFrame (sectorAt 3 2) = some 2 ∧ (tearing fr).hold 2 = 0)
    ∧ (Lone (working .read .read .seeking) (request .read .running) ∧ (working .read .read .seeking).seq.unverified = []) :=
  ⟨⟨ids_of (by decide), line_of (by decide), by decide, by decide⟩,
    fun st h => by
      simp only [List.mem_cons, List.not_mem_nil, or_false] at h
      rcases h with rfl | rfl <;>
        exact ⟨ids_of (by decide), line_of (by decide), still_of (by decide), drainable_of (lone_of (by decide)) (by decide), by decide,
          by decide, by decide, by decide⟩,
    ⟨ids_of (by decide), line_of (by decide), still_of (by decide), by decide⟩,
    fun fr h => by
      simp only [List.mem_cons, List.not_mem_nil, or_false] at h
      rcases h with rfl | rfl <;>
        exact ⟨still_of (by decide), ids_of (by decide), line_of (by decide), lone_of (by decide), by decide, by decide, by decide, by decide,
          by decide, by decide⟩,
    lone_of (by decide), by decide⟩

theorem witness_UnloadEdges :
    let owed : State := { leaving with
      cart := { leaving.cart with recorded := some .unusable, rejectionOwed := true }, queue := (holds (request .read .waiting)).queue }
    (Still station ∧ station.pins.rdy = true ∧ station.cart.state = Recorded.state .mounted)
    ∧ (Still leaving ∧ leaving.cart.recorded = some .mounted)
    ∧ Still { leaving with cart := { leaving.cart with state := .released, recorded := some .unusable } }
    ∧ (Still owed ∧ IdInv owed ∧ owed.pins.rdy = true)
    ∧ Still { leaving with cart := { leaving.cart with recorded := some .loading } }
    ∧ (Still absent ∧ absent.pins.rdy = false) :=
  ⟨⟨still_station, by decide, by decide⟩, ⟨still_of (by decide), by decide⟩, still_of (by decide),
    ⟨still_of (by decide), ids_of (by decide), by decide⟩, still_of (by decide), still_of (by decide), by decide⟩

theorem witness_PeerPresence : Still (loading .checking) ∧ Still (watching .watching) ∧ (loading .checking).zones.configured = true :=
  ⟨still_of (by decide), still_of (by decide), by decide⟩

theorem witness_HoldEdges :
    (Still (watching .watching) ∧ (watching .watching).access.state = .backoff ∧ (watching .watching).pins.pres = true)
    ∧ (Still station ∧ station.access.round ≠ some .check ∧ station.access.peerHolding = none ∧ station.monitor.state ≠ .capturing) :=
  ⟨⟨still_of (by decide), by decide, by decide⟩, still_station, by decide, by decide, by decide⟩

/-- The station in access state `a` holding `r`, with (3, 0, 2) in frame 2, and (3, 0, 3) in frame 3 if `both`. -/
def consulting (a : AccessState) (both : Bool) (r : Request) : State :=
  { holds r with
    access := { station.access with state := a }
    cache := { cached.cache with
      frames := [Frame.free, Frame.free, valid 2, if both then valid 3 else Frame.free] ++ List.replicate 60 Frame.free } }

theorem witness_GapCompletes :
    let late := { holds { request .read .waiting with dropIfLate := true, explicit := true, due := some 0 } with
      access := { station.access with state := .waiting } }
    (IdInv late ∧ late.pins.hold = false ∧ late.access.state = .waiting)
    ∧ (let r : Request := { request .read .waiting with dropIfLate := true, explicit := true, due := some 0 }
      Still late ∧ Lone late r ∧ r.due = some 0 ∧ 0 ≤ (late.clock - 0).toInt ∧ r.slack = none ∧ r.failAt = none
        ∧ late.zones.thresholds.late = 0)
    ∧ (Still (loading .waiting) ∧ (loading .waiting).queue.held = [] ∧ ((loading .waiting).sample (at_ 0)).hasWork = true)
    ∧ (Still (loading .backoff) ∧ (loading .backoff).access.state = .backoff)
    ∧ (let s := consulting .idle true (request .check .waiting)
      Still s ∧ (s.sample (at_ 0)).hasWork = true
      ∧ ∀ r ∈ s.queue.held, s.expires r = false
          ∧ (s.consults r = true → r.undone ≠ [] ∧ ∀ i ∈ r.undone, s.validFrame (sectorAt r.addr.cyl i) = none))
    ∧ (Still { station with access := { station.access with state := .waiting } }
      ∧ (({ station with access := { station.access with state := .waiting } } : State).sample (at_ 0)).hasWork = false)
    ∧ (∀ both ∈ [true, false], let s := consulting .waiting both { request .read .waiting with reserved := 2 }
      Still s ∧ s.expires { request .read .waiting with reserved := 2 } = false ∧ (request .read .waiting).undone = [2, 3]
      ∧ (∀ fr ∈ s.cache.frames, fr.owner ≠ some 0) ∧ s.validFrame (sectorAt 3 2) = some 2
      ∧ ((s.validFrame (sectorAt 3 3)).isSome = both))
    ∧ (let s := consulting .backoff true (request .pin .waiting)
      Still s ∧ (∀ i ∈ (request .pin .waiting).undone, s.validFrame (sectorAt 3 i) = some i) ∧ s.delivering 0 = false
      ∧ s.port.fifo.length < 16 ∧ (request .pin .waiting).source = none ∧ (request .pin .waiting).refusedAt = none) :=
  ⟨⟨ids_of (by decide), by decide, by decide⟩,
    ⟨still_of (by decide), lone_of (by decide), by decide, by decide, by decide, by decide, by decide⟩,
    ⟨still_of (by decide), by decide, by decide⟩, ⟨still_of (by decide), by decide⟩,
    ⟨still_of (by decide), by decide, by decide⟩, ⟨still_of (by decide), by decide⟩,
    fun b _ => by
      cases b <;> exact ⟨still_of (by decide), by decide, by decide, by decide, by decide, by decide⟩,
    ⟨still_of (by decide), by decide, by decide, by decide, by decide⟩⟩

/-- The station in `loading`, in window `w` of a round, with urgency `u`. -/
def bidding (a : AccessState) (w : RoundWindow) (u : Nat) : State :=
  { loading a with access := { station.access with state := a, round := some w, frozen := u } }

theorem witness_BidWindows : (bidding .bidding .window1 1).access.round = some .window1 ∧ (bidding .bidding .window2 2).access.round = some .window2
    ∧ (bidding .bidding .tie 3).access.round = some .tie ∧ (bidding .bidding .tie 3).access.state = .bidding
    ∧ (bidding .bidding .tie 3).identity = (bidding .bidding .tie 3).access.turn
    ∧ ({ bidding .bidding .tie 3 with identity := Ident.B } : State).identity ≠ (bidding .bidding .tie 3).access.turn := by decide

/-- The station at the end of its own identity check, MOUNTED, holding `r`. -/
def winning (r : Request) : State :=
  { holds r with
    access := { station.access with state := .checking, round := some .check, frozen := 1 }
    lines := { station.lines with hold := true, mark1 := true } }

theorem witness_OwnIdentityCheck :
    let s := bidding .checking .check 2
    (Still s ∧ s.access.state = .checking ∧ s.pins.pres = true ∧ s.access.k ≤ 8 ∧ s.zones.thresholds.collide = 0 ∧ s.identity = .A)
    ∧ ({ s with access := { s.access with k := 8 } } : State).access.k ≤ 8
    ∧ (s.cart.state = .loading ∧ s.cache.labelReserved = true ∧ s.queue.held = [] ∧ (at_ 0).call = false
      ∧ ∃ fr ∈ s.cache.frames, fr.state = .free)
    ∧ (∀ k ∈ [Kind.read, .check, .write, .writeVerify, .update, .pin], Still (winning (request k .waiting))
      ∧ (winning (request k .waiting)).cache.refresh = [] ∧ (request k .waiting).undone = [2, 3] ∧ (request k .waiting).dropIfLate = false
      ∧ 2 ≤ (winning (request k .waiting)).freeCount
      ∧ (∀ i ∈ (request k .waiting).undone, (winning (request k .waiting)).validFrame (sectorAt 3 i) = none)
      ∧ 25 < ((winning (request k .waiting)).sample (at_ 0)).requestSlack (request k .waiting))
    ∧ ((winning { request .read .waiting with due := some 10 }).sample { at_ 0 with call := true }).requestSlack
        { request .read .waiting with due := some 10 } ≤ 25 :=
  ⟨⟨still_of (by decide), by decide, by decide, by decide, by decide, by decide⟩, by decide,
    ⟨by decide, by decide, by decide, by decide, ⟨Frame.free, by decide, by decide⟩⟩,
    fun k h => by
      simp only [List.mem_cons, List.not_mem_nil, or_false] at h
      rcases h with rfl | rfl | rfl | rfl | rfl | rfl <;>
        exact ⟨still_of (by decide), by decide, by decide, by decide, by decide, by decide, by decide⟩,
    by decide⟩

/-- The station in access state `a` at an identity check that is not its own, holding a READ due at 10. -/
def urgentObserver (a : AccessState) : State :=
  { holds { request .read .waiting with due := some 10 } with access := { station.access with state := a, round := some .check } }

theorem witness_ObservedOutcome :
    (∀ a ∈ [AccessState.idle, .waiting, .backoff], Still (bidding a .check 0) ∧ (bidding a .check 0).access.state = a
      ∧ (bidding a .check 0).pins.pres = true ∧ (bidding a .check 0).access.peerHolding = none)
    ∧ (Still (urgentObserver .waiting) ∧ (urgentObserver .waiting).identity = .A
      ∧ ((urgentObserver .waiting).sample (at_ 0)).bidUrgency = 3 ∧ (urgentObserver .waiting).settleAccess.access.state = .waiting) :=
  ⟨fun a h => by
      simp only [List.mem_cons, List.not_mem_nil, or_false] at h
      rcases h with rfl | rfl | rfl <;> exact ⟨still_of (by decide), by decide, by decide, by decide⟩,
    still_of (by decide), by decide, by decide, by decide⟩

theorem witness_BackoffYieldCallLineHeld :
    let urgent := { holds { request .read .waiting with due := some 10 } with
      access := { station.access with state := .waiting, peerHolding := some .observed } }
    (watching .watching).access.state = .backoff ∧ (watching .watching).access.peerHolding.isSome = true
    ∧ (watching .watching).access.lineHeldRaised = false ∧ station.access.peerHolding = none ∧ station.pins.hold = false
    ∧ ((unseen .backoff).access.state = .backoff ∧ (unseen .backoff).access.peerHolding = none ∧ (unseen .backoff).pins.hold = true
      ∧ (unseen .backoff).pins.pres = true ∧ (unseen .backoff).access.round ≠ some .check)
    ∧ (unseen .holding).access.state = .holding ∧ (watching .watching).zones.configured = true
    ∧ urgent.access.state = .waiting ∧ urgent.cart.state = .mounted ∧ (urgent.sample (at_ 0)).bidUrgency = 3 := by decide

/-! ### Witnesses: the sequencer -/

theorem witness_Motions :
    let seek (b : Bool) : State := { working .read .read .seeking with seq := { (working .read .read .seeking).seq with strobed := b, visit := none } }
    let recal : State := { working .read .read .recalibrating with cache := station.cache }
    (Still (seek false) ∧ (at_ 0).skc = true ∧ (seek false).seq.recovered = false) ∧ (Still (seek true) ∧ (seek true).seq.cyl < 400)
    ∧ (Still recal ∧ recal.seq.state = .recalibrating ∧ recal.seq.stopping = false ∧ recal.queue.held = [request .read .running]
      ∧ recal.delivering 0 = false ∧ recal.cache.refresh = [] ∧ recal.seq.unverified = [] ∧ recal.faults.entries = []
      ∧ recal.port.fifo.length < 16) :=
  ⟨⟨still_of (by decide), by decide, by decide⟩, ⟨still_of (by decide), by decide⟩,
    still_of (by decide), by decide, by decide, by decide, by decide, by decide, by decide, by decide, by decide⟩

/-- The station searching, with `n` header misses of index 2 behind it and both recoveries used or not. -/
def missed (n : Nat) (used : Bool) : State :=
  { working .read .read .searching with seq := { (working .read .read .searching).seq with
      misUsed := used
      recs := [{ SectorRec.start .read 2 with misses := n, headerRecovery := used }, SectorRec.start .read 3] } }

/-- The station at work for a WRITE-VERIFY of (3, 0, 2), rewritten once before, its frame STAGED and the sector VALID in frame 2. -/
def rewriting (st : SeqState) : State :=
  { working .writeVerify .write st with
    cache := { cached.cache with
      frames := { Frame.free with state := .staged, owner := some 0, idx := some 2 } :: cached.cache.frames.tail }
    seq := { (working .writeVerify .write st).seq with
      recs := [{ SectorRec.start .write 2 with rewrites := 1 }, SectorRec.start .done 3] } }

theorem witness_VisitsAndHeaders :
    let s : State := { working .read .read .searching with seq := { (working .read .read .searching).seq with visit := none } }
    let bad : HeaderField := { sync := true, words := [3, 0, 2, 0x8000, crc [3, 0, 2, 0x8000]] }
    (s.seq.currentPass = 2 :: [3] ∧ s.request 0 = some (request .read .running) ∧ (s.seq.recOf 2).again = false ∧ s.visitFrame 2 = some 0)
    ∧ (Still (working .read .read .searching) ∧ Visiting (working .read .read .searching) .searching (request .read .running) 2
      ∧ headerClass { sync := true, words := header } (sectorAt 3 2) = .matching)
    ∧ (Visiting (working .writeVerify .verify .searching) .searching (request .writeVerify .running) 2
      ∧ ((working .writeVerify .verify .searching).seq.recOf 2).purpose = .verify)
    ∧ (Visiting (working .write .write .searching) .searching (request .write .running) 2
      ∧ (working .write .write .searching).zones.refusesWrite (sectorAt 3 2) = false)
    ∧ (Still (rewriting .searching) ∧ Visiting (rewriting .searching) .searching (request .writeVerify .running) 2
      ∧ (rewriting .searching).seq.unverified = [2] ∧ ((rewriting .searching).seq.recOf 2).purpose = .write
      ∧ ({ at_ 0 with wpt := true } : Lines).wpt = true ∧ (rewriting .searching).delivering 0 = false
      ∧ (rewriting .searching).cache.refresh = [] ∧ (rewriting .searching).cart.state = .mounted)
    ∧ (headerClass { sync := true, words := header } (sectorAt 3 3) = .wrongSector
      ∧ headerClass { sync := false, words := [] } (sectorAt 3 2) = .unreadable)
    ∧ (headerClass bad (sectorAt 3 2) = .matchingBad ∧ (working .read .read .searching).queue.held = [request .read .running]
      ∧ (working .read .read .searching).seq.unverified = [] ∧ (working .read .read .searching).cart.state = .mounted)
    ∧ ((missed 1 false).seq.recOf 2).misses = 1 ∧ ((missed 3 true).seq.recOf 2).misses = 3
    ∧ (Still (missed 1 false) ∧ Visiting (missed 1 false) .searching (request .read .running) 2
      ∧ ((missed 1 false).seq.recOf 2).headerRecovery = false ∧ (missed 1 false).zones.thresholds.retry = 0)
    ∧ (Still (missed 3 true) ∧ Visiting (missed 3 true) .searching (request .read .running) 2 ∧ (missed 3 true).seq.unverified = [])
    ∧ ((missed 0 true).seq.misUsed = true ∧ (missed 1 false).seq.misUsed = false
      ∧ headerClass { sync := true, words := [399, 0, 2, 0, crc [399, 0, 2, 0]] } (sectorAt 3 2) = .wrongCylinder (399 : Fin 400).val)
    ∧ (Still (refresh .searching) ∧ ((refresh .searching).frame 2).inDir = true ∧ (∀ e ∈ (refresh .searching).cache.refresh, e.frame = 2)
      ∧ (refresh .searching).queue.held = [] ∧ (refresh .searching).access.state = .holding) :=
  ⟨⟨by decide, by decide, by decide, by decide⟩, ⟨still_of (by decide), visiting_of (by decide), by decide⟩,
    ⟨visiting_of (by decide), by decide⟩, ⟨visiting_of (by decide), by decide⟩,
    ⟨still_of (by decide), visiting_of (by decide), by decide, by decide, by decide, by decide, by decide, by decide⟩,
    ⟨by decide, by decide⟩, ⟨by decide, by decide, by decide, by decide⟩, by decide, by decide, ⟨still_of (by decide), visiting_of (by decide), by decide, by decide⟩,
    ⟨still_of (by decide), visiting_of (by decide), by decide⟩, ⟨by decide, by decide, by decide⟩, still_of (by decide), by decide, by decide,
    by decide, by decide⟩

theorem goodField_good : fieldWordsGood goodField.words = true := by decide +kernel

/-- The station at work with no caching zone, a STAGED frame in hand and index 2 being sent. -/
def sending (k : Kind) (p : Purpose) (st : SeqState) : State :=
  { working k p st with
    zones := { station.zones with map := List.replicate 16 { mode := .none, noWrite := false } }
    cache := { station.cache with
      frames := { Frame.free with state := .staged, owner := some 0, idx := some 2 } :: List.replicate 63 Frame.free }
    seq := { (working k p st).seq with sending := some { frame := 0, addr := sectorAt 3 2, patch := none } } }

/-- The station at work for an UPDATE, its new word on its way to the disk from the VALID frame 2. -/
def updating : State :=
  { working .update .write .writing with
    cache := cached.cache
    seq := { (working .update .write .writing).seq with
      recs := [SectorRec.start .write 2], frame := some 2
      sending := some { frame := 2, addr := sectorAt 3 2, patch := some (255, 9) } } }

/-- The station refreshing frame 2, which was released under it and is `fr` now. -/
def unrefreshed (fr : Frame) : State :=
  { refresh .reading with cache := { (refresh .reading).cache with
      frames := [Frame.free, Frame.free, fr, valid 3] ++ List.replicate 60 Frame.free, lru := [3], refresh := [] } }

/-- The station reading (3, 0, 2) after eight failed attempts. -/
def failing : State :=
  { working .read .read .reading with seq := { (working .read .read .reading).seq with
      recs := [{ SectorRec.start .read 2 with attempts := 8 }, SectorRec.start .read 3] } }

/-- The station reading (3, 0, 2) back after its second rewrite. -/
def unverifiable : State :=
  { rewriting .verifying with seq := { (rewriting .verifying).seq with
      recs := [{ SectorRec.start .verify 2 with rewrites := 2 }, SectorRec.start .done 3] } }

/-- `s`, the station at work with frame `f` in hand, which holds the frames given, `recs` left to do. -/
def withFrames (s : State) (frames : List Frame) (f : Nat) (recs : List SectorRec) : State :=
  { s with cache := { s.cache with frames := frames ++ List.replicate (64 - frames.length) Frame.free, lru := [2, 3] }
           seq := { s.seq with frame := some f, recs := recs } }

/-- A FILLING frame of a READ or PIN whose sector (3, 0, 2) has a directory frame, STALE and pinned. -/
def besideStale : List Frame := [{ filling 0 with inDir := false }, Frame.free, { valid 2 with state := .stale, pinned := true }, valid 3]

/-- The STAGED frame of (3, 0, 2) with the sector VALID and pinned in frame 2. -/
def besideValid : List Frame :=
  [{ Frame.free with state := .staged, owner := some 0, idx := some 2 }, Frame.free, { valid 2 with pinned := true }, valid 3]

theorem witness_DataFields_takeover :
    (∀ k ∈ [Kind.read, .pin],
      let s := withFrames (working k .read .reading) besideStale 0 [SectorRec.start .read 2, SectorRec.start .read 3]
      Still s ∧ StoreInv s ∧ Visiting s .reading (request k .running) 2 ∧ s.dirFrame (sectorAt 3 2) = some 2 ∧ s.cache.frames.length = 64
        ∧ s.zones.caches 3 = true ∧ (s.frame 0).pinned = false ∧ s.hold 2 = 0 ∧ s.seq.pendingIdx.any (· != 2) = true)
    ∧ (let s : State := { withFrames (working .read .read .reading) [{ filling 0 with inDir := false }] 0
          [SectorRec.start .read 2, SectorRec.start .read 3] with
          zones := { station.zones with map := List.replicate 16 { mode := .none, noWrite := false } } }
      Still s ∧ StoreInv s ∧ Visiting s .reading (request .read .running) 2 ∧ s.zones.caches 3 = false ∧ (s.frame 0).state = .filling)
    ∧ (let s : State := withFrames (working .write .write .writing) besideValid 0 [SectorRec.start .write 2, SectorRec.start .write 3]
      let u : State := { s with seq := { s.seq with sending := some { frame := 0, addr := sectorAt 3 2, patch := none } } }
      Still u ∧ Visiting u .writing (request .write .running) 2 ∧ u.dirFrame (sectorAt 3 2) = some 2 ∧ u.zones.caches 3 = true)
    ∧ (let s : State := withFrames (working .writeVerify .verify .verifying) besideValid 0
          [SectorRec.start .verify 2, SectorRec.start .write 3]
      Still s ∧ Visiting s .verifying (request .writeVerify .running) 2 ∧ s.dirFrame (sectorAt 3 2) = some 2) :=
  ⟨fun k h => by
      simp only [List.mem_cons, List.not_mem_nil, or_false] at h
      rcases h with rfl | rfl <;>
        exact ⟨still_of (by decide), store_of (by decide), visiting_of (by decide), by decide, by decide, by decide, by decide, by decide,
          by decide⟩,
    ⟨still_of (by decide), store_of (by decide), visiting_of (by decide), by decide, by decide⟩,
    ⟨still_of (by decide), visiting_of (by decide), by decide, by decide⟩, still_of (by decide), visiting_of (by decide), by decide⟩

theorem witness_DataFields_ends :
    (let s : State := withFrames (working .write .write .writing) besideValid 0 [SectorRec.start .write 2]
      let u : State := { s with seq := { s.seq with sending := some { frame := 0, addr := sectorAt 3 2, patch := none } } }
      Still u ∧ Lone u (request .write .running) ∧ Visiting u .writing (request .write .running) 2 ∧ u.seq.pendingIdx = [2])
    ∧ (let s : State := withFrames (working .writeVerify .verify .verifying) besideValid 0 [SectorRec.start .verify 2]
      Still s ∧ Lone s (request .writeVerify .running) ∧ Visiting s .verifying (request .writeVerify .running) 2 ∧ s.seq.pendingIdx = [2])
    ∧ (∀ k ∈ [Kind.pin, .check, .read], let s : State := withFrames (working k .read .reading) besideStale 0 [SectorRec.start .read 2]
      Still s ∧ Lone s (request k .running) ∧ Visiting s .reading (request k .running) 2 ∧ s.seq.pendingIdx = [2]
        ∧ (request k .running).refusedAt = none ∧ 2 ∉ (request k .running).done ∧ s.cart.state = .mounted ∧ s.cache.refresh = []) :=
  ⟨⟨still_of (by decide), lone_of (by decide), visiting_of (by decide), by decide⟩,
    ⟨still_of (by decide), lone_of (by decide), visiting_of (by decide), by decide⟩,
    fun k h => by
      simp only [List.mem_cons, List.not_mem_nil, or_false] at h
      rcases h with rfl | rfl | rfl <;>
        exact ⟨still_of (by decide), lone_of (by decide), visiting_of (by decide), by decide, by decide, by decide, by decide, by decide⟩⟩

theorem witness_DataFields :
    (Still (working .read .read .reading) ∧ StoreInv (working .read .read .reading)
      ∧ Visiting (working .read .read .reading) .reading (request .read .running) 2 ∧ goodField.sync = true
      ∧ (working .read .read .reading).zones.caches 3 = true ∧ (working .read .read .reading).dirFrame (sectorAt 3 2) = some 0
      ∧ (working .read .read .reading).seq.pendingIdx.any (· != 2) = true ∧ 2 ∉ (request .read .running).done)
    ∧ (fieldClass { sync := false, words := [] } ≠ .good ∧ ((working .read .read .reading).seq.recOf 2).attempts < 8)
    ∧ (Still (sending .write .write .writing) ∧ Visiting (sending .write .write .writing) .writing (request .write .running) 2
      ∧ (sending .write .write .writing).zones.caches (sectorAt 3 2).cyl = false)
    ∧ (Still (sending .writeVerify .verify .verifying)
      ∧ Visiting (sending .writeVerify .verify .verifying) .verifying (request .writeVerify .running) 2
      ∧ ((sending .writeVerify .verify .verifying).seq.recOf 2).rewrites < 2)
    ∧ (Still (sending .writeVerify .write .writing)
      ∧ Visiting (sending .writeVerify .write .writing) .writing (request .writeVerify .running) 2)
    ∧ (Still updating ∧ StoreInv updating ∧ Visiting updating .writing (request .update .running) 2 ∧ updating.seq.pendingIdx = [2]
      ∧ (updating.frame 2).state = .valid ∧ (updating.frame 2).addr = some (sectorAt 3 2)
      ∧ (∀ fr ∈ updating.cache.frames, fr.owner ≠ some 0) ∧ updating.queue.held = [request .update .running]
      ∧ updating.delivering 0 = false ∧ updating.cache.refresh = [] ∧ updating.port.fifo.length < 16)
    ∧ (Still (refresh .reading) ∧ StoreInv (refresh .reading) ∧ ((refresh .reading).frame 2).state = .stale
      ∧ (refresh .reading).seq.visit = some 2 ∧ (refresh .reading).cache.frames.length = 64)
    ∧ (∀ fr ∈ [{ valid 2 with state := .stale, inDir := false }, Frame.free, { Frame.free with state := .staged, owner := some 0, idx := some 2 }],
      Still (unrefreshed fr) ∧ ((unrefreshed fr).frame 2).inDir = false ∧ (unrefreshed fr).cache.refresh = []
        ∧ (unrefreshed fr).queue.held = [] ∧ (unrefreshed fr).seq.visit = some 2 ∧ (unrefreshed fr).access.state = .holding)
    ∧ (Still failing ∧ Visiting failing .reading (request .read .running) 2 ∧ (failing.seq.recOf 2).attempts = 8
      ∧ failing.delivering 0 = false ∧ failing.seq.unverified = [] ∧ (failing.frame 0).owner = some 0 ∧ (failing.frame 0).state = .filling)
    ∧ (Still unverifiable ∧ Visiting unverifiable .verifying (request .writeVerify .running) 2 ∧ (unverifiable.seq.recOf 2).rewrites = 2
      ∧ unverifiable.seq.unverified = [2] ∧ unverifiable.dirFrame (sectorAt 3 2) = some 2 ∧ (unverifiable.frame 2).pinned = false
      ∧ unverifiable.hold 2 = 0 ∧ unverifiable.faults.entries = []) :=
  ⟨⟨still_of (by decide), store_of (by decide), visiting_of (by decide), by decide, by decide, by decide, by decide, by decide⟩,
    ⟨by decide, by decide⟩,
    ⟨still_of (by decide), visiting_of (by decide), by decide⟩, ⟨still_of (by decide), visiting_of (by decide), by decide⟩,
    ⟨still_of (by decide), visiting_of (by decide)⟩,
    ⟨still_of (by decide), store_of (by decide), visiting_of (by decide), by decide, by decide, by decide, by decide, by decide, by decide,
      by decide, by decide⟩,
    ⟨still_of (by decide), store_of (by decide), by decide, by decide, by decide⟩,
    fun fr h => by
      simp only [List.mem_cons, List.not_mem_nil, or_false] at h
      rcases h with rfl | rfl | rfl <;> exact ⟨still_of (by decide), by decide, by decide, by decide, by decide, by decide⟩,
    ⟨still_of (by decide), visiting_of (by decide), by decide, by decide, by decide, by decide, by decide⟩,
    still_of (by decide), visiting_of (by decide), by decide, by decide, by decide, by decide, by decide, by decide⟩

/-- The label words with serial 9 that read good. -/
def labelField (serial : Word) (code : Word) : DataField :=
  let ws : List Word := [code, 400, 2, 20, 0, serial] ++ List.replicate 250 0
  { sync := true, words := ws ++ [crc ws] }

/-- The station in cartridge state `c`, in its own tenure, reading the label into frame 0, holding the requests given. -/
def labelRead (c : CartState) (st : SeqState) (held : List Request) : State :=
  { working .read .read st with
    queue := { held := held, finished := [], nextId := 1 }
    cart := { station.cart with state := c, recorded := if c = .leaving then some .loading else none }
    cache := { pinnedStation.cache with
      frames := [{ Frame.free with state := .filling, addr := some labelAddr }, { Frame.free with state := .staged, owner := some 0, idx := some 2 },
        { valid 2 with state := .stale, pinned := true }, { valid 3 with pinned := true }] ++ List.replicate 60 Frame.free
      refresh := [{ frame := 2, entered := 0 }] }
    seq := { (working .read .read st).seq with work := some .label, cyl := 0, visit := some 0 } }

theorem witness_UpdateOperatesAndLabelDecides :
    let r (op : UpdateOp) : Request := { request .update .running with op := op, opA := 1, count := 1 }
    let u (op : UpdateOp) : State := { working .update .read .reading with
      queue := { held := [r op], finished := [], nextId := 1 }
      seq := { (working .update .read .reading).seq with recs := [SectorRec.start .read 2] } }
    let same : State := { labelRead .loading .reading [] with cart := { station.cart with state := .loading, lastSerial := some 9 } }
    (Still same ∧ same.cache.lru.Nodup ∧ same.cart.lastSerial = some 9
      ∧ ∀ e ∈ same.cache.refresh, e.frame ∈ same.cache.lru ∧ (same.frame e.frame).state = .stale ∧ (same.frame e.frame).pinned = true)
    ∧ (Still (u .add) ∧ Visiting (u .add) .reading (r .add) 2 ∧ updateWord .add 1 0 (goodField.words.getD 0 0) ≠ goodField.words.getD 0 0)
    ∧ (Still (u .test) ∧ Visiting (u .test) .reading (r .test) 2 ∧ updateWord .test 1 0 (goodField.words.getD 0 0) = goodField.words.getD 0 0
      ∧ (u .test).seq.pendingIdx = [2] ∧ (u .test).delivering 0 = false ∧ (r .test).written = false ∧ 2 ∉ (r .test).done
      ∧ (u .test).cart.state = .mounted)
    ∧ (∀ c ∈ [CartState.loading, .leaving, .released], Still (labelRead c .reading []) ∧ StoreInv (labelRead c .reading [])
      ∧ (labelRead c .reading []).access.state = .holding ∧ (labelRead c .reading []).labelFrame = some 0
      ∧ (labelRead c .reading []).cart.state = c
      ∧ ∀ e ∈ (labelRead c .reading []).cache.refresh, ((labelRead c .reading []).frame e.frame).state = .stale)
    ∧ (∀ st ∈ [ReqState.staging, .waiting], Still (labelRead .loading .reading [request .write st])
      ∧ (labelRead .loading .reading [request .write st]).delivering 0 = false ∧ (request .write st).undone = [2, 3]
      ∧ (labelRead .loading .reading [request .write st]).port.fifo.length < 16
      ∧ ((labelRead .loading .reading [request .write st]).frame 1).owner = some 0)
    ∧ (Still (labelRead .loading .searching []) ∧ (labelRead .loading .searching []).faults.entries = []
      ∧ headerClass { sync := true, words := [0, 0, 0, 0x8000, crc [0, 0, 0, 0x8000]] } (sectorAt 0 0) = .matchingBad)
    ∧ (labelSerial ((labelField 9 0x2240).words.take 256) = some 9 ∧ station.cart.lastSerial ≠ some 9
      ∧ fieldWordsGood (labelField 9 0x2240).words = true)
    ∧ (labelSerial ((labelField 9 0x2241).words.take 256) = none ∧ fieldWordsGood (labelField 9 0x2241).words = true) :=
  ⟨⟨still_of (by decide), by decide, by decide, by decide⟩,
    ⟨still_of (by decide), visiting_of (by decide), by decide +kernel⟩,
    ⟨still_of (by decide), visiting_of (by decide), by decide +kernel, by decide, by decide, by decide, by decide, by decide⟩,
    fun c h => by
      simp only [List.mem_cons, List.not_mem_nil, or_false] at h
      rcases h with rfl | rfl | rfl <;>
        exact ⟨still_of (by decide), store_of (by decide), by decide, by decide, by decide, by decide⟩,
    fun st h => by
      simp only [List.mem_cons, List.not_mem_nil, or_false] at h
      rcases h with rfl | rfl <;> exact ⟨still_of (by decide), by decide, by decide, by decide, by decide⟩,
    ⟨still_of (by decide), by decide, by decide⟩,
    ⟨by decide +kernel, by decide, by decide +kernel⟩, by decide +kernel, by decide +kernel⟩

/-! ### Witnesses: watching the peer, the port reset -/

/-- The station taking a capture of (3, 0, n), holding the requests given. -/
def capturing (n : Nat) (held : List Request) : State :=
  { watching .capturing with
    monitor := { (watching .capturing).monitor with header := [3, 0, BitVec.ofNat 16 n, 0, crc [3, 0, BitVec.ofNat 16 n, 0]] }
    queue := { held := held, finished := [], nextId := 1 } }

/-- The station taking a capture of (3, 0, 2), whose frame is STALE and pinned. -/
def capturingStale : State := { capturing 2 [] with cache := pinnedStation.cache }

/-- A READ of (3, 0, 4) and (3, 0, 5), or a CHECK that lacks (3, 0, 4) alone, waiting. -/
def wanting (k : Kind) : Request :=
  { request k .waiting with addr := { cyl := 3, head := 0, sec := 4 }, done := if k = .check then [5] else [] }

/-- The station `s` in access state `a` during an observed peer tenure. -/
def observing (a : AccessState) (s : State) : State :=
  { s with access := { station.access with state := a, peerHolding := some .observed } }

/-- The station in LOADING with the label reservation, its last serial `serial`, taking a capture of the label sector; (3, 0, 2) is STALE and
pinned in frame 2. -/
def overhearing (serial : Option (BitVec 32)) : State :=
  { capturingStale with
    cart := { station.cart with state := .loading, lastSerial := serial }
    cache := { pinnedStation.cache with labelReserved := true }
    monitor := { capturingStale.monitor with header := [0, 0, 0, 0, crc [0, 0, 0, 0]] } }

theorem witness_PeerTrafficFollowed :
    let garbled : State := { capturing 2 [] with monitor := { (capturing 2 []).monitor with header := [3, 0, 2, 0, 0] } }
    ((watching .watching).powered = true ∧ (watching .watching).access.peerHolding = some .observed ∧ (watching .watching).pins.rdy = true
      ∧ (399 : BitVec 9).toNat = (399 : Fin 400).val ∧ (at_ 0).skc = true)
    ∧ Still (watching .watching) ∧ (watching .watching).monitor.heldFor = none
    ∧ (headerGood { sync := true, words := header } = true ∧ header.length = 5 ∧ (header.getD 0 0).toNat = (3 : Fin 400).val)
    ∧ headerGood { sync := true, words := [] } = false
    ∧ ((watching .capturing).monitor.state = .capturing ∧ (watching .capturing).monitor.kind = none)
    ∧ ({ watching .watching with monitor := { (watching .watching).monitor with motion := some .recalibrate } } : State).monitor.motion
        = some .recalibrate
    ∧ ((∃ x ∈ [cell true] ++ [cell false], x.wrg = true ∧ x.rdy = true ∧ x.skc = true ∧ x.wpt = false)
      ∧ ∀ x ∈ [cell true] ++ [cell true], ¬(x.wrg = true ∧ x.rdy = true ∧ x.skc = true ∧ x.wpt = false))
    ∧ (Still (observing .idle holding) ∧ (observing .idle holding).access.peerHolding = some .observed
      ∧ (observing .idle holding).monitor.heldFor = some 2 ∧ ((observing .idle holding).frame 2).inDir = true)
    ∧ (Still (observing .waiting garbled) ∧ headerLocates garbled.monitor.header = none ∧ garbled.monitor.kind = none)
    ∧ (Still (capturing 2 []) ∧ StoreInv (capturing 2 [])
      ∧ headerLocates (capturing 2 []).monitor.header = some (sectorAt 3 2) ∧ (capturing 2 []).dirFrame (sectorAt 3 2) = some 2
      ∧ ((capturing 2 []).frame 2).state = .valid ∧ (capturing 2 []).cart.state = .mounted ∧ goodField.words.length = 257)
    ∧ (Still capturingStale ∧ capturingStale.dirFrame (sectorAt 3 2) = some 2 ∧ (capturingStale.frame 2).state = .stale
      ∧ capturingStale.busy 2 = false)
    ∧ (Still (capturing 4 [wanting .read]) ∧ headerLocates (capturing 4 []).monitor.header = some (sectorAt 3 4)
      ∧ (capturing 4 [wanting .read]).dirFrame (sectorAt 3 4) = none ∧ (wanting .read).undone = [4, 5] ∧ (sectorAt 3 4).index = 4
      ∧ (capturing 4 [wanting .read]).zones.caches 3 = true ∧ (capturing 4 [wanting .read]).zones.thresholds.capture = 0
      ∧ ((capturing 4 [wanting .read]).frame 0).state = .free)
    ∧ (Still (capturing 4 [wanting .check]) ∧ (wanting .check).undone = [4] ∧ (wanting .check).source = none
      ∧ (capturing 4 [wanting .check]).delivering 0 = false)
    ∧ (∀ serial ∈ [some (7 : BitVec 32), some 9],
      Still (overhearing serial) ∧ (overhearing serial).monitor.state = .capturing ∧ (overhearing serial).cache.labelReserved = true
        ∧ headerClass { sync := true, words := (overhearing serial).monitor.header } { cyl := 0, head := 0, sec := 0 } = .matching
        ∧ (overhearing serial).dirFrame { cyl := 0, head := 0, sec := 0 } = none ∧ (overhearing serial).cart.lastSerial = serial
        ∧ (overhearing serial).queue.held = []) :=
  ⟨by decide, still_of (by decide), by decide, by decide, by decide, by decide, by decide, by decide,
    ⟨still_of (by decide), by decide, by decide, by decide⟩, ⟨still_of (by decide), by decide, by decide⟩,
    ⟨still_of (by decide), store_of (by decide), by decide, by decide, by decide, by decide, by decide +kernel⟩,
    ⟨still_of (by decide), by decide, by decide, by decide⟩,
    ⟨still_of (by decide), by decide, by decide, by decide, by decide, by decide, by decide, by decide⟩,
    ⟨still_of (by decide), by decide, by decide, by decide⟩,
    fun serial h => by
      simp only [List.mem_cons, List.not_mem_nil, or_false] at h
      rcases h with rfl | rfl <;>
        exact ⟨still_of (by decide), by decide, by decide, by decide, by decide, by decide, by decide⟩⟩

/-- The words of a label read good with serial 9, and of one that is no label. -/
theorem witness_PeerTrafficFollowed_label :
    (labelField 9 0x2240).words.length = 257 ∧ fieldWordsGood (labelField 9 0x2240).words = true
    ∧ labelSerial ((labelField 9 0x2240).words.take 256) = some 9 ∧ labelSerial ((labelField 9 0x2241).words.take 256) = none
    ∧ fieldWordsGood (List.replicate 257 1) = false := by decide +kernel

theorem witness_PeerWriteCoherence :
    let s := capturing 2 []
    let by_ (arm : Option (Fin 400)) : State := observing .waiting
      { s with monitor := { s.monitor with header := [], arm := arm, capHead := 0, capSnum := 2 } }
    (Still (by_ (some 3)) ∧ headerLocates (by_ (some 3)).monitor.header = none ∧ (by_ (some 3)).monitor.arm = some (3 : Fin 400)
      ∧ sectorAt 3 2 = { cyl := (3 : Fin 400).val, head := (by_ (some 3)).monitor.capHead, sec := (by_ (some 3)).monitor.capSnum })
    ∧ (Still (by_ none) ∧ (by_ none).monitor.arm = none ∧ (by_ none).access.peerHolding = some .observed ∧ cellEffective (cell false) = true
      ∧ ((by_ none).frame 2).inDir = true ∧ ((by_ none).frame 2).addr = some (sectorAt 3 2))
    ∧ (Still s ∧ StoreInv s ∧ headerLocates s.monitor.header = some (sectorAt 3 2) ∧ s.dirFrame (sectorAt 3 2) = some 2
      ∧ (s.frame 2).state = .valid ∧ s.hold 2 = 0 ∧ s.busy 2 = false ∧ s.queue.held = []
      ∧ (goodField.words.length = 257 ∧ s.zones.mode 3 ≠ .drop) ∧ s.faults.entries = [])
    ∧ (Still capturingStale ∧ (capturingStale.frame 2).state = .stale ∧ (capturingStale.frame 2).pinned = true)
    ∧ (let g : Gate := { early := [cell true, cell false], late := [cell false] }
      (∃ x ∈ g.early ++ g.late, x.wrg = true ∧ x.rdy = true ∧ x.skc = true ∧ x.wpt = false)
      ∧ g.early.getLast? = some (cell false) ∧ ∀ x ∈ g.late, x.wrg = true ∧ x.rdy = true ∧ x.skc = true ∧ x.wpt = false) :=
  ⟨⟨still_of (by decide), by decide, by decide, by decide⟩, ⟨still_of (by decide), by decide, by decide, by decide, by decide, by decide⟩,
    ⟨still_of (by decide), store_of (by decide), by decide, by decide, by decide, by decide, by decide, by decide,
      by decide +kernel, by decide⟩, ⟨still_of (by decide), by decide, by decide⟩, by decide⟩

theorem witness_PortReset :
    let stopping (t : State) : State := { t with seq := { t.seq with stopping := true }, queue := { held := [], finished := [], nextId := 1 } }
    (working .read .read .reading).powered = true ∧ station.powered = true
    ∧ ({ station with access := { station.access with state := .holding } } : State).seq.state = .idle ∧ station.pins.hold = false
    ∧ ((∀ w ∈ holding.cache.waits, w.req ≠ none) ∧ holding.monitor.heldFor = some 2 ∧ (holding.frame 2).inDir = true)
    ∧ ((refresh .reading).access.state = .holding
      ∧ ∀ e ∈ (refresh .reading).cache.refresh, ((refresh .reading).frame e.frame).state = .stale ∧ ((refresh .reading).frame e.frame).inDir = true)
    ∧ ((working .read .read .searching).frame 0).state = .filling ∧ (working .read .read .searching).fieldFrame ≠ some 0
    ∧ Still (stopping { working .read .read .seeking with seq := { (working .read .read .seeking).seq with strobed := true } })
    ∧ Still (stopping (working .read .read .recalibrating))
    ∧ (Still (stopping (working .read .read .reading)) ∧ (stopping (working .read .read .reading)).seq.frame = some 0
      ∧ ((stopping (working .read .read .reading)).frame 0).state = .filling
      ∧ ((stopping (working .read .read .reading)).frame 0).owner = some 0)
    ∧ Still (stopping (refresh .reading)) ∧ (Still (stopping (labelRead .loading .reading [])) ∧ (labelRead .loading .reading []).labelFrame = some 0)
    ∧ (Still (stopping (sending .write .write .writing)) ∧ (stopping (sending .write .write .writing)).dirFrame (sectorAt 3 2) = none
      ∧ (stopping (sending .write .write .writing)).seq.visit.isSome = true)
    ∧ Still (stopping (sending .writeVerify .verify .verifying))
    ∧ (Still (stopping updating) ∧ StoreInv (stopping updating) ∧ (stopping updating).seq.work = some (.request 0)
      ∧ ((stopping updating).frame 2).addr = some (sectorAt 3 2) ∧ (stopping updating).seq.visit.isSome = true) :=
  ⟨by decide, by decide, by decide, by decide, by decide, by decide, by decide, by decide, still_of (by decide), still_of (by decide),
    ⟨still_of (by decide), by decide, by decide, by decide⟩, still_of (by decide), ⟨still_of (by decide), by decide⟩,
    ⟨still_of (by decide), by decide, by decide⟩, still_of (by decide), still_of (by decide), store_of (by decide), by decide, by decide,
    by decide⟩

end Sys2Proof.Tests
end

section
/-! PROOF. Frames of the drain, the remount and the label verdict: the blocks that they leave as they stand. -/

namespace Sys2Proof.Machine

@[simp] theorem State.drainOne_powered (s : State) (o : ReqOutcome) (id : Nat) : (s.drainOne o id).powered = s.powered := by
  unfold State.drainOne; repeat' split
  all_goals simp
@[simp] theorem State.drain_powered (s : State) (o : ReqOutcome) : (s.drain o).powered = s.powered := by
  simp [State.drain, foldl_keeps State.powered _ (fun t i => State.drainOne_powered t o i)]
@[simp] theorem State.drainOne_pins (s : State) (o : ReqOutcome) (id : Nat) : (s.drainOne o id).pins = s.pins := by
  unfold State.drainOne; repeat' split
  all_goals simp
@[simp] theorem State.drain_pins (s : State) (o : ReqOutcome) : (s.drain o).pins = s.pins := by
  simp [State.drain, foldl_keeps State.pins _ (fun t i => State.drainOne_pins t o i)]
@[simp] theorem State.drainOne_lines (s : State) (o : ReqOutcome) (id : Nat) : (s.drainOne o id).lines = s.lines := by
  unfold State.drainOne; repeat' split
  all_goals simp
@[simp] theorem State.drain_lines (s : State) (o : ReqOutcome) : (s.drain o).lines = s.lines := by
  simp [State.drain, foldl_keeps State.lines _ (fun t i => State.drainOne_lines t o i)]
@[simp] theorem State.drainOne_drive (s : State) (o : ReqOutcome) (id : Nat) : (s.drainOne o id).drive = s.drive := by
  unfold State.drainOne; repeat' split
  all_goals simp
@[simp] theorem State.drain_drive (s : State) (o : ReqOutcome) : (s.drain o).drive = s.drive := by
  simp [State.drain, foldl_keeps State.drive _ (fun t i => State.drainOne_drive t o i)]
@[simp] theorem State.drainOne_clock (s : State) (o : ReqOutcome) (id : Nat) : (s.drainOne o id).clock = s.clock := by
  unfold State.drainOne; repeat' split
  all_goals simp
@[simp] theorem State.drain_clock (s : State) (o : ReqOutcome) : (s.drain o).clock = s.clock := by
  simp [State.drain, foldl_keeps State.clock _ (fun t i => State.drainOne_clock t o i)]
@[simp] theorem State.drainOne_zones (s : State) (o : ReqOutcome) (id : Nat) : (s.drainOne o id).zones = s.zones := by
  unfold State.drainOne; repeat' split
  all_goals simp
@[simp] theorem State.drain_zones (s : State) (o : ReqOutcome) : (s.drain o).zones = s.zones := by
  simp [State.drain, foldl_keeps State.zones _ (fun t i => State.drainOne_zones t o i)]
@[simp] theorem State.drainOne_access (s : State) (o : ReqOutcome) (id : Nat) : (s.drainOne o id).access = s.access := by
  unfold State.drainOne; repeat' split
  all_goals simp
@[simp] theorem State.drain_access (s : State) (o : ReqOutcome) : (s.drain o).access = s.access := by
  simp [State.drain, foldl_keeps State.access _ (fun t i => State.drainOne_access t o i)]
@[simp] theorem State.drainOne_seq (s : State) (o : ReqOutcome) (id : Nat) : (s.drainOne o id).seq = s.seq := by
  unfold State.drainOne; repeat' split
  all_goals simp
@[simp] theorem State.drain_seq (s : State) (o : ReqOutcome) : (s.drain o).seq = s.seq := by
  simp [State.drain, foldl_keeps State.seq _ (fun t i => State.drainOne_seq t o i)]
@[simp] theorem State.drainOne_unit (s : State) (o : ReqOutcome) (id : Nat) : (s.drainOne o id).unit = s.unit := by
  unfold State.drainOne; repeat' split
  all_goals simp
@[simp] theorem State.drain_unit (s : State) (o : ReqOutcome) : (s.drain o).unit = s.unit := by
  simp [State.drain, foldl_keeps State.unit _ (fun t i => State.drainOne_unit t o i)]
@[simp] theorem State.drainOne_cart (s : State) (o : ReqOutcome) (id : Nat) : (s.drainOne o id).cart = s.cart := by
  unfold State.drainOne; repeat' split
  all_goals simp
@[simp] theorem State.drain_cart (s : State) (o : ReqOutcome) : (s.drain o).cart = s.cart := by
  simp [State.drain, foldl_keeps State.cart _ (fun t i => State.drainOne_cart t o i)]

@[simp] theorem State.remount_powered (s : State) (n : BitVec 32) : (s.remount n).powered = s.powered := by
  unfold State.remount; dsimp only; split <;> simp
@[simp] theorem State.remount_pins (s : State) (n : BitVec 32) : (s.remount n).pins = s.pins := by
  unfold State.remount; dsimp only; split <;> simp
@[simp] theorem State.remount_lines (s : State) (n : BitVec 32) : (s.remount n).lines = s.lines := by
  unfold State.remount; dsimp only; split <;> simp
@[simp] theorem State.remount_drive (s : State) (n : BitVec 32) : (s.remount n).drive = s.drive := by
  unfold State.remount; dsimp only; split <;> simp
@[simp] theorem State.remount_clock (s : State) (n : BitVec 32) : (s.remount n).clock = s.clock := by
  unfold State.remount; dsimp only; split <;> simp
@[simp] theorem State.remount_zones (s : State) (n : BitVec 32) : (s.remount n).zones = s.zones := by
  unfold State.remount; dsimp only; split <;> simp
@[simp] theorem State.remount_port (s : State) (n : BitVec 32) : (s.remount n).port = s.port := by
  unfold State.remount; dsimp only; split <;> simp
@[simp] theorem State.remount_queue (s : State) (n : BitVec 32) : (s.remount n).queue = s.queue := by
  unfold State.remount; dsimp only; split <;> simp
@[simp] theorem State.remount_faults (s : State) (n : BitVec 32) : (s.remount n).faults = s.faults := by
  unfold State.remount; dsimp only; split <;> simp
@[simp] theorem State.remount_access (s : State) (n : BitVec 32) : (s.remount n).access = s.access := by
  unfold State.remount; dsimp only; split <;> simp
@[simp] theorem State.remount_seq (s : State) (n : BitVec 32) : (s.remount n).seq = s.seq := by
  unfold State.remount; dsimp only; split <;> simp
@[simp] theorem State.remount_unit (s : State) (n : BitVec 32) : (s.remount n).unit = s.unit := by
  unfold State.remount; dsimp only; split <;> simp

@[simp] theorem State.enterUnusable_powered (s : State) : s.enterUnusable.powered = s.powered := by simp [State.enterUnusable]
@[simp] theorem State.labelVerdict_powered (s : State) (ws : Option (List Word)) : (s.labelVerdict ws).powered = s.powered := by
  unfold State.labelVerdict State.labelAccepted State.labelRejected; repeat' split
  all_goals simp
@[simp] theorem State.enterUnusable_pins (s : State) : s.enterUnusable.pins = s.pins := by simp [State.enterUnusable]
@[simp] theorem State.labelVerdict_pins (s : State) (ws : Option (List Word)) : (s.labelVerdict ws).pins = s.pins := by
  unfold State.labelVerdict State.labelAccepted State.labelRejected; repeat' split
  all_goals simp
@[simp] theorem State.enterUnusable_lines (s : State) : s.enterUnusable.lines = s.lines := by simp [State.enterUnusable]
@[simp] theorem State.labelVerdict_lines (s : State) (ws : Option (List Word)) : (s.labelVerdict ws).lines = s.lines := by
  unfold State.labelVerdict State.labelAccepted State.labelRejected; repeat' split
  all_goals simp
@[simp] theorem State.enterUnusable_drive (s : State) : s.enterUnusable.drive = s.drive := by simp [State.enterUnusable]
@[simp] theorem State.labelVerdict_drive (s : State) (ws : Option (List Word)) : (s.labelVerdict ws).drive = s.drive := by
  unfold State.labelVerdict State.labelAccepted State.labelRejected; repeat' split
  all_goals simp
@[simp] theorem State.enterUnusable_clock (s : State) : s.enterUnusable.clock = s.clock := by simp [State.enterUnusable]
@[simp] theorem State.labelVerdict_clock (s : State) (ws : Option (List Word)) : (s.labelVerdict ws).clock = s.clock := by
  unfold State.labelVerdict State.labelAccepted State.labelRejected; repeat' split
  all_goals simp
@[simp] theorem State.enterUnusable_zones (s : State) : s.enterUnusable.zones = s.zones := by simp [State.enterUnusable]
@[simp] theorem State.labelVerdict_zones (s : State) (ws : Option (List Word)) : (s.labelVerdict ws).zones = s.zones := by
  unfold State.labelVerdict State.labelAccepted State.labelRejected; repeat' split
  all_goals simp
@[simp] theorem State.enterUnusable_access (s : State) : s.enterUnusable.access = s.access := by simp [State.enterUnusable]
@[simp] theorem State.labelVerdict_access (s : State) (ws : Option (List Word)) : (s.labelVerdict ws).access = s.access := by
  unfold State.labelVerdict State.labelAccepted State.labelRejected; repeat' split
  all_goals simp
@[simp] theorem State.enterUnusable_seq (s : State) : s.enterUnusable.seq = s.seq := by simp [State.enterUnusable]
@[simp] theorem State.labelVerdict_seq (s : State) (ws : Option (List Word)) : (s.labelVerdict ws).seq = s.seq := by
  unfold State.labelVerdict State.labelAccepted State.labelRejected; repeat' split
  all_goals simp
@[simp] theorem State.enterUnusable_unit (s : State) : s.enterUnusable.unit = s.unit := by simp [State.enterUnusable]
@[simp] theorem State.labelVerdict_unit (s : State) (ws : Option (List Word)) : (s.labelVerdict ws).unit = s.unit := by
  unfold State.labelVerdict State.labelAccepted State.labelRejected; repeat' split
  all_goals simp

end Sys2Proof.Machine
end

section
/-! PROOF. What the drive line's invariant reads of a station, and the operations of the cache, the requests and the monitor that leave
all of it as it stands. -/

namespace Sys2Proof.Machine

/-- What LineInv reads of a station, the command lines and the sequencer apart. -/
structure LineCore where
  powered    : Bool
  configured : Bool
  hold       : Bool
  pres       : Bool
  crel       : Bool
  enabled    : Bool
  access     : AccessState
  k          : Nat
  backoff    : Option Nat
  cart       : CartState

/-- The part of LineInv's reading that a tenure does not leave to the sequencer. -/
def State.lineCore (s : State) : LineCore :=
  { powered := s.powered, configured := s.zones.configured, hold := s.lines.hold, pres := s.lines.pres, crel := s.lines.crel,
    enabled := s.drive.enabled, access := s.access.state, k := s.access.k, backoff := s.access.backoff, cart := s.cart.state }

/-- All that LineInv reads of a station. -/
def State.lineView (s : State) : LineCore × DriveLines × Sequencer := (s.lineCore, s.drive, s.seq)

theorem lineCore_of_view {s t : State} (e : t.lineView = s.lineView) : t.lineCore = s.lineCore := congrArg (·.1) e

theorem seq_of_view {s t : State} (e : t.lineView = s.lineView) : t.seq = s.seq := congrArg (·.2.2) e

/-- States alike in these seven blocks read alike; an operation's own frame lemmas say that they are. -/
theorem lineView_of_blocks {s t : State} (hp : t.powered = s.powered := by simp) (hz : t.zones = s.zones := by simp)
    (hl : t.lines = s.lines := by simp) (hd : t.drive = s.drive := by simp) (ha : t.access = s.access := by simp)
    (hq : t.seq = s.seq := by simp) (hc : t.cart = s.cart := by simp) : t.lineView = s.lineView := by
  simp only [State.lineView, State.lineCore, hp, hz, hl, hd, ha, hq, hc]

/-- LineInv reads nothing but the view. -/
theorem LineInv.of_view {s t : State} (h : LineInv s) (e : t.lineView = s.lineView) : LineInv t := by
  simp only [State.lineView, State.lineCore, Prod.mk.injEq, LineCore.mk.injEq] at e
  obtain ⟨⟨hp, hz, hh, hpr, hcr, -, ha, hk, hb, hc⟩, hd, hq⟩ := e
  obtain ⟨hold, drivers, gates, work, off, pres, crel, absent, count, timer, stopped⟩ := h
  constructor <;> simpa only [hp, hz, hh, hpr, hcr, ha, hk, hb, hc, hd, hq]

/-! ### Operations of the cache and the requests -/

section Keeps
variable (s : State)

@[simp] theorem setFrame_lineView (f : Nat) (fr : Frame) : (s.setFrame f fr).lineView = s.lineView := rfl
@[simp] theorem modify_lineView (id : Nat) (g : Request → Request) : (s.modify id g).lineView = s.lineView := rfl
@[simp] theorem orderFinished_lineView (n : Nat) : (s.orderFinished n).lineView = s.lineView := rfl
@[simp] theorem dropStaging_lineView (id : Nat) : (s.dropStaging id).lineView = s.lineView := rfl
@[simp] theorem dropWaits_lineView (id : Nat) : (s.dropWaits id).lineView = s.lineView := rfl
@[simp] theorem place_lineView (c : Completion) : (s.place c).lineView = s.lineView := rfl
@[simp] theorem queueJob_lineView (j : Job) : (s.queueJob j).lineView = s.lineView := rfl
@[simp] theorem insert_lineView (r : Request) : (s.insert r).lineView = s.lineView := rfl
@[simp] theorem touch_lineView (f : Nat) : (s.touch f).lineView = s.lineView := rfl
@[simp] theorem leaveRefresh_lineView (f : Nat) : (s.leaveRefresh f).lineView = s.lineView := rfl
@[simp] theorem putWords_lineView (f : Nat) (ws : List Word) : (s.putWords f ws).lineView = s.lineView := rfl
@[simp] theorem mapMonitor_lineView (g : Monitor → Monitor) : (s.mapMonitor g).lineView = s.lineView := rfl
@[simp] theorem armUnknown_lineView : s.armUnknown.lineView = s.lineView := rfl
@[simp] theorem sample_lineView (l : Lines) : (s.sample l).lineView = s.lineView := rfl
@[simp] theorem channelFree_lineView : s.channelFree.lineView = s.lineView := rfl
@[simp] theorem movedOut_lineView (a : Nat) (ws : List Word) : (s.movedOut a ws).lineView = s.lineView := rfl
@[simp] theorem dropDeliveries_lineView (id : Nat) : (s.dropDeliveries id).lineView = s.lineView := rfl
@[simp] theorem takeUnidentified_lineView : s.takeUnidentified.lineView = s.lineView := rfl

/-- A change of the monitor. -/
@[simp] theorem withMonitor_lineView (m : Monitor) : State.lineView { s with monitor := m } = s.lineView := rfl

@[simp] theorem raise_lineView (n : Notice) : (s.raise n).lineView = s.lineView := lineView_of_blocks
@[simp] theorem raiseIf_lineView (c : Bool) (n : Notice) : (s.raiseIf c n).lineView = s.lineView := lineView_of_blocks
@[simp] theorem countRetry_lineView : s.countRetry.lineView = s.lineView := lineView_of_blocks
@[simp] theorem countCollide_lineView : s.countCollide.lineView = s.lineView := lineView_of_blocks
@[simp] theorem countCapture_lineView : s.countCapture.lineView = s.lineView := lineView_of_blocks
@[simp] theorem listFault_lineView (a : FaultAddr) (k : FaultKind) (o : Origin) : (s.listFault a k o).lineView = s.lineView :=
  lineView_of_blocks
@[simp] theorem freeFrame_lineView (f : Nat) : (s.freeFrame f).lineView = s.lineView := lineView_of_blocks
@[simp] theorem retire_lineView (f : Nat) : (s.retire f).lineView = s.lineView := lineView_of_blocks
@[simp] theorem release_lineView (f : Nat) : (s.release f).lineView = s.lineView := lineView_of_blocks
@[simp] theorem sweep_lineView : s.sweep.lineView = s.lineView := lineView_of_blocks
@[simp] theorem releaseOwned_lineView (id : Nat) : (s.releaseOwned id).lineView = s.lineView := lineView_of_blocks
@[simp] theorem allocOrWait_lineView (w : AllocWait) : (s.allocOrWait w).lineView = s.lineView := lineView_of_blocks
@[simp] theorem tidy_lineView : s.tidy.lineView = s.lineView := lineView_of_blocks
@[simp] theorem queueDelivery_lineView (r : Request) (i f : Nat) : (s.queueDelivery r i f).lineView = s.lineView := lineView_of_blocks
@[simp] theorem giveFilling_lineView (r : Request) (a : SectorAddr) (f : Nat) : (s.giveFilling r a f).lineView = s.lineView :=
  lineView_of_blocks
@[simp] theorem settleRead_lineView (r : Request) (f : Nat) (a : SectorAddr) (ws : List Word) :
    (s.settleRead r f a ws).lineView = s.lineView := lineView_of_blocks
@[simp] theorem settleWritten_lineView (f : Nat) (a : SectorAddr) : (s.settleWritten f a).lineView = s.lineView := lineView_of_blocks
@[simp] theorem enterRefresh_lineView (f : Nat) : (s.enterRefresh f).lineView = s.lineView := lineView_of_blocks
@[simp] theorem invalidate_lineView (f : Nat) : (s.invalidate f).lineView = s.lineView := lineView_of_blocks
@[simp] theorem torn_lineView (a : SectorAddr) : (s.torn a).lineView = s.lineView := lineView_of_blocks
@[simp] theorem takeWords_lineView (f : Nat) (ws : List Word) : (s.takeWords f ws).lineView = s.lineView := lineView_of_blocks
@[simp] theorem putRead_lineView (ws : List Word) : (s.putRead ws).lineView = s.lineView := lineView_of_blocks
@[simp] theorem freeUnpinned_lineView : s.freeUnpinned.lineView = s.lineView := lineView_of_blocks
@[simp] theorem freeAllFrames_lineView : s.freeAllFrames.lineView = s.lineView := lineView_of_blocks
@[simp] theorem reenterStale_lineView : s.reenterStale.lineView = s.lineView := lineView_of_blocks
@[simp] theorem finish_lineView (id : Nat) (o : ReqOutcome) : (s.finish id o).lineView = s.lineView := lineView_of_blocks
@[simp] theorem finishAll_lineView (l : List (Nat × ReqOutcome)) : (s.finishAll l).lineView = s.lineView := lineView_of_blocks
@[simp] theorem endRequest_lineView (id : Nat) (o : ReqOutcome) (a : Option SectorAddr) :
    (s.endRequest id o a).lineView = s.lineView := lineView_of_blocks
@[simp] theorem consult_lineView (id : Nat) : (s.consult id).lineView = s.lineView := lineView_of_blocks
@[simp] theorem consultAll_lineView : s.consultAll.lineView = s.lineView := lineView_of_blocks
@[simp] theorem postUpTo_lineView (n : Nat) : (s.postUpTo n).lineView = s.lineView := lineView_of_blocks
@[simp] theorem post_lineView : s.post.lineView = s.lineView := lineView_of_blocks
@[simp] theorem expire_lineView : s.expire.lineView = s.lineView := by simp [State.expire]
@[simp] theorem prepare_lineView : s.prepare.lineView = s.lineView := by simp [State.prepare]

@[simp] theorem findHold_lineView : s.findHold.lineView = s.lineView := by
  unfold State.findHold; split <;> simp

@[simp] theorem deliveryEnded_lineView (id : Nat) : (s.deliveryEnded id).lineView = s.lineView := by
  unfold State.deliveryEnded; repeat' split
  all_goals simp

@[simp] theorem stagingEnded_lineView (id : Nat) : (s.stagingEnded id).lineView = s.lineView := by
  unfold State.stagingEnded; repeat' split
  · rfl
  · exact foldl_keeps State.lineView _ (fun t _ => by simp) _ _
  · rfl

/-! ### The drain, the remount -/

@[simp] theorem drain_lineView (o : ReqOutcome) : (s.drain o).lineView = s.lineView := lineView_of_blocks

@[simp] theorem drainOne_lineView (o : ReqOutcome) (id : Nat) : (s.drainOne o id).lineView = s.lineView := lineView_of_blocks

/-! ### The frames of a failed write, of the label read, of a CHECK -/

@[simp] theorem settleFailedWrite_lineView (o : ReqOutcome) : (s.settleFailedWrite o).lineView = s.lineView :=
  foldl_keeps State.lineView _ (fun t _ => torn_lineView t _) _ _

@[simp] theorem freeLabelFrame_lineView : s.freeLabelFrame.lineView = s.lineView := by
  unfold State.freeLabelFrame; dsimp only; split
  · rfl
  · rw [freeFrame_lineView]; rfl

@[simp] theorem followCheck_lineView (f idx : Nat) : (s.followCheck f idx).lineView = s.lineView := by
  unfold State.followCheck; repeat' split
  all_goals simp

@[simp] theorem patchFrame_lineView (x : Sending) : (s.patchFrame x).lineView = s.lineView := by
  unfold State.patchFrame; repeat' split
  all_goals rfl

@[simp] theorem stopWritten_lineView (x : Sending) : (s.stopWritten x).lineView = s.lineView := by
  unfold State.stopWritten; split <;> simp

/-! ### Admission -/

@[simp] theorem refuse_lineView (blk : Block) (o : ReqOutcome) : (s.refuse blk o).lineView = s.lineView := by
  simp [State.refuse]

@[simp] theorem stage_lineView (r : Request) : (s.stage r).lineView = s.lineView := by
  unfold State.stage; split
  · exact foldl_keeps State.lineView _ (fun t _ => by simp) _ _
  · rfl

@[simp] theorem closeChain_lineView (r : Request) : (s.closeChain r).lineView = s.lineView := by
  unfold State.closeChain; dsimp only; split
  · simp
  · exact foldl_keeps State.lineView _ (fun t _ => by simp) _ _

@[simp] theorem acceptDrive_lineView (k : Kind) (b : BlockBody) : (s.acceptDrive k b).lineView = s.lineView := by
  unfold State.acceptDrive State.enterWaiting; dsimp only; repeat' split
  all_goals simp

@[simp] theorem pinNow_lineView (r : Request) : (s.pinNow r).lineView = s.lineView :=
  foldl_keeps State.lineView _ (fun t i => by split <;> simp) _ _

@[simp] theorem unpinFrame_lineView (f : Nat) : (s.unpinFrame f).lineView = s.lineView := by
  unfold State.unpinFrame; split <;> simp

theorem overRange_lineView (b : BlockBody) (test : Frame → Bool) {act : State → Nat → State}
    (h : ∀ t f, (act t f).lineView = t.lineView) : (s.overRange b test act).1.lineView = s.lineView := by
  have go : ∀ (l : List Nat) (p : State × Nat),
      (l.foldl (fun p i => State.overSector test act p (sectorAt b.cyl.toNat i)) p).1.lineView = p.1.lineView := by
    intro l
    induction l with
    | nil => intro p; rfl
    | cons i l ih =>
      intro p
      rw [List.foldl_cons, ih]
      unfold State.overSector
      repeat' split
      all_goals simp [h]
  exact go _ _

@[simp] theorem fetchFault_lineView (blk : Block) : (s.fetchFault blk).lineView = s.lineView := by
  unfold State.fetchFault; split <;> rfl

@[simp] theorem cancelTarget_lineView (blk : Block) : (s.cancelTarget blk).lineView = s.lineView := by
  simp [State.cancelTarget]

@[simp] theorem acceptHeld_lineView (k : Kind) (b : BlockBody) (kind : State → JobKind) :
    (s.acceptHeld k b kind).lineView = s.lineView := rfl

/-! ### The coherence actions and the captures -/

@[simp] theorem holdCapture_lineView (f : Nat) : (s.holdCapture f).lineView = s.lineView := rfl

@[simp] theorem writtenWithoutGood_lineView (f : Nat) : (s.writtenWithoutGood f).lineView = s.lineView := by
  unfold State.writtenWithoutGood; dsimp only; split
  · exact invalidate_lineView s f
  · simp

@[simp] theorem peerWrite_lineView (a : SectorAddr) (g : Bool) (ws : List Word) : (s.peerWrite a g ws).lineView = s.lineView := by
  unfold State.peerWrite; repeat' split
  all_goals simp

@[simp] theorem peerRead_lineView (a : SectorAddr) (ws : List Word) : (s.peerRead a ws).lineView = s.lineView := by
  unfold State.peerRead; repeat' split
  all_goals simp

@[simp] theorem unlocatedWrite_lineView (h n : Nat) : (s.unlocatedWrite h n).lineView = s.lineView :=
  foldl_keeps State.lineView _ (fun t f => by dsimp only; split <;> simp) _ _

@[simp] theorem applyHeld_lineView (f : Nat) : (s.applyHeld f).lineView = s.lineView := by
  have abandoned : (if s.monitor.abandonedFor = some f then { s with monitor := { s.monitor with abandonedFor := none } } else s).lineView
      = s.lineView := by split <;> rfl
  unfold State.applyHeld; dsimp only
  rw [← abandoned]
  repeat' split
  all_goals simp

@[simp] theorem abandonHeld_lineView : s.abandonHeld.lineView = s.lineView := by
  unfold State.abandonHeld; dsimp only; repeat' split
  all_goals simp

@[simp] theorem correctArm_lineView (ws : List Word) : (s.correctArm ws).lineView = s.lineView := by
  unfold State.correctArm; split <;> simp

@[simp] theorem beginCapture_lineView (ws : List Word) : (s.beginCapture ws).lineView = s.lineView := by
  simp [State.beginCapture]

@[simp] theorem endUnreported_lineView : s.endUnreported.lineView = s.lineView := rfl

@[simp] theorem guardCheck_lineView (a : SectorAddr) : (s.guardCheck a).lineView = s.lineView := by
  unfold State.guardCheck; split <;> simp

@[simp] theorem overheardDone_lineView (id idx : Nat) : (s.overheardDone id idx).lineView = s.lineView := by
  simp [State.overheardDone]

theorem allocate_lineView {t : State} {f : Nat} (h : s.allocate = some (f, t)) : t.lineView = s.lineView :=
  lineView_of_blocks (State.allocate_powered h) (State.allocate_zones h) (State.allocate_lines h) (State.allocate_drive h)
    (State.allocate_access h) (State.allocate_seq h) (State.allocate_cart h)

theorem overheardOwn_lineView {t : State} {r : Request} {a : SectorAddr} {ws : List Word} (h : s.overheardOwn r a ws = some t) :
    t.lineView = s.lineView := by
  cases e : s.allocate with
  | none => simp only [State.overheardOwn, e] at h; cases h
  | some p =>
    obtain ⟨f, u⟩ := p
    have hu := allocate_lineView s e
    simp only [State.overheardOwn, e, Option.some.injEq] at h
    rw [← h, ← hu]
    by_cases k : r.kind = .read <;> simp [k]

@[simp] theorem overheardHit_lineView (r : Request) (a : SectorAddr) (f : Nat) : (s.overheardHit r a f).lineView = s.lineView := by
  unfold State.overheardHit; dsimp only; split <;> simp

@[simp] theorem overheardCheck_lineView (r : Request) (a : SectorAddr) : (s.overheardCheck r a).lineView = s.lineView := by
  unfold State.overheardCheck; dsimp only; split <;> simp

theorem overheardOne_lineView (k : CapKind) (a : SectorAddr) (ws : List Word) (p : State × Bool) (id : Nat) :
    (State.overheardOne k a ws p id).1.lineView = p.1.lineView := by
  unfold State.overheardOne
  split
  · rfl
  · next r _ =>
    split
    · dsimp only
      split
      · rfl
      · next t b e =>
        have served : t.lineView = p.1.lineView := by
          split at e
          · cases e; simp
          · split at e
            · cases e; simp
            · obtain ⟨u, hu, e'⟩ := Option.map_eq_some_iff.mp e
              cases e'
              exact overheardOwn_lineView _ hu
        split <;> simp [served]
    · rfl

@[simp] theorem overheard_lineView (k : CapKind) (a : SectorAddr) (ws : List Word) : (s.overheard k a ws).lineView = s.lineView := by
  have go : ∀ (l : List Nat) (p : State × Bool), (l.foldl (State.overheardOne k a ws) p).1.lineView = p.1.lineView := by
    intro l
    induction l with
    | nil => intro p; rfl
    | cons id l ih => intro p; rw [List.foldl_cons, ih, overheardOne_lineView]
  exact go _ _

@[simp] theorem reportPartial_lineView : s.reportPartial.lineView = s.lineView := by
  unfold State.reportPartial; split <;> simp

@[simp] theorem cutShort_lineView (cap : Option PeerField) : (s.cutShort cap).lineView = s.lineView := by
  unfold State.cutShort; dsimp only; repeat' split
  all_goals simp

/-- A holding that ends changes the access record's holding alone. -/
@[simp] theorem holdingEnds_lineView (cap : Option PeerField) : (s.holdingEnds cap).lineView = s.lineView := by
  change State.lineView (if s.peerTenure then s.cutShort cap else s) = _
  split <;> simp

@[simp] theorem peerSeek_lineView (c : Nat) : (s.peerSeek c).lineView = s.lineView := by
  unfold State.peerSeek; repeat' split
  all_goals rfl

@[simp] theorem peerRecalibrate_lineView : s.peerRecalibrate.lineView = s.lineView := by
  unfold State.peerRecalibrate; split <;> rfl

@[simp] theorem peerFault_lineView : s.peerFault.lineView = s.lineView := by
  unfold State.peerFault; split <;> rfl

@[simp] theorem peerHeader_lineView (v : Bool) (ws : List Word) : (s.peerHeader v ws).lineView = s.lineView := by
  unfold State.peerHeader; dsimp only; split <;> simp

@[simp] theorem dataSyncMissed_lineView (d : PeerField) : (s.dataSyncMissed d).lineView = s.lineView := by
  unfold State.dataSyncMissed; split <;> rfl

/-! ### The channel -/

@[simp] theorem startJob_lineView : s.startJob.lineView = s.lineView := by
  unfold State.startJob; split <;> rfl

@[simp] theorem stageWords_lineView (j : Job) (f : Nat) (ws : List Word) : (s.stageWords j f ws).lineView = s.lineView := by
  unfold State.stageWords; split <;> rfl

@[simp] theorem stagingRefused_lineView (id : Nat) : (s.stagingRefused id).lineView = s.lineView := by
  unfold State.stagingRefused; repeat' split
  all_goals simp

@[simp] theorem deliveryRefused_lineView (id idx : Nat) : (s.deliveryRefused id idx).lineView = s.lineView := by
  unfold State.deliveryRefused; dsimp only; repeat' split
  all_goals simp

@[simp] theorem jobRefused_lineView (j : Job) (n : Nat) (ws : List Word) : (s.jobRefused j n ws).lineView = s.lineView := by
  unfold State.jobRefused; dsimp only; split
  · split <;> simp
  · rw [sweep_lineView]
    split <;> simp
  all_goals simp

@[simp] theorem releaseTurned_lineView (f : Nat) : (s.releaseTurned f).lineView = s.lineView := by
  unfold State.releaseTurned; split <;> simp

@[simp] theorem freeZoneFrames_lineView (p : Nat → Bool) : (s.freeZoneFrames p).lineView = s.lineView :=
  overFrames_keeps State.lineView (fun t f => releaseTurned_lineView t f) s _

@[simp] theorem resetFrames_lineView : s.resetFrames.lineView = s.lineView := by
  unfold State.resetFrames
  dsimp only
  rw [foldl_keeps State.lineView _ (fun u f => by split <;> simp)]
  rfl

end Keeps
end Sys2Proof.Machine
end

section
/-! PROOF. How LineInv is kept where the view changes: the cartridge state, the access state outside a tenure, and a tenure, in which the
command lines and the sequencer are free. -/

namespace Sys2Proof.Machine

/-! ### What LineInv says of a state -/

section Facts
variable {s : State} (h : LineInv s)
include h

theorem LineInv.on_iff : s.access.state ≠ .off ↔ s.powered = true ∧ s.zones.configured = true := by
  simpa using not_congr h.off

theorem LineInv.configured_of_cart (hc : s.cart.state ≠ .absent) : s.zones.configured = true := by
  by_contra hz
  exact hc (h.absent (by simpa using hz))

theorem LineInv.crel_of_cart (hc : s.cart.state ≠ .released) : s.lines.crel = false := by
  by_contra hr
  exact hc (h.crel.mp (by simpa using hr)).2

theorem LineInv.seq_idle (ha : s.access.state ≠ .holding) : s.seq.state = .idle := by
  by_contra hq
  exact ha (h.work hq)

theorem LineInv.not_stopping (ha : s.access.state ≠ .holding) : s.seq.stopping = false := h.stopped (h.seq_idle ha)

theorem LineInv.tenure_of_stopping (hs : s.seq.stopping = true) : s.access.state = .holding := by
  by_contra ha
  rw [h.not_stopping ha] at hs
  cases hs

theorem LineInv.not_enabled (ha : s.access.state ≠ .holding) : s.drive.enabled = false := by
  by_contra he
  exact ha (h.drivers.mp (by simpa using he))

theorem LineInv.no_hold (h₁ : s.access.state ≠ .checking) (h₂ : s.access.state ≠ .holding) : s.lines.hold = false := by
  by_contra hh
  rcases h.hold.mp (by simpa using hh) with e | e
  · exact h₁ e
  · exact h₂ e

theorem LineInv.no_backoff (ha : s.access.state ≠ .backoff) : s.access.backoff = none := by
  by_contra hb
  exact ha (h.timer.mp (by simpa [Option.isSome_iff_ne_none] using hb))

end Facts

/-! ### Cartridge control -/

/-- The cartridge state of a configured station moves to one other than RELEASED, with CREL deasserted (R22). -/
theorem LineInv.moveCart {s t : State} (h : LineInv s) (on : s.zones.configured = true) (hc : t.cart.state ≠ .released)
    (e : t.lineView = ({ s.lineCore with crel := false, cart := t.cart.state }, s.drive, s.seq)) : LineInv t := by
  simp only [State.lineView, State.lineCore, Prod.mk.injEq, LineCore.mk.injEq] at e
  obtain ⟨⟨hp, hz, hh, hpr, hcr, -, ha, hk, hb, -⟩, hd, hq⟩ := e
  obtain ⟨hold, drivers, gates, work, off, pres, -, -, count, timer, stopped⟩ := h
  constructor
  case crel => simp [hcr, hc]
  case absent => simp [hz, on]
  all_goals simpa only [hp, hz, hh, hpr, ha, hk, hb, hd, hq]

/-- Cartridge control leaves a state other than ABSENT and RELEASED, not for RELEASED. -/
theorem LineInv.withCart {s : State} (h : LineInv s) (ha : s.cart.state ≠ .absent) (hr : s.cart.state ≠ .released) (c : Cartridge)
    (hc : c.state ≠ .released) : LineInv { s with cart := c } :=
  h.moveCart (h.configured_of_cart ha) hc (by simp [State.lineView, State.lineCore, h.crel_of_cart hr])

/-- A change of cartridge control that leaves its state. -/
theorem LineInv.sameCart {s : State} (h : LineInv s) (c : Cartridge) (hc : c.state = s.cart.state) : LineInv { s with cart := c } :=
  h.of_view (by simp [State.lineView, State.lineCore, hc])

/-- RELEASED asserts CREL (R22, R160). -/
theorem LineInv.enterReleased {s : State} (h : LineInv s) (hp : s.powered = true) (on : s.zones.configured = true) :
    LineInv s.enterReleased := by
  obtain ⟨hold, drivers, gates, work, off, pres, -, -, count, timer, stopped⟩ := h
  constructor
  case crel => simp [State.enterReleased, hp]
  case absent => simp [on]
  all_goals assumption

/-! ### Access states outside a tenure -/

/-- The access state comes to rest, or to a bid, with no drive of HOLD, the command lines at high impedance and the sequencer IDLE (R10,
R33, R87). -/
theorem LineInv.rests {s t : State} (h : LineInv s) (on : s.access.state ≠ .off)
    (ht : t.access.state = .idle ∨ t.access.state = .waiting ∨ t.access.state = .bidding)
    (e : t.lineCore = { s.lineCore with access := t.access.state, hold := false, enabled := false, backoff := none })
    (hg : t.drive.rdg = false ∧ t.drive.wrg = false ∧ t.drive.hsel = false ∧ t.drive.cyl = 0)
    (hq : t.seq.state = .idle) (hs : t.seq.stopping = false) : LineInv t := by
  simp only [State.lineCore, LineCore.mk.injEq] at e
  obtain ⟨hp, hz, hh, hpr, hcr, he, -, hk, hb, hc⟩ := e
  have powered := h.on_iff.mp on
  constructor
  case hold => rcases ht with e | e | e <;> simp [hh, e]
  case drivers => rcases ht with e | e | e <;> simp [he, e]
  case gates => exact fun _ => hg
  case work => simp [hq]
  case off => rcases ht with e | e | e <;> simp [e, hp, hz, powered]
  case pres => simpa only [hpr, hp, hz] using h.pres
  case crel => simpa only [hcr, hp, hc] using h.crel
  case absent => simpa only [hz, hc] using h.absent
  case count => simpa only [hk] using h.count
  case timer => rcases ht with e | e | e <;> simp [hb, e]
  case stopped => exact fun _ => hs

/-- The same from outside a tenure, where the command lines and the sequencer stand as they do. -/
theorem LineInv.restsOutside {s t : State} (h : LineInv s) (on : s.access.state ≠ .off) (out : s.access.state ≠ .holding)
    (ht : t.access.state = .idle ∨ t.access.state = .waiting ∨ t.access.state = .bidding)
    (e : t.lineCore = { s.lineCore with access := t.access.state, hold := false, backoff := none })
    (hd : t.drive = s.drive) (hq : t.seq = s.seq) : LineInv t := by
  refine h.rests on ht ?_ (hd ▸ h.gates out) (hq ▸ h.seq_idle out) (hq ▸ h.not_stopping out)
  rw [e]
  simp [State.lineCore, h.not_enabled out]

/-- The change between IDLE and WAITING keeps the bond (R24). -/
theorem LineInv.settleAccess {s : State} (h : LineInv s) : LineInv s.settleAccess := by
  rcases settleAccess_cases s with e | ⟨ha, -, e⟩ | ⟨ha, -, e⟩
  · rwa [e]
  all_goals
    have hh := h.no_hold (by simp [ha]) (by simp [ha])
    have hb := h.no_backoff (by simp [ha])
    rw [e]
    exact h.restsOutside (by simp [ha]) (by simp [ha]) (by simp) (by simp [State.lineCore, hh, hb]) rfl rfl

/-- Taking up waiting work keeps the bond. -/
theorem LineInv.settle {s : State} (h : LineInv s) : LineInv s.settle :=
  LineInv.settleAccess (h.of_view (by simp))

/-- A bidder or checker withdraws (R27, R28). -/
theorem LineInv.withdraw {s : State} (h : LineInv s) (ha : s.access.state = .bidding ∨ s.access.state = .checking) :
    LineInv s.withdraw := by
  have on : s.access.state ≠ .off := by rcases ha with e | e <;> simp [e]
  have out : s.access.state ≠ .holding := by rcases ha with e | e <;> simp [e]
  have hb := h.no_backoff (by rcases ha with e | e <;> simp [e])
  unfold State.withdraw
  exact LineInv.settleAccess (h.restsOutside on out (by simp) (by simp [State.lineCore, State.dropRound, hb]) rfl rfl)

theorem restingState_cases (s : State) : s.restingState = .idle ∨ s.restingState = .waiting := by
  unfold State.restingState; split <;> simp

/-- The holder releases the line with its sequencer IDLE (R25, R37). -/
theorem LineInv.releaseLine {s : State} (h : LineInv s) (on : s.access.state ≠ .off) (hb : s.access.state ≠ .backoff)
    (hq : s.seq.state = .idle) (hs : s.seq.stopping = false) : LineInv s.releaseLine := by
  have released : LineInv { s with
      lines := { s.lines with hold := false, call := false, mark1 := false, mark2 := false }
      drive := { s.drive with enabled := false, cyl := 0, hsel := false, rdg := false, wrg := false }
      access := { s.access with state := s.restingState, round := none } } :=
    h.rests on ((restingState_cases s).imp_right .inl) (by simp [State.lineCore, h.no_backoff hb]) ⟨rfl, rfl, rfl, rfl⟩ hq hs
  exact released.of_view (findHold_lineView _)

/-! ### A tenure -/

/-- LineInv in the station's own tenure. -/
structure Tenure (s : State) : Prop extends LineInv s where
  holding : s.access.state = .holding

/-- LineInv at a selection point: in a tenure, the sequencer IDLE (R82). -/
structure AtPoint (s : State) : Prop extends Tenure s where
  idle : s.seq.state = .idle

theorem Tenure.on {s : State} (h : Tenure s) : s.access.state ≠ .off := by simp [h.holding]

/-- In a tenure the bond leaves the gates, CYL and HSEL to the sequencer, and the sequencer to itself, as long as an IDLE one has nothing to
stop. -/
theorem Tenure.of_core {s t : State} (h : Tenure s) (e : t.lineCore = s.lineCore) (hs : t.seq.state = .idle → t.seq.stopping = false) :
    Tenure t := by
  simp only [State.lineCore, LineCore.mk.injEq] at e
  obtain ⟨hp, hz, hh, hpr, hcr, he, ha, hk, hb, hc⟩ := e
  obtain ⟨⟨hold, drivers, -, -, off, pres, crel, absent, count, timer, -⟩, holding⟩ := h
  have holding' : t.access.state = .holding := by rw [ha, holding]
  refine ⟨?_, holding'⟩
  constructor
  case gates => exact fun n => absurd holding' n
  case work => exact fun _ => holding'
  case stopped => exact hs
  all_goals simpa only [hp, hz, hh, hpr, hcr, he, ha, hk, hb, hc]

/-- New work on the sequencer, which no port reset has told to stop. -/
theorem Tenure.newWork {s : State} (h : Tenure s) (q : Sequencer) (hq : q.stopping = false) : Tenure { s with seq := q } :=
  h.of_core rfl (fun _ => hq)

theorem Tenure.withUnit {s : State} (h : Tenure s) (u : UpdateUnit) : Tenure { s with unit := u } := h.of_core rfl h.stopped

theorem Tenure.of_view {s t : State} (h : Tenure s) (e : t.lineView = s.lineView) : Tenure t := by
  exact h.of_core (lineCore_of_view e) (seq_of_view e ▸ h.stopped)

theorem AtPoint.of_view {s t : State} (h : AtPoint s) (e : t.lineView = s.lineView) : AtPoint t := by
  exact ⟨h.toTenure.of_view e, seq_of_view e ▸ h.idle⟩

/-- A change of the sequencer's record. -/
theorem Tenure.mapSeq {s : State} (h : Tenure s) {f : Sequencer → Sequencer}
    (hf : (f s.seq).state = .idle → (f s.seq).stopping = false) : Tenure (s.mapSeq f) := h.of_core rfl hf

theorem AtPoint.tidy {s : State} (h : AtPoint s) : AtPoint s.tidy := h.of_view (tidy_lineView s)

theorem AtPoint.post {s : State} (h : AtPoint s) : AtPoint s.post := h.of_view (post_lineView s)

/-- The work that an own sequencer's state stands for is in a tenure (R87). -/
theorem LineInv.tenure {s : State} (h : LineInv s) (hq : s.seq.state ≠ .idle) : Tenure s := ⟨h, h.work hq⟩

/-- The sequencer goes IDLE (R87). -/
theorem Tenure.seqIdle {s : State} (h : Tenure s) : AtPoint s.seqIdle := ⟨h.of_core rfl (fun _ => rfl), rfl⟩

/-- The line is released at a selection point. -/
theorem AtPoint.releaseLine {s : State} (h : AtPoint s) : LineInv s.releaseLine :=
  h.toLineInv.releaseLine h.on (by simp [h.holding]) h.idle (h.stopped h.idle)

end Sys2Proof.Machine
end

section
/-! PROOF. The sequencer's part of a tenure keeps LineInv: motions, the start and the end of work, headers, visits and fields, the label
verdict. -/

namespace Sys2Proof.Machine

/-! ### Motions -/

theorem Tenure.search {s : State} (h : Tenure s) : Tenure s.search := h.of_core rfl (fun e => by cases e)

theorem Tenure.strobeSeek {s : State} (h : Tenure s) : Tenure s.strobeSeek := h.of_core rfl (fun e => by cases e)

theorem Tenure.beginSeek {s : State} (h : Tenure s) : Tenure s.beginSeek := by
  have waits : Tenure (s.closeGates.mapSeq (fun q => { q with state := .seeking, strobed := false, visit := none, pass := [] })) :=
    h.of_core rfl (fun e => by cases e)
  unfold State.beginSeek
  dsimp only
  split
  · exact waits.strobeSeek
  · exact waits

/-- A retry counted changes of the sequencer its mark alone. -/
theorem Tenure.retryCounted {s : State} (h : Tenure s) : Tenure s.retryCounted := by
  have marked : Tenure (s.mapSeq (fun q => { q with retried := true })) := h.of_core rfl h.stopped
  exact marked.of_view (countRetry_lineView _)

theorem Tenure.recalibrate {s : State} (h : Tenure s) : Tenure s.recalibrate :=
  Tenure.retryCounted (h.of_core rfl (fun e => by cases e))

theorem Tenure.position {s : State} (h : Tenure s) : Tenure s.position := by
  unfold State.position
  split
  · exact h.search
  · exact Tenure.beginSeek (h.of_core rfl h.stopped)

/-! ### The start of work -/

theorem Tenure.startMember {s : State} (h : Tenure s) (r : Request) : Tenure (s.startMember r) := by
  have started := h.newWork { Sequencer.idle with
    work := some (.request r.id), cyl := r.addr.cyl, recs := r.undone.map (SectorRec.start r.kind.purpose) } rfl
  exact Tenure.position (started.of_view (foldl_keeps State.lineView _ (fun t i => allocOrWait_lineView t _) _ _))

theorem Tenure.startWork {s : State} (h : Tenure s) (c : Candidate) : Tenure (s.startWork c) := by
  unfold State.startWork
  split
  · split
    · exact h
    · next id r _ =>
      have running := h.of_view (foldl_keeps State.lineView _ (fun t i => modify_lineView t i
        (fun q => { q with state := .running, slack := c.slack })) (s.groupIds r) s)
      exact Tenure.startMember (running.withUnit _) _
  · exact Tenure.position (h.newWork _ rfl)
  · have started := h.newWork { Sequencer.idle with work := some .label, cyl := 0, recs := [SectorRec.start .read 0] } rfl
    exact Tenure.position (started.of_view (allocOrWait_lineView _ _))

theorem AtPoint.selectionPoint {s : State} (h : AtPoint s) : LineInv s.selectionPoint := by
  have prepared : AtPoint s.prepare := h.of_view (prepare_lineView s)
  unfold State.selectionPoint
  dsimp only
  split
  · exact prepared.releaseLine
  · split
    · exact prepared.releaseLine
    · exact (prepared.toTenure.startWork _).toLineInv

/-! ### The label verdict -/

@[simp] theorem remount_lineView (s : State) (serial : BitVec 32) : (s.remount serial).lineView = s.lineView := by
  change State.lineView (if s.cart.lastSerial = some serial then _ else _) = _
  split <;> simp

@[simp] theorem remount_cart_state (s : State) (serial : BitVec 32) : (s.remount serial).cart.state = s.cart.state := by
  change Cartridge.state (State.cart (if s.cart.lastSerial = some serial then _ else _)) = _
  split <;> simp

theorem LineInv.labelAccepted {s : State} (h : LineInv s) (serial : BitVec 32) : LineInv (s.labelAccepted serial) := by
  have remounted := h.of_view (remount_lineView s serial)
  unfold State.labelAccepted
  split
  · next hc =>
    have moved := remounted.withCart (by simp [hc]) (by simp [hc]) { (s.remount serial).cart with state := .mounted } (by simp)
    exact moved.of_view (raise_lineView _ _)
  · exact remounted.sameCart _ rfl
  · exact remounted.sameCart _ rfl
  all_goals exact h

/-- UNUSABLE entered, its announcement and its drain. -/
theorem LineInv.enterUnusable {s : State} (h : LineInv s) (ha : s.cart.state ≠ .absent) (hr : s.cart.state ≠ .released) :
    LineInv s.enterUnusable := by
  have moved := h.withCart ha hr { s.cart with state := .unusable } (by simp)
  exact moved.of_view ((drain_lineView _ _).trans (raise_lineView _ _))

theorem LineInv.labelRejected {s : State} (h : LineInv s) : LineInv s.labelRejected := by
  unfold State.labelRejected
  split
  · next hc => exact LineInv.enterUnusable (h.sameCart _ rfl) (by simp [hc]) (by simp [hc])
  · exact h.sameCart _ rfl
  · exact h.sameCart _ rfl
  all_goals exact h

theorem LineInv.labelVerdict {s : State} (h : LineInv s) (ws : Option (List Word)) : LineInv (s.labelVerdict ws) := by
  unfold State.labelVerdict
  split
  · exact h.labelAccepted _
  · exact h.labelRejected

theorem AtPoint.labelVerdict {s : State} (h : AtPoint s) (ws : Option (List Word)) : AtPoint (s.labelVerdict ws) :=
  ⟨⟨h.toLineInv.labelVerdict ws, by simp [h.holding]⟩, by simp [h.idle]⟩

end Sys2Proof.Machine
end

section
/-! PROOF. The end of the sequencer's work, and its headers, visits and fields, keep LineInv. -/

namespace Sys2Proof.Machine

/-! ### The end of work -/

theorem Tenure.requestDecided {s : State} (h : Tenure s) (r : Request) (o : ReqOutcome) (a : Option SectorAddr) :
    AtPoint (s.requestDecided r o a) := by
  have idle : AtPoint { s.seqIdle with unit := { inProgress := none, flags := endFlags r o s.unit.flags } } :=
    ⟨h.seqIdle.toTenure.withUnit _, rfl⟩
  exact idle.of_view (endRequest_lineView _ _ _ _)

theorem Tenure.requestFails {s : State} (h : Tenure s) (r : Request) (o : ReqOutcome) (a : SectorAddr) : AtPoint (s.requestFails r o a) :=
  (h.requestDecided r o (some a)).of_view (finishAll_lineView _ _)

/-- The chain goes on in the tenure, or comes to its selection point. -/
theorem AtPoint.runChain {s : State} (h : AtPoint s) (ids : List Nat) :
    Tenure (s.runChain ids).1 ∧ ((s.runChain ids).2 = false → AtPoint (s.runChain ids).1) := by
  induction ids generalizing s with
  | nil => exact ⟨h.toTenure, fun _ => h⟩
  | cons id ids ih =>
    unfold State.runChain
    split
    · exact ih h
    · split
      · exact ⟨h.toTenure.startMember _, by simp⟩
      · exact ih (h.of_view (endRequest_lineView _ _ _ _))

theorem Tenure.workSucceeds {s : State} (h : Tenure s) (r : Request) : LineInv (s.workSucceeds r) := by
  obtain ⟨goesOn, comesToPoint⟩ :=
    (h.requestDecided r (if s.seq.retried then .doneRetried else .done) none).runChain (s.laterMembers r)
  unfold State.workSucceeds State.requestSucceeds
  dsimp only
  split
  · next e =>
    obtain ⟨rfl, -⟩ := Prod.mk.inj e
    exact ((goesOn.of_view (post_lineView _)).of_view (tidy_lineView _)).toLineInv
  · next e =>
    obtain ⟨rfl, hb⟩ := Prod.mk.inj e
    exact (comesToPoint hb).post.tidy.selectionPoint

theorem Tenure.continueRequest {s : State} (h : Tenure s) (id : Nat) : LineInv (s.continueRequest id) := by
  unfold State.continueRequest
  repeat' split
  · exact h.seqIdle.toLineInv
  · exact h.workSucceeds _
  · exact h.search.toLineInv.of_view (tidy_lineView _)

/-- A failure that lists a fault is the failure after the listing (R99, R103). -/
theorem workFails_listed (s : State) (o : ReqOutcome) (x : FaultAddr) (k : FaultKind) (a : SectorAddr) :
    s.workFails o (some (x, k)) a = (s.listFault x k .own).workFails o none a := rfl

theorem Tenure.workFails_unlisted {s : State} (h : Tenure s) (o : ReqOutcome) (a : SectorAddr) : LineInv (s.workFails o none a) := by
  unfold State.workFails
  dsimp only
  split
  · exact h.seqIdle.toLineInv
  · split
    · exact h.seqIdle.toLineInv
    · exact (((h.of_view (settleFailedWrite_lineView s o)).requestFails _ o a).post.tidy).selectionPoint
  · next f _ => exact ((h.seqIdle.of_view (leaveRefresh_lineView s.seqIdle f)).tidy).selectionPoint
  · exact (((h.seqIdle.of_view (freeLabelFrame_lineView s.seqIdle)).labelVerdict none).post.tidy).selectionPoint

theorem Tenure.workFails {s : State} (h : Tenure s) (o : ReqOutcome) (fault : Option (FaultAddr × FaultKind)) (a : SectorAddr) :
    LineInv (s.workFails o fault a) := by
  cases fault with
  | none => exact h.workFails_unlisted o a
  | some p => exact (h.of_view (listFault_lineView s p.1 p.2 .own)).workFails_unlisted o a

/-- The sequencer that stops for a port reset releases the line (R39, R102). -/
theorem Tenure.stopEnds {s : State} (h : Tenure s) : LineInv s.stopEnds := by
  have idled {t : State} (e : t.lineView = s.lineView) : LineInv t.seqIdle.tidy.releaseLine :=
    AtPoint.releaseLine ((h.of_view e).seqIdle.of_view (tidy_lineView _))
  unfold State.stopEnds
  refine idled ?_
  repeat' split
  · exact freeLabelFrame_lineView s
  · exact freeFrame_lineView s _
  all_goals rfl

theorem Tenure.stopOr {s : State} (h : Tenure s) {f : State → State} (hf : LineInv (f s)) : LineInv (s.stopOr f) := by
  unfold State.stopOr
  split
  · exact h.stopEnds
  · exact hf

/-! ### Positioning -/

theorem Tenure.positioningFails {s : State} (h : Tenure s) : LineInv s.positioningFails := h.workFails _ _ _

theorem Tenure.seekFails {s : State} (h : Tenure s) : LineInv s.seekFails := by
  unfold State.seekFails
  split
  · exact h.positioningFails
  · exact Tenure.toLineInv (Tenure.recalibrate (h.mapSeq h.stopped))

/-! ### Headers -/

theorem Tenure.headerMiss {s : State} (h : Tenure s) (idx : Nat) : LineInv (s.headerMiss idx) := by
  unfold State.headerMiss
  dsimp only
  have missed : Tenure (s.mapSeq (fun q => q.setRec idx
    (fun r => { r with misses := (s.seq.recOf idx).misses + 1, again := true }))) := h.mapSeq h.stopped
  repeat' split
  · exact missed.workFails _ _ _
  · exact Tenure.toLineInv (Tenure.recalibrate (missed.mapSeq missed.stopped))
  · exact missed.search.toLineInv

theorem Tenure.misPosition {s : State} (h : Tenure s) (idx c : Nat) : LineInv (s.misPosition idx c) := by
  unfold State.misPosition
  dsimp only
  have corrected := h.of_view
    (withMonitor_lineView s { s.monitor with arm := if c < Config.cylinders then armOf c else Config.armOutOfRange c })
  split
  · exact corrected.headerMiss idx
  · exact Tenure.toLineInv (Tenure.recalibrate (corrected.mapSeq corrected.stopped))

theorem Tenure.openWrite {s : State} (h : Tenure s) (idx : Nat) : LineInv (s.openWrite idx) := by
  unfold State.openWrite
  dsimp only
  split
  · exact h.workFails _ _ _
  · exact Tenure.toLineInv (h.of_core rfl (fun e => by cases e))

theorem Tenure.headerMatched {s : State} (h : Tenure s) (idx : Nat) : LineInv (s.headerMatched idx) := by
  unfold State.headerMatched
  split
  · exact h.openWrite idx
  all_goals exact Tenure.toLineInv (h.mapSeq (fun e => by cases e))

theorem Tenure.endVoidRefresh {s : State} (h : Tenure s) : LineInv s.endVoidRefresh :=
  h.seqIdle.tidy.selectionPoint

theorem Tenure.takeHeader {s : State} (h : Tenure s) (idx : Nat) (hd : HeaderField) : LineInv (s.takeHeader idx hd) := by
  unfold State.takeHeader
  dsimp only
  repeat' split
  · exact h.headerMatched idx
  · exact h.endVoidRefresh
  · exact h.workFails _ _ _
  · exact h.misPosition idx _
  all_goals exact h.headerMiss idx

/-! ### Visits -/

theorem Tenure.beginVisit {s : State} (h : Tenure s) (idx f : Nat) (rest : List Nat) : Tenure (s.beginVisit idx f rest) := by
  have counted : Tenure (if (s.seq.recOf idx).again then s.retryCounted else s) := by
    split
    · exact h.retryCounted
    · exact h
  have followed := counted.of_view (followCheck_lineView _ f idx)
  exact followed.of_core rfl (fun e => by cases e)

theorem Tenure.slotArrives {s : State} (h : Tenure s) : LineInv s.slotArrives := by
  unfold State.slotArrives
  repeat' split
  · exact h.toLineInv
  · exact (h.beginVisit _ _ _).toLineInv
  · exact Tenure.toLineInv (h.mapSeq h.stopped)
  · exact h.toLineInv

/-! ### Data fields -/

theorem Tenure.recDone {s : State} (h : Tenure s) (idx : Nat) : Tenure (s.recDone idx) := h.of_core rfl h.stopped

theorem Tenure.operate {s : State} (h : Tenure s) (r : Request) (idx : Nat) (old : Word) : LineInv (s.operate r idx old) := by
  unfold State.operate
  dsimp only
  have operated := (h.withUnit
      { inProgress := some { op := r.op, opA := r.opA, opB := r.opB, old := old, new := updateWord r.op r.opA r.opB old }
        flags := updateFlags r.op r.opA r.opB old }).of_view
    (modify_lineView _ r.id (fun q => { q with oldWord := old, newWord := updateWord r.op r.opA r.opB old }))
  split
  · exact (operated.recDone idx).continueRequest _
  · refine LineInv.of_view (Tenure.toLineInv (Tenure.mapSeq ?_ (fun e => by cases e))) (tidy_lineView _)
    exact operated.of_core rfl operated.stopped

theorem Tenure.requestReadGood {s : State} (h : Tenure s) (r : Request) (idx f : Nat) (ws : List Word) :
    LineInv (s.requestReadGood r idx f ws) := by
  unfold State.requestReadGood
  dsimp only
  split
  · exact Tenure.continueRequest (Tenure.recDone (h.of_view (by simp)) idx) _
  · exact Tenure.operate (h.of_view (by simp)) _ _ _
  all_goals exact Tenure.continueRequest (Tenure.recDone (h.of_view (by simp)) idx) _

theorem Tenure.readGood {s : State} (h : Tenure s) (idx : Nat) (ws : List Word) : LineInv (s.readGood idx ws) := by
  unfold State.readGood
  repeat' split
  · exact h.seqIdle.toLineInv
  · exact ((((h.of_view (putRead_lineView s ws)).seqIdle.of_view (freeLabelFrame_lineView _)).labelVerdict _).post.tidy).selectionPoint
  · next f _ => exact ((h.seqIdle.of_view (takeWords_lineView s.seqIdle f ws)).tidy).selectionPoint
  · exact h.seqIdle.toLineInv
  · exact h.requestReadGood _ _ _ _

theorem Tenure.readBad {s : State} (h : Tenure s) (idx : Nat) : LineInv (s.readBad idx) := by
  unfold State.readBad
  dsimp only
  split
  · exact Tenure.workFails (h.mapSeq h.stopped) _ _ _
  · exact Tenure.toLineInv (Tenure.search (h.mapSeq h.stopped))

theorem Tenure.sent {s : State} (h : Tenure s) (x : Sending) : Tenure (s.sent x) := h.of_core rfl h.stopped

theorem Tenure.requestWritten {s : State} (h : Tenure s) (r : Request) (idx : Nat) (x : Sending) : LineInv (s.requestWritten r idx x) := by
  unfold State.requestWritten
  split
  · exact Tenure.toLineInv (Tenure.search (h.mapSeq h.stopped))
  all_goals exact Tenure.continueRequest (Tenure.recDone (h.of_view (by simp)) idx) _

theorem Tenure.verifiedGood {s : State} (h : Tenure s) (r : Request) (idx : Nat) : LineInv (s.verifiedGood r idx) :=
  Tenure.continueRequest (Tenure.recDone (h.of_view (by simp)) idx) _

theorem Tenure.verifiedBad {s : State} (h : Tenure s) (idx : Nat) : LineInv (s.verifiedBad idx) := by
  unfold State.verifiedBad
  split
  · exact Tenure.toLineInv (Tenure.search (Tenure.retryCounted (h.mapSeq h.stopped)))
  · exact h.workFails _ _ _

end Sys2Proof.Machine
end

section
/-! PROOF. Every event and command keeps LineInv. -/

namespace Sys2Proof.Machine

theorem LineInv.withPort {s : State} (h : LineInv s) (p : Port) : LineInv { s with port := p } := h.of_view rfl

theorem LineInv.withCache {s : State} (h : LineInv s) (c : Cache) : LineInv { s with cache := c } := h.of_view rfl

theorem LineInv.withPins {s : State} (h : LineInv s) (p : Pins) : LineInv { s with pins := p } := h.of_view rfl

theorem LineInv.whenConfigured {s : State} (h : LineInv s) {f : State → State} (hf : s.zones.configured = true → LineInv (f s)) :
    LineInv (s.whenConfigured f) := by
  unfold State.whenConfigured
  split
  · next on => exact hf on
  · exact h

theorem LineInv.inPeerTenure {s : State} (h : LineInv s) {f : State → State} (hf : LineInv (f s)) : LineInv (s.inPeerTenure f) := by
  unfold State.inPeerTenure
  split
  · exact hf
  · exact h

theorem LineInv.capturing {s : State} (h : LineInv s) {f : State → State} (hf : LineInv (f s)) : LineInv (s.capturing f) := by
  unfold State.capturing
  split
  · exact hf
  · exact h

/-! ### Power and the port reset -/

theorem LineInv.poweredOn (s : State) (l : FoundLevels) : LineInv (s.poweredOn l) := by
  constructor <;> simp [State.poweredOn, State.reset, StationLines.none, DriveLines.off, Access.powerOn, Zones.powerOn, Cartridge.powerOn,
    Sequencer.idle]

theorem LineInv.powerGone {s : State} (h : LineInv s) : LineInv s.powerGone := by
  constructor
  case absent => exact h.absent
  all_goals simp [State.powerGone, StationLines.none, DriveLines.off, Access.powerOn, Sequencer.idle]

theorem LineInv.seqIdle {s : State} (h : LineInv s) : LineInv s.seqIdle := by
  obtain ⟨hold, drivers, -, -, off, pres, crel, absent, count, timer, -⟩ := h
  constructor
  case gates => exact fun _ => ⟨rfl, rfl, rfl, rfl⟩
  case work => simp [State.seqIdle, Sequencer.idle]
  case stopped => exact fun _ => rfl
  all_goals assumption

theorem LineInv.resetSequencer {s : State} (h : LineInv s) : LineInv s.resetSequencer := by
  unfold State.resetSequencer
  split
  · next hq =>
    split
    · next ha => exact AtPoint.releaseLine ⟨⟨h, ha⟩, hq⟩
    · exact h
  case h_2 | h_3 =>
    next hq => exact (h.tenure (by simp [hq])).stopEnds
  all_goals
    next hq => exact Tenure.toLineInv ((h.tenure (by simp [hq])).mapSeq (by simp [hq]))

theorem LineInv.portReset {s : State} (h : LineInv s) : LineInv s.portReset := by
  have emptied : LineInv { s with
      port := s.port.afterReset
      queue := { s.queue with held := [], finished := [] }
      unit := { inProgress := none, flags := CondFlags.clear } } := h.of_view rfl
  exact (LineInv.resetSequencer (emptied.of_view (resetFrames_lineView _))).settle

/-! ### Blocks -/

/-- A block that is not refused comes to a configured station, unless it is a CONFIGURE (R48). -/
theorem configured_of_not_refused {s : State} {blk : Block} {k : Kind} (hr : s.refusal blk = none) (hk : kindOfCode blk.kindCode = some k)
    (hc : k ≠ .configure) : s.zones.configured = true := by
  by_contra unset
  have off : s.zones.configured = false := by simpa using unset
  have first : firstFailed (s.checks k blk.body) = some .notConfigured := by
    simp [firstFailed, State.checks, off, hc]
  simp [State.refusal, hk, first] at hr

theorem LineInv.carryOut {s : State} (h : LineInv s) (hp : s.powered = true) {k : Kind} (blk : Block)
    (on : k ≠ .configure → s.zones.configured = true) : LineInv (s.carryOut k blk) := by
  unfold State.carryOut
  dsimp only
  split
  case h_6 =>
    split
    · exact h.of_view (by simp)
    · exact h.of_view (by simp)
  case h_7 =>
    exact h.of_view ((place_lineView _ _).trans (overRange_lineView s blk.body _ unpinFrame_lineView))
  case h_8 =>
    exact h.of_view ((place_lineView _ _).trans (overRange_lineView s blk.body _ release_lineView))
  case h_10 =>
    have placed := h.of_view (place_lineView s (s.answer blk .done .disk 0))
    exact (placed.enterReleased hp (on (by simp))).of_view ((post_lineView _).trans (drain_lineView _ _))
  all_goals exact h.of_view (by simp)

theorem LineInv.process {s : State} (h : LineInv s) (hp : s.powered = true) (blk : Block) : LineInv (s.process blk) := by
  unfold State.process
  split
  · exact h.of_view rfl
  · refine LineInv.settle ?_
    split
    · next hr hk => exact h.carryOut hp blk (configured_of_not_refused hr hk)
    · exact h.of_view (refuse_lineView _ _ _)
    · exact h

theorem LineInv.takeBlock {s : State} (h : LineInv s) (hp : s.powered = true) : LineInv s.takeBlock := by
  unfold State.takeBlock
  split
  · exact h
  · refine LineInv.process (h.withPort _) ?_ _
    exact hp

theorem LineInv.tryHeld {s : State} (h : LineInv s) (hp : s.powered = true) : LineInv s.tryHeld := by
  unfold State.tryHeld
  split
  · exact h.takeBlock hp
  · exact h

theorem LineInv.leftByConfigure {t : State} (s : State) (h : LineInv t) (hp : t.powered = true) : LineInv (s.leftByConfigure t) := by
  unfold State.leftByConfigure
  split
  · exact h.takeBlock hp
  · exact h

theorem LineInv.completeBlock {s : State} (h : LineInv s) (hp : s.powered = true) (blk : Block) : LineInv (s.completeBlock blk) := by
  unfold State.completeBlock
  dsimp only
  repeat' split
  · exact h.of_view rfl
  · exact h.of_view rfl
  · refine LineInv.process (h.withPort _) ?_ _
    exact hp

theorem LineInv.intakeWord {s : State} (h : LineInv s) (hp : s.powered = true) (w : Word) : LineInv (s.intakeWord w) := by
  unfold State.intakeWord
  dsimp only
  repeat' split
  · exact h.of_view rfl
  · exact h.of_view rfl
  · exact h.completeBlock hp _

theorem LineInv.outletWord {s : State} (h : LineInv s) (hp : s.powered = true) : LineInv s.outletWord := by
  unfold State.outletWord State.placeFreed
  dsimp only
  repeat' split
  · exact h.of_view rfl
  · exact h.of_view rfl
  · exact LineInv.leftByConfigure s (h.withPort _).settle (by simpa)
  · exact LineInv.tryHeld (h.withPort _).settle (by simpa)

/-! ### Cartridge control -/

theorem LineInv.enterLoading {s : State} (h : LineInv s) (on : s.zones.configured = true) (hr : s.cart.state ≠ .released) :
    LineInv s.enterLoading :=
  h.moveCart on (by simp [State.enterLoading]) (by simp [State.lineView, State.lineCore, State.enterLoading, h.crel_of_cart hr])

theorem LineInv.enterLeaving {s : State} (h : LineInv s) (on : s.zones.configured = true) (hr : s.cart.state ≠ .released) (r : Recorded) :
    LineInv (s.enterLeaving r) := by
  refine LineInv.of_view (h.moveCart on ?_ ?_) (raise_lineView _ _)
  · simp [State.startTimer]
  · simp [State.lineView, State.lineCore, State.startTimer, h.crel_of_cart hr]

theorem LineInv.arrival {s : State} (h : LineInv s) (on : s.zones.configured = true) : LineInv s.arrival := by
  unfold State.arrival
  dsimp only
  split
  · next hc =>
    have absent : s.cart.state = .absent := hc
    exact LineInv.enterLoading (h.of_view (mapMonitor_lineView _ _)) on (by simp [absent])
  · exact h.of_view (mapMonitor_lineView _ _)

theorem LineInv.enterAbsent {s : State} (h : LineInv s) (hc : s.cart.state ≠ .absent) : LineInv s.enterAbsent := by
  refine LineInv.of_view (h.moveCart (h.configured_of_cart hc) ?_ ?_) (raise_lineView _ _)
  · simp
  · rfl

@[simp] theorem tornByFall_lineView (s : State) : s.tornByFall.lineView = s.lineView := by
  unfold State.tornByFall
  split <;> simp

/-- The work cut by the fall of RDY ends with the sequencer IDLE (R101). -/
theorem LineInv.workCutByFall {s : State} (h : LineInv s) : LineInv s.workCutByFall ∧ s.workCutByFall.seq = Sequencer.idle := by
  have torn := h.of_view (tornByFall_lineView s)
  have inactive : LineInv s.tornByFall.lineInactive := by
    obtain ⟨hold, drivers, -, work, off, pres, crel, absent, count, timer, stopped⟩ := torn
    exact ⟨hold, drivers, fun _ => ⟨rfl, rfl, rfl, rfl⟩, work, off, pres, crel, absent, count, timer, stopped⟩
  unfold State.workCutByFall
  dsimp only
  split
  · next hs => exact ⟨Tenure.stopEnds ⟨inactive, inactive.tenure_of_stopping hs⟩, by simp [State.stopEnds, State.seqIdle]⟩
  · split
    · exact ⟨inactive.seqIdle, rfl⟩
    · split
      · exact ⟨inactive.seqIdle, rfl⟩
      · next r _ =>
        have settled := (inactive.of_view (settleFailedWrite_lineView _ .cartridgeRemoved)).seqIdle
        refine ⟨LineInv.of_view (LineInv.of_view (settled.of_view ?_) (endRequest_lineView _ _ _ _)) (finishAll_lineView _ _), ?_⟩
        · rfl
        · simp [State.requestFails, State.requestDecided, State.seqIdle]
    · exact ⟨inactive.seqIdle, rfl⟩
    · exact ⟨inactive.seqIdle.of_view (freeLabelFrame_lineView _), seq_of_view (freeLabelFrame_lineView _)⟩

theorem LineInv.departure {s : State} (h : LineInv s) (hc : s.cart.state ≠ .absent) : LineInv s.departure := by
  obtain ⟨cut, idle⟩ := (h.enterAbsent hc).workCutByFall
  unfold State.departure State.pointIfHolding
  dsimp only
  have drained {n : Nat} : (((s.enterAbsent.workCutByFall.drain .cartridgeRemoved).orderFinished n).post.tidy).lineView
      = s.enterAbsent.workCutByFall.lineView := by simp
  split
  · next hh =>
    simp only [Bool.and_eq_true, decide_eq_true_eq] at hh
    refine AtPoint.selectionPoint ⟨⟨cut.of_view drained, hh.1⟩, ?_⟩
    rw [seq_of_view drained, idle]
    rfl
  · exact cut.of_view drained

theorem LineInv.loseReady {s : State} (h : LineInv s) (cap : Option PeerField) : LineInv (s.loseReady cap) := by
  have follows {t : State} (cut : LineInv t) : LineInv (if t.cart.state = .absent then t else t.departure).settle := by
    refine LineInv.settle ?_
    split
    · exact cut
    · next hc => exact cut.departure hc
  refine follows (h.of_view ((armUnknown_lineView _).trans ?_))
  split <;> simp

theorem LineInv.unloadAsked {s : State} (h : LineInv s) : LineInv s.unloadAsked := by
  unfold State.unloadAsked
  split
  case h_4 | h_5 | h_6 => exact h
  all_goals
    next hc => exact h.enterLeaving (h.configured_of_cart (by simp [hc])) (by simp [hc]) _

theorem LineInv.cancelUnload {s : State} (h : LineInv s) (on : s.zones.configured = true) (r : Recorded) : LineInv (s.cancelUnload r) := by
  have cancelled : LineInv { s with
      cart := { s.cart with timer := none, recorded := none, state := r.state }
      lines := { s.lines with crel := false } } := h.moveCart on (by cases r <;> simp [Recorded.state]) rfl
  unfold State.cancelUnload
  dsimp only
  split
  · exact cancelled.of_view (raise_lineView _ _)
  · exact cancelled
  · split
    · exact LineInv.enterUnusable (cancelled.sameCart _ rfl) (by simp [Recorded.state]) (by simp [Recorded.state])
    · exact cancelled

theorem LineInv.unloadCancelled {s : State} (h : LineInv s) : LineInv s.unloadCancelled := by
  unfold State.unloadCancelled
  split
  · next hc _ => exact h.cancelUnload (h.configured_of_cart (by simp [hc])) _
  · next hc _ => exact h.cancelUnload (h.configured_of_cart (by simp [hc])) _
  · exact h

theorem LineInv.releaseTimeout {s : State} (h : LineInv s) (hp : s.powered = true) : LineInv s.releaseTimeout := by
  unfold State.releaseTimeout
  split
  · next hc =>
    simp only [Bool.and_eq_true, decide_eq_true_eq] at hc
    exact (h.enterReleased hp (h.configured_of_cart (by simp [hc.1]))).of_view ((raise_lineView _ _).trans (drain_lineView _ _))
  · exact h

/-! ### The configuration -/

theorem LineInv.cartFound {s : State} (h : LineInv s) (on : s.zones.configured = true) (hr : s.cart.state ≠ .released) :
    LineInv s.cartFound := by
  unfold State.cartFound
  repeat' split
  · refine LineInv.enterLeaving (h.withCache _) ?_ ?_ _
    · exact on
    · exact hr
  · exact h.enterLoading on hr
  · exact h

theorem LineInv.firstConfiguration {s : State} (h : LineInv s) (hp : s.powered = true) (off : s.zones.configured = false) :
    LineInv s.firstConfiguration := by
  have unseen : s.access.state = .off := h.off.mpr (by simp [off])
  have quiet : s.access.state ≠ .holding := by simp [unseen]
  have absent := h.absent off
  have first : LineInv { s with
      zones := { s.zones with configured := true }
      lines := { s.lines with pres := true, crel := false }
      access := { Access.powerOn with state := .idle }
      monitor := { Monitor.powerOn with state := .idle } } := by
    constructor
    case hold => simp [h.no_hold (by simp [unseen]) quiet]
    case drivers => simp [h.not_enabled quiet]
    case gates => exact fun _ => h.gates quiet
    case work => simp [h.seq_idle quiet]
    case stopped => exact fun _ => h.not_stopping quiet
    all_goals simp [hp, absent, Access.powerOn]
  unfold State.firstConfiguration
  dsimp only
  split
  · exact LineInv.cartFound (first.of_view (takeUnidentified_lineView _)) rfl (by simp [absent])
  · exact first.cartFound rfl (by simp [absent])

theorem LineInv.applyRecord {s : State} (h : LineInv s) (hp : s.powered = true) (ws : List Word) : LineInv (s.applyRecord ws) := by
  have applied : LineInv (State.freeZoneFrames { s with zones := s.zones.ofRecord ws } (turnedToNone s.zones (s.zones.ofRecord ws))) :=
    LineInv.of_view (s := { s with zones := s.zones.ofRecord ws }) (h.of_view rfl) (freeZoneFrames_lineView _ _)
  unfold State.applyRecord
  dsimp only
  have core := lineCore_of_view (freeZoneFrames_lineView { s with zones := s.zones.ofRecord ws } (turnedToNone s.zones (s.zones.ofRecord ws)))
  split
  · exact applied
  · next off =>
    refine applied.firstConfiguration ((congrArg LineCore.powered core).trans hp) ((congrArg LineCore.configured core).trans ?_)
    change s.zones.configured = false
    simpa using off

/-! ### The channel -/

/-- A finding of the drive's levels leaves the power as it is. -/
theorem cartFound_powered (s : State) : s.cartFound.powered = s.powered := by
  unfold State.cartFound State.enterLeaving
  repeat' split
  · rw [State.raise_powered]
    rfl
  all_goals rfl

theorem applyRecord_powered (s : State) (ws : List Word) : (s.applyRecord ws).powered = s.powered := by
  unfold State.applyRecord State.firstConfiguration
  dsimp only
  split
  · exact congrArg LineCore.powered (lineCore_of_view (freeZoneFrames_lineView { s with zones := s.zones.ofRecord ws } _))
  · rw [cartFound_powered]
    split
    all_goals exact congrArg LineCore.powered (lineCore_of_view (freeZoneFrames_lineView { s with zones := s.zones.ofRecord ws } _))

theorem LineInv.jobDone {s : State} (h : LineInv s) (hp : s.powered = true) (j : Job) (ws : List Word) :
    LineInv (s.jobDone j ws) ∧ (s.jobDone j ws).powered = true := by
  have kept {t : State} (e : t.lineView = s.lineView) : LineInv t ∧ t.powered = true :=
    ⟨h.of_view e, (congrArg LineCore.powered (lineCore_of_view e)).trans hp⟩
  unfold State.jobDone State.judgeRecord
  dsimp only
  repeat' split
  case h_4.isFalse =>
    refine ⟨LineInv.of_view (LineInv.applyRecord (s := s.channelFree) (h.of_view rfl) hp ws) (finish_lineView _ _ _), ?_⟩
    rw [State.finish_powered, applyRecord_powered]
    exact hp
  all_goals exact kept (by simp)

theorem LineInv.jobEnds {s : State} (h : LineInv s) (hp : s.powered = true) (ws : List Word) : LineInv (s.jobEnds ws) := by
  unfold State.jobEnds
  split
  · exact h
  · next j _ =>
    obtain ⟨done, power⟩ := h.jobDone hp j ws
    exact LineInv.leftByConfigure s done.settle (by simpa)

theorem LineInv.jobStops {s : State} (h : LineInv s) (hp : s.powered = true) (n : Nat) (ws : List Word) : LineInv (s.jobStops n ws) := by
  unfold State.jobStops
  split
  · exact h
  · next j _ =>
    have refused := jobRefused_lineView s j n ws
    exact LineInv.leftByConfigure s (h.of_view refused).settle
      ((State.settle_powered _).trans ((congrArg LineCore.powered (lineCore_of_view refused)).trans hp))

end Sys2Proof.Machine
end

section
/-! PROOF. The events of the line, of the peer and of the sequencer keep LineInv, and with them every step does (O9). -/

namespace Sys2Proof.Machine

/-! ### The drive line -/

@[simp] theorem callIfUrgent_lineView (s : State) : s.callIfUrgent.lineView = s.lineView := by
  unfold State.callIfUrgent
  split <;> rfl

@[simp] theorem peerTenureBegins_lineView (s : State) : s.peerTenureBegins.lineView = s.lineView := rfl

@[simp] theorem restartGap_lineView (s : State) : s.restartGap.lineView = s.lineView := by
  unfold State.restartGap
  split <;> rfl

@[simp] theorem holdEnds_lineView (s : State) (cap : Option PeerField) : (s.holdEnds cap).lineView = s.lineView := by
  simp [State.holdEnds]

@[simp] theorem holdBegins_lineView (s : State) : s.holdBegins.lineView = s.lineView := by
  unfold State.holdBegins
  split <;> rfl

@[simp] theorem raiseLineHeld_lineView (s : State) : s.raiseLineHeld.lineView = s.lineView := by
  unfold State.raiseLineHeld
  split
  · rw [raise_lineView]
    rfl
  · rfl

@[simp] theorem lineIsHeld_lineView (s : State) : s.lineIsHeld.lineView = s.lineView := by
  simp [State.lineIsHeld]

theorem LineInv.presChanged {s : State} (h : LineInv s) : LineInv s.presChanged := by
  have turned : LineInv { s with access := { s.access with turn := .A, round := none } } := h.of_view rfl
  unfold State.presChanged
  dsimp only
  split
  · next ha => exact turned.withdraw (.inl ha)
  · next ha => exact turned.withdraw (.inr ha)
  all_goals exact turned

theorem LineInv.peerArrives {s : State} (h : LineInv s) : LineInv s.peerArrives := by
  have changed := LineInv.presChanged (h.of_view (raise_lineView s .peerArrived))
  unfold State.peerArrives
  dsimp only
  split
  · exact changed.of_view (takeUnidentified_lineView _)
  · exact changed

theorem LineInv.peerLeaves {s : State} (h : LineInv s) (cap : Option PeerField) : LineInv (s.peerLeaves cap) :=
  LineInv.presChanged (h.of_view (by simp))

/-! ### The round -/

theorem LineInv.joinRound {s : State} (h : LineInv s) : LineInv s.joinRound := by
  unfold State.joinRound
  dsimp only
  split
  · next hw =>
    simp only [Bool.and_eq_true, decide_eq_true_eq] at hw
    have hh := h.no_hold (by simp [hw.1]) (by simp [hw.1])
    have hb := h.no_backoff (by simp [hw.1])
    exact h.restsOutside (by simp [hw.1]) (by simp [hw.1]) (by simp) (by simp [State.lineCore, hh, hb]) rfl rfl
  · exact h.of_view rfl

theorem LineInv.gapCompletes {s : State} (h : LineInv s) : LineInv s.gapCompletes := by
  unfold State.gapCompletes
  split
  · exact LineInv.joinRound (LineInv.settleAccess (h.of_view (prepare_lineView s)))
  · exact h

theorem LineInv.windowEnds {s : State} (h : LineInv s) (w next : RoundWindow) {f : State → State}
    (hf : ∀ t, LineInv t → t.access.state = .bidding → LineInv (f t)) : LineInv (s.windowEnds w next f) := by
  have moved : LineInv (s.mapAccess (fun a => { a with round := some next })) := h.of_view rfl
  unfold State.windowEnds
  dsimp only
  repeat' split
  · next ha => exact hf _ moved ha
  · exact moved
  · exact h

theorem LineInv.endWindow1 {s : State} (h : LineInv s) (ha : s.access.state = .bidding) (mark1 : Bool) : LineInv (s.endWindow1 mark1) := by
  unfold State.endWindow1
  split
  · exact h.withdraw (.inl ha)
  · exact h.of_view rfl

theorem LineInv.endWindow2 {s : State} (h : LineInv s) (ha : s.access.state = .bidding) (mark2 : Bool) : LineInv (s.endWindow2 mark2) := by
  unfold State.endWindow2
  split
  · exact h.withdraw (.inl ha)
  · exact h.of_view rfl

/-- A survivor of the tie window withdraws, or drives HOLD into the identity check (R29). -/
theorem LineInv.endTie {s : State} (h : LineInv s) (ha : s.access.state = .bidding) (mark1 : Bool) : LineInv (s.endTie mark1) := by
  unfold State.endTie
  split
  · exact h.withdraw (.inl ha)
  · have power := h.on_iff.mp (by simp [ha])
    have quiet : s.access.state ≠ .holding := by simp [ha]
    constructor
    case drivers => simp [h.not_enabled quiet]
    case gates => exact fun _ => h.gates quiet
    case work => simp [h.seq_idle quiet]
    case off => simp [power]
    case timer => simp [h.no_backoff (by simp [ha])]
    case hold => simp
    case pres => exact h.pres
    case crel => exact h.crel
    case absent => exact h.absent
    case count => exact h.count
    case stopped => exact h.stopped

/-- A collision takes a checker into BACKOFF, HOLD deasserted and the timer started (R30). -/
theorem LineInv.collides {s : State} (h : LineInv s) (ha : s.access.state = .checking) : LineInv s.collides := by
  have power := h.on_iff.mp (by simp [ha])
  have quiet : s.access.state ≠ .holding := by simp [ha]
  unfold State.collides
  dsimp only
  refine LineInv.of_view ?_ (raiseIf_lineView _ _ _)
  constructor
  case hold => simp [State.dropRound]
  case drivers => simp [State.dropRound, h.not_enabled quiet]
  case gates => simpa [State.dropRound] using h.gates quiet
  case work => simp [State.dropRound, h.seq_idle quiet]
  case off => simp [State.dropRound, power]
  case pres => simpa [State.dropRound] using h.pres
  case crel => simpa [State.dropRound] using h.crel
  case absent => simpa [State.dropRound] using h.absent
  case count =>
    have := h.count
    dsimp only
    split <;> omega
  case timer => simp
  case stopped => simpa [State.dropRound] using h.stopped

/-- A passed check begins the tenure with the sequencer IDLE: its first selection point (R36). -/
theorem LineInv.passes {s : State} (h : LineInv s) (ha : s.access.state = .checking) : LineInv s.passes := by
  have power := h.on_iff.mp (by simp [ha])
  have quiet : s.access.state ≠ .holding := by simp [ha]
  unfold State.passes
  refine AtPoint.selectionPoint ⟨⟨?_, rfl⟩, h.seq_idle quiet⟩
  constructor
  case off => simp [power]
  case count => exact Nat.zero_le _
  case timer => simp [h.no_backoff (by simp [ha])]
  case pres => exact h.pres
  case crel => exact h.crel
  case absent => exact h.absent
  case stopped => exact h.stopped
  all_goals simp

theorem LineInv.readsOutcome {s : State} (h : LineInv s) (hold mark1 mark2 : Bool) : LineInv (s.readsOutcome hold mark1 mark2) := by
  have read : LineInv (s.mapAccess (fun a => { a with round := none })) := h.of_view rfl
  unfold State.readsOutcome
  dsimp only
  repeat' split
  · exact LineInv.of_view (LineInv.settleAccess (read.of_view (peerTenureBegins_lineView _))) (callIfUrgent_lineView _)
  · exact read.of_view rfl
  · exact read
  · exact read.of_view (takeUnidentified_lineView _)
  · exact read

theorem LineInv.checkEnds {s : State} (h : LineInv s) (hold mark1 mark2 : Bool) : LineInv (s.checkEnds hold mark1 mark2) := by
  have sampled := h.withPins { s.pins with hold := hold, mark1 := mark1, mark2 := mark2 }
  unfold State.checkEnds
  dsimp only
  repeat' split
  · next ha _ => exact sampled.collides ha
  · next ha _ => exact sampled.passes ha
  · exact sampled.readsOutcome _ _ _
  · exact h

theorem LineInv.backoffEnds {s : State} (h : LineInv s) : LineInv s.backoffEnds := by
  unfold State.backoffEnds
  split
  · next ha =>
    refine LineInv.of_view ?_ (findHold_lineView _)
    have hh := h.no_hold (by simp [ha]) (by simp [ha])
    exact h.restsOutside (by simp [ha]) (by simp [ha]) ((restingState_cases s).imp_right .inl)
      (by simp [State.lineCore, State.mapAccess, hh]) rfl rfl
  · exact h

/-! ### The peer -/

@[simp] theorem dataSync_capturing_lineView (s : State) (d : PeerField) : (s.capturing (·.dataSyncMissed d)).lineView = s.lineView := by
  unfold State.capturing
  split <;> simp

theorem LineInv.dealWith {s : State} (h : LineInv s) (k : CapKind) (v : CapVerdict) (a : SectorAddr) (ws : List Word) :
    LineInv (s.dealWith k v a ws) := by
  unfold State.dealWith
  dsimp only
  repeat' split
  · exact h.of_view (by simp)
  · exact h.of_view (by simp)
  · refine LineInv.labelVerdict (LineInv.withCache ?_ _) _
    exact h.of_view (by simp)
  · exact h.of_view (by simp)
  · exact h

theorem LineInv.dealPlaced {s : State} (h : LineInv s) (k : CapKind) (v : CapVerdict) (ws : List Word) : LineInv (s.dealPlaced k v ws) := by
  unfold State.dealPlaced
  split
  · exact h
  · exact h.of_view (by simp)
  · exact LineInv.dealWith (h.of_view (mapMonitor_lineView _ _)) _ _ _ _

theorem LineInv.captureCompletes {s : State} (h : LineInv s) (c : PeerCapture) : LineInv (s.captureCompletes c) := by
  unfold State.captureCompletes State.captureDealt
  dsimp only
  split
  · exact LineInv.of_view (LineInv.dealPlaced (h.of_view (mapMonitor_lineView _ _)) _ _ _) (mapMonitor_lineView _ _)
  · exact h.of_view (endUnreported_lineView s)

/-! ### The sequencer -/

theorem LineInv.motionOver {s : State} (h : LineInv s) : LineInv s.motionOver := by
  unfold State.motionOver
  split
  · next hq =>
    simp only [Bool.and_eq_true, decide_eq_true_eq] at hq
    have tenure := h.tenure (by simp [hq.1.1])
    exact tenure.stopOr tenure.strobeSeek.toLineInv
  · exact h

theorem LineInv.motionWaitOver {s : State} (h : LineInv s) : LineInv s.motionWaitOver := by
  unfold State.motionWaitOver
  split
  · next hq =>
    simp only [Bool.and_eq_true, decide_eq_true_eq] at hq
    have tenure := h.tenure (by simp [hq.1])
    exact tenure.stopOr tenure.seekFails
  · exact h

theorem LineInv.tenure_of_seekOpen {s : State} (h : LineInv s) (hq : s.seekOpen = true) : Tenure s := by
  simp only [State.seekOpen, Bool.and_eq_true, beq_iff_eq] at hq
  exact h.tenure (by simp [hq.1])

theorem Tenure.seekBroken {s : State} (h : Tenure s) : LineInv s.seekBroken := by
  have unknown := h.of_view (armUnknown_lineView s)
  exact unknown.stopOr unknown.seekFails

theorem LineInv.seekEnd {s : State} (h : LineInv s) (e : MotionEnd) : LineInv (s.seekEnd e) := by
  unfold State.seekEnd
  split
  · next hq =>
    have ended : Tenure { s with pins := s.pins.ended e } := (h.tenure_of_seekOpen hq).of_view rfl
    cases e with
    | skc => exact ended.stopOr ended.search.toLineInv
    | skf => exact ended.seekBroken
  · exact h

theorem LineInv.seekTimeout {s : State} (h : LineInv s) : LineInv (if s.seekOpen then s.seekBroken else s) := by
  split
  · next hq => exact (h.tenure_of_seekOpen hq).seekBroken
  · exact h

theorem Tenure.recalibrateBroken {s : State} (h : Tenure s) : LineInv s.recalibrateBroken := by
  have unknown := h.of_view (armUnknown_lineView s)
  exact unknown.stopOr unknown.positioningFails

theorem LineInv.recalibrateEnd {s : State} (h : LineInv s) (e : MotionEnd) : LineInv (s.recalibrateEnd e) := by
  unfold State.recalibrateEnd
  split
  · next hq =>
    have ended : Tenure { s with pins := s.pins.ended e } := (h.tenure (by simp [hq])).of_view rfl
    cases e with
    | skc => exact ended.stopOr ended.beginSeek.toLineInv
    | skf => exact ended.recalibrateBroken
  · exact h

theorem LineInv.recalibrateTimeout {s : State} (h : LineInv s) :
    LineInv (if s.seq.state = .recalibrating then s.recalibrateBroken else s) := by
  split
  · next hq => exact (h.tenure (by simp [hq])).recalibrateBroken
  · exact h

theorem LineInv.slot {s : State} (h : LineInv s) : LineInv s.slot := by
  unfold State.slot
  split
  · next hq =>
    simp only [Bool.and_eq_true, Bool.or_eq_true, decide_eq_true_eq] at hq
    refine Tenure.slotArrives (h.tenure ?_)
    rcases hq.1 with e | e <;> simp [e]
  · exact h

theorem LineInv.header {s : State} (h : LineInv s) (hd : HeaderField) : LineInv (s.header hd) := by
  unfold State.header
  split
  · next hq _ => exact (h.tenure (by simp [hq])).takeHeader _ _
  · exact h

theorem LineInv.fieldRead {s : State} (h : LineInv s) (d : DataField) : LineInv (s.fieldRead d) := by
  unfold State.fieldRead
  split
  · next hq _ =>
    have tenure := h.tenure (by simp [hq])
    refine tenure.stopOr ?_
    repeat' split
    · exact tenure.endVoidRefresh
    · exact tenure.readGood _ _
    · exact tenure.readBad _
  · exact h

theorem LineInv.fieldWritten {s : State} (h : LineInv s) : LineInv s.fieldWritten := by
  unfold State.fieldWritten
  dsimp only
  split
  · next x hq _ _ =>
    have sent := (h.tenure (by simp [hq])).sent x
    repeat' split
    · exact Tenure.stopEnds (sent.of_view (stopWritten_lineView _ _))
    · exact sent.requestWritten _ _ _
    · exact sent.seqIdle.toLineInv
    · exact sent.seqIdle.toLineInv
  · exact h

theorem LineInv.readBack {s : State} (h : LineInv s) (d : DataField) : LineInv (s.readBack d) := by
  unfold State.readBack
  split
  · next hq _ =>
    have tenure := h.tenure (by simp [hq])
    refine tenure.stopOr ?_
    repeat' split
    · exact tenure.verifiedGood _ _
    · exact tenure.verifiedBad _
    · exact tenure.seqIdle.toLineInv
    · exact tenure.seqIdle.toLineInv
  · exact h

/-! ### The step -/

/-- A command's outcome is a next state with LineInv. -/
def KeepsLine (o : Result) : Prop := ∃ t, o = .next t ∧ LineInv t

theorem LineInv.live {s : State} (h : LineInv s) {f : State → State} (hf : s.powered = true → LineInv (f s)) : KeepsLine (s.live f) := by
  refine ⟨_, rfl, ?_⟩
  split
  · next hp => exact hf hp
  · exact h

/-- A block completed at the intake, whatever its kind. -/
theorem LineInv.blockLive {s : State} (h : LineInv s) (k : Kind) (b : BlockBody) : KeepsLine (s.live (·.blockOf k b)) :=
  h.live (fun hp => h.completeBlock hp _)

/-- An effect on the sequencer or the line after the levels sampled at its command. -/
theorem LineInv.sampled {s : State} (h : LineInv s) (l : Lines) : LineInv (s.sample l) := h.of_view (sample_lineView s l)

theorem LineInv.exec {s : State} (h : LineInv s) (i : Instr) : KeepsLine (Machine.exec i s) := by
  unfold Machine.exec
  cases i with
  | powerOn l => exact ⟨_, rfl, LineInv.poweredOn s l⟩
  | powerLost => exact ⟨_, rfl, h.powerGone⟩
  | brstAsserted => exact h.live (fun _ => h.portReset)
  | portReset _ _ _ => exact h.live (fun _ => h.portReset)
  | intakeWrite w => exact h.live (fun hp => h.intakeWord hp w)
  | setInterruptEnables _ _ => exact h.live (fun _ => h.of_view rfl)
  | intakeRestart _ _ => exact h.live (fun _ => h.of_view rfl)
  | outletRead => exact h.live (fun hp => h.outletWord hp)
  | noticesRead => exact h.live (fun _ => h.of_view rfl)
  | read b => exact h.blockLive .read b
  | check b => exact h.blockLive .check b
  | write b => exact h.blockLive .write b
  | writeVerify b => exact h.blockLive .writeVerify b
  | update b => exact h.blockLive .update b
  | pin b => exact h.blockLive .pin b
  | unpin b => exact h.blockLive .unpin b
  | discard b => exact h.blockLive .discard b
  | cancel b => exact h.blockLive .cancel b
  | releaseCartridge b => exact h.blockLive .releaseCartridge b
  | fetchFault b => exact h.blockLive .fetchFault b
  | report b => exact h.blockLive .report b
  | configure b => exact h.blockLive .configure b
  | heldBlockProcessed => exact h.live (fun hp => h.tryHeld hp)
  | postWaitingFinished => exact h.live (fun _ => h.settle)
  | rdyRises => exact h.live (fun _ => (h.withPins _).whenConfigured (fun on => LineInv.settle ((h.withPins _).arrival on)))
  | rdyFalls cap l => exact h.live (fun _ => ((h.sampled l).withPins _).whenConfigured (fun _ => ((h.sampled l).withPins _).loseReady cap))
  | ulrRises =>
    refine h.live ?_
    intro _
    refine (h.withPins _).whenConfigured ?_
    intro _
    dsimp only
    split
    · exact LineInv.settle (h.withPins _).unloadAsked
    · exact h.withPins _
  | ulrFalls =>
    refine h.live ?_
    intro _
    refine (h.withPins _).whenConfigured ?_
    intro _
    dsimp only
    split
    · exact LineInv.settle (h.withPins _).unloadCancelled
    · exact h.withPins _
  | releaseTimerExpires => exact h.live (fun hp => (h.releaseTimeout hp).settle)
  | peerPresRises => exact h.live (fun _ => (h.withPins _).whenConfigured (fun _ => LineInv.settle (h.withPins _).peerArrives))
  | peerPresFalls cap => exact h.live (fun _ => (h.withPins _).whenConfigured (fun _ => LineInv.settle ((h.withPins _).peerLeaves cap)))
  | holdFalls cap =>
    refine h.live ?_
    intro _
    refine (h.withPins _).whenConfigured ?_
    intro _
    dsimp only
    split
    · exact LineInv.settle ((h.withPins _).of_view (holdEnds_lineView _ cap))
    · exact h.withPins _
  | holdRises =>
    refine h.live ?_
    intro _
    refine (h.withPins _).whenConfigured ?_
    intro _
    dsimp only
    split
    · exact LineInv.settle ((h.withPins _).of_view (holdBegins_lineView _))
    · exact h.withPins _
  | gapCompletes l => exact h.live (fun _ => (h.sampled l).whenConfigured (fun _ => (h.sampled l).gapCompletes))
  | window1Ends m => exact h.live (fun _ => (h.withPins _).windowEnds _ _ (fun _ ht ha => ht.endWindow1 ha m))
  | window2Ends m => exact h.live (fun _ => (h.withPins _).windowEnds _ _ (fun _ ht ha => ht.endWindow2 ha m))
  | tieWindowEnds m => exact h.live (fun _ => (h.withPins _).windowEnds _ _ (fun _ ht ha => ht.endTie ha m))
  | identityCheckEnds a b c l => exact h.live (fun _ => ((h.sampled l).checkEnds a b c).settle)
  | backoffTimerExpires => exact h.live (fun _ => h.backoffEnds)
  | yieldCall l =>
    exact h.live (fun _ => (h.sampled l).whenConfigured (fun _ => (h.sampled l).settleAccess.of_view (callIfUrgent_lineView _)))
  | lineHeld => exact h.live (fun _ => h.of_view (lineIsHeld_lineView s))
  | motionWaitTimeout l => exact h.live (fun _ => (h.sampled l).motionWaitOver.settle)
  | seekStrobe l => exact h.live (fun _ => (h.sampled l).motionOver.settle)
  | seekEnds e l => exact h.live (fun _ => ((h.sampled l).seekEnd e).settle)
  | seekTimeout l => exact h.live (fun _ => (h.sampled l).seekTimeout.settle)
  | recalibrateEnds e l => exact h.live (fun _ => ((h.sampled l).recalibrateEnd e).settle)
  | recalibrateTimeout l => exact h.live (fun _ => (h.sampled l).recalibrateTimeout.settle)
  | sectorVisit l => exact h.live (fun _ => (h.sampled l).slot)
  | headerRead hd l => exact h.live (fun _ => ((h.sampled l).header hd).settle)
  | dataFieldRead d l => exact h.live (fun _ => ((h.sampled l).fieldRead d).settle)
  | dataFieldWritten l => exact h.live (fun _ => (h.sampled l).fieldWritten.settle)
  | readBackEnds d l => exact h.live (fun _ => ((h.sampled l).readBack d).settle)
  | dmaJobStart => exact h.live (fun _ => h.of_view (startJob_lineView s))
  | dmaJobEnds ws => exact h.live (fun hp => h.jobEnds hp ws)
  | dmaNoAnswer n ws => exact h.live (fun hp => h.jobStops hp n ws)
  | peerSeekStrobe c l => exact h.live (fun _ => (h.sampled l).inPeerTenure ((h.sampled l).of_view (peerSeek_lineView _ _)))
  | peerRcalStrobe l => exact h.live (fun _ => (h.sampled l).inPeerTenure ((h.sampled l).of_view (peerRecalibrate_lineView _)))
  | peerSkfRises => exact h.live (fun _ => (h.withPins _).inPeerTenure ((h.withPins _).of_view (peerFault_lineView _)))
  | peerHselChange b => exact h.live (fun _ => h.inPeerTenure (h.of_view (mapMonitor_lineView _ _)))
  | peerHeader v ws l =>
    exact h.live (fun _ => LineInv.settle ((h.sampled l).inPeerTenure ((h.sampled l).of_view (peerHeader_lineView _ v ws))))
  | captureKindNone => exact h.live (fun _ => h.capturing (h.of_view (endUnreported_lineView s)))
  | captureCompletes c => exact h.live (fun _ => LineInv.settle (h.capturing (h.captureCompletes c)))
  | captureCutShort d => exact h.live (fun _ => LineInv.settle (h.of_view (cutShort_lineView s _)))
  | captureDataSyncNotFound d => exact h.live (fun _ => h.of_view (dataSync_capturing_lineView s d))

theorem LineInv.tick {s : State} (h : LineInv s) : LineInv s.tick := by
  unfold State.tick
  split
  · exact h.of_view (findHold_lineView _)
  · exact h

end Sys2Proof.Machine

namespace Sys2Proof.Proofs
open Sys2Proof.Machine

/-- Settles O9: the outcome of every command, and of a passing millisecond, is a next state with the bond. The cartridge state and the
access state outside a tenure move along the lemmas of `moveCart` and `rests`; inside a tenure the bond leaves the sequencer free. -/
theorem stepKeepsLine : Obligations.StepKeepsLine := by
  unfold Obligations.StepKeepsLine
  intro s t h e
  unfold step at e
  split at e
  · cases e
    exact h.tick
  · next c cs _ =>
    have waiting : LineInv { s with pending := cs } := h.of_view rfl
    obtain ⟨u, hu, kept⟩ := waiting.exec c
    rw [hu] at e
    cases e
    exact kept

end Sys2Proof.Proofs
end

section
/-! PROOF. The CRC, the classes of a header and of a data field, the label (O14, O15). -/

namespace Sys2Proof.Machine

/-! ### The CRC register as a word -/

/-- The register's motion with nothing presented: the shift, and the exclusive-or when a 1 is shifted out. -/
def crcStep (v : Word) : Word := if v.msb then (v <<< 1) ^^^ 0x1021#16 else v <<< 1

theorem crcStep_zero : crcStep 0 = 0 := by decide

/-- The shifted register ends in 0 and 1021h in 1, so only an empty register moves to 0. -/
theorem eq_zero_of_crcStep {v : Word} (h : crcStep v = 0) : v = 0 := by
  have bit (i : Nat) : (crcStep v).getLsbD i = false := by simp [h]
  unfold crcStep at h bit
  split at h
  · next hm => simpa [hm] using bit 0
  · next hm =>
    simp only [hm, if_false, Bool.false_eq_true] at bit
    apply BitVec.eq_of_getLsbD_eq
    intro i hi
    by_cases top : i = 15
    · simpa [BitVec.msb_eq_getLsbD_last, top] using hm
    · have moved := bit (i + 1)
      simp only [BitVec.getLsbD_shiftLeft] at moved
      simpa [show i + 1 < 16 by omega] using moved

theorem crcStep_iterate_eq_zero (n : Nat) (v : Word) : crcStep^[n] v = 0 ↔ v = 0 := by
  induction n generalizing v with
  | zero => rfl
  | succ n ih =>
    rw [Function.iterate_succ_apply, ih]
    exact ⟨eq_zero_of_crcStep, fun e => e ▸ crcStep_zero⟩

/-- The bit shifted out of a register of 16 bits. -/
theorem testBit_fifteen (r : Nat) : r.testBit 15 = decide (32768 ≤ r % 65536) := by
  rw [Nat.testBit_eq_decide_div_mod_eq]
  simp only [decide_eq_decide]
  omega

/-- One bit presented to the register: it moves as the exclusive-or with that bit in front would. -/
theorem crcShift_toNat (v : Word) (b : Bool) :
    crcShift v.toNat b = (if v.msb != b then (v <<< 1) ^^^ 0x1021#16 else v <<< 1).toNat := by
  have top : v.toNat.testBit 15 = v.msb := by rw [BitVec.msb_eq_getLsbD_last]; rfl
  have shifted : (v <<< 1).toNat = (2 * v.toNat) % 65536 := by
    rw [BitVec.toNat_shiftLeft, Nat.shiftLeft_eq, Nat.mul_comm]
  unfold crcShift
  rw [top]
  split
  · rw [BitVec.toNat_xor, shifted]
    rfl
  · exact shifted.symm

/-- A register and the word presented to it, both moved by a bit, differ as their difference moves. -/
theorem crcShift_xor (v c : Word) : crcShift v.toNat c.msb = (crcStep (v ^^^ c) ^^^ (c <<< 1)).toNat := by
  rw [crcShift_toNat, crcStep, BitVec.msb_xor]
  congr 1
  split
  · rw [BitVec.shiftLeft_xor_distrib]
    ext i
    simp only [BitVec.getElem_xor]
    cases (v <<< 1)[i] <;> cases (c <<< 1)[i] <;> simp
  · rw [BitVec.shiftLeft_xor_distrib]
    ext i
    simp

/-- The first `n` bits of a word presented to the register. -/
theorem crcBits_msbs (v c : Word) (n : Nat) :
    crcBits ((List.range n).map c.getMsbD) v.toNat = (crcStep^[n] (v ^^^ c) ^^^ (c <<< n)).toNat := by
  induction n with
  | zero =>
    have back : v ^^^ c ^^^ c = v := by rw [BitVec.xor_assoc, BitVec.xor_self, BitVec.xor_zero]
    simp [crcBits, back]
  | succ n ih =>
    have front : (c <<< n).msb = c.getMsbD n := by simp [BitVec.msb_shiftLeft]
    have back : crcStep^[n] (v ^^^ c) ^^^ (c <<< n) ^^^ (c <<< n) = crcStep^[n] (v ^^^ c) := by
      rw [BitVec.xor_assoc, BitVec.xor_self, BitVec.xor_zero]
    rw [List.range_succ, List.map_append, crcBits_append, ih, List.map_singleton, crcBits_cons, ← front, crcShift_xor, back,
      Function.iterate_succ_apply', BitVec.shiftLeft_add]
    rfl

/-- A whole word presented to the register leaves it 0 exactly when it is what the register held. -/
theorem crcBits_wordBits_eq_zero (v c : Word) : crcBits (wordBits c) v.toNat = 0 ↔ c = v := by
  have gone : c <<< 16 = 0#16 := BitVec.shiftLeft_eq_zero (Nat.le_refl _)
  unfold wordBits
  rw [crcBits_msbs, gone, BitVec.xor_zero]
  calc (crcStep^[16] (v ^^^ c)).toNat = 0 ↔ crcStep^[16] (v ^^^ c) = 0 := by rw [BitVec.toNat_eq]; rfl
    _ ↔ v ^^^ c = 0 := crcStep_iterate_eq_zero 16 _
    _ ↔ c = v := BitVec.xor_eq_zero_iff.trans eq_comm

theorem crcShift_lt (r : Nat) (b : Bool) : crcShift r b < 65536 := by
  unfold crcShift
  split
  · exact Nat.xor_lt_two_pow (n := 16) (Nat.mod_lt _ (by decide)) (by decide)
  · exact Nat.mod_lt _ (by decide)

theorem crcBits_lt (bs : List Bool) {r : Nat} (h : r < 65536) : crcBits bs r < 65536 := by
  induction bs generalizing r with
  | nil => exact h
  | cons b bs ih =>
    rw [crcBits_cons]
    exact ih (crcShift_lt r b)

/-- The CRC is what the register then holds. -/
theorem crc_toNat (ws : List Word) : (crc ws).toNat = crcBits (ws.flatMap wordBits) 0xFFFF :=
  Nat.mod_eq_of_lt (crcBits_lt _ (by decide))

/-- The residue of R5. -/
theorem crc_append_eq_zero (ws : List Word) (c : Word) : crc (ws ++ [c]) = 0 ↔ c = crc ws := by
  have run : (crc (ws ++ [c])).toNat = crcBits (wordBits c) (crc ws).toNat := by
    rw [crc_toNat, crc_toNat, List.flatMap_append, crcBits_append, List.flatMap_singleton]
  rw [← crcBits_wordBits_eq_zero (crc ws) c, ← run, BitVec.toNat_eq]
  rfl

theorem wordBits_eq (w : Word) : wordBits w = (List.range 16).map (fun i => w.getLsbD (15 - i)) := by
  unfold wordBits
  refine List.map_congr_left (fun i hi => ?_)
  rw [List.mem_range] at hi
  simp [BitVec.getMsbD, hi]

/-! ### Headers and data fields -/

theorem headerGood_iff (h : HeaderField) :
    headerGood h = true ↔ h.sync = true ∧ h.words.length = 5 ∧ h.words.getD 4 0 = crc (h.words.take 4) := by
  simp only [headerGood, Bool.and_eq_true, beq_iff_eq, and_assoc, eq_comm (a := crc _)]

theorem fieldWordsGood_iff (ws : List Word) :
    fieldWordsGood ws = true ↔ ws.length = 257 ∧ ws.getD 256 0 = crc (ws.take 256) := by
  simp only [fieldWordsGood, Config.sectorWords, Bool.and_eq_true, beq_iff_eq, eq_comm (a := crc _)]

/-- A good header's class by the table of R6. -/
theorem headerClass_of_good {h : HeaderField} (good : headerGood h = true) (a : SectorAddr) :
    headerClass h a =
      if headerAddr h = a then (if headerBadMark h then .matchingBad else .matching)
      else if (headerAddr h).cyl ≠ a.cyl then .wrongCylinder (headerAddr h).cyl else .wrongSector := by
  simp [headerClass, good]

/-- A good header of the cylinder sought with another head or sector is one of a wrong sector (R6; log entry 10). -/
theorem headerClass_wrongSector {h : HeaderField} (good : headerGood h = true) {a : SectorAddr} (cyl : (headerAddr h).cyl = a.cyl)
    (other : headerAddr h ≠ a) : headerClass h a = .wrongSector := by
  simp [headerClass_of_good good, cyl, other]

theorem headerClass_wrongCylinder {h : HeaderField} (good : headerGood h = true) {a : SectorAddr} (cyl : (headerAddr h).cyl ≠ a.cyl) :
    headerClass h a = .wrongCylinder (headerAddr h).cyl := by
  have other : headerAddr h ≠ a := fun e => cyl (congrArg SectorAddr.cyl e)
  simp [headerClass_of_good good, cyl, other]

theorem headerClass_matching {h : HeaderField} (good : headerGood h = true) {a : SectorAddr} (e : headerAddr h = a) :
    headerClass h a = if headerBadMark h then .matchingBad else .matching := by
  simp [headerClass_of_good good, e]

/-! ### The label -/

/-- A serial of 32 bits has its first word as the upper half. -/
theorem append_eq_ofNat (a b : Word) : a ++ b = BitVec.ofNat 32 (a.toNat * 65536 + b.toNat) := by
  apply BitVec.eq_of_toNat_eq
  have ha := a.isLt
  have hb := b.isLt
  rw [BitVec.toNat_append, Nat.shiftLeft_eq, Nat.mul_comm, ← Nat.two_pow_add_eq_or_of_lt hb, BitVec.toNat_ofNat]
  omega

end Sys2Proof.Machine

namespace Sys2Proof.Proofs
open Sys2Proof.Machine

/-- Settles O14: a word presented to the register leaves 0 exactly when it is the register's own, since the register's motion is linear and
one to one at 0; the classes by the cases of R6 and R7. -/
theorem crcResidue : Obligations.CrcResidue := by
  unfold Obligations.CrcResidue
  refine ⟨fun bs b r => ?_, fun _ => rfl, wordBits_eq, fun _ => rfl, crc_append_eq_zero, headerGood_iff, fun h a => ?_, fun d => ?_⟩
  · rw [crcBits_cons, crcShift, testBit_fifteen]
  · refine ⟨fun bad => by simp [headerClass, bad], fun good cyl => headerClass_wrongCylinder good cyl,
      fun good cyl _ sec => headerClass_wrongSector good cyl (fun e => sec (congrArg SectorAddr.sec e)),
      fun good cyl head => headerClass_wrongSector good cyl (fun e => head (congrArg SectorAddr.head e)),
      fun good cyl head sec => ?_⟩
    have e : headerAddr h = a := by
      cases a
      simp_all [headerAddr]
    exact headerClass_matching good e
  · refine ⟨fun quiet => by simp [fieldClass, quiet], fun sync whole => ?_, fun sync broken => ?_⟩
    · simp [fieldClass, sync, (fieldWordsGood_iff _).mpr whole]
    · simp [fieldClass, sync, mt (fieldWordsGood_iff _).mp broken]

/-- Settles O15, by the words of the label. -/
theorem labelVerdict : Obligations.LabelVerdict := by
  unfold Obligations.LabelVerdict
  intro ws
  constructor
  · rintro ⟨format, cylinders, heads, sectors⟩
    rw [← append_eq_ofNat]
    exact if_pos ⟨format, cylinders, heads, sectors⟩
  · intro differs
    refine if_neg ?_
    rintro ⟨format, cylinders, heads, sectors⟩
    rcases differs with e | e | e | e
    · exact e format
    · exact e cylinders
    · exact e heads
    · exact e sectors

end Sys2Proof.Proofs
end

section
/-! PROOF. Power and the rise of RDY (O10, O44). -/

namespace Sys2Proof.Machine

/-- Without power an effect does not take place (R20, R23; log entry 28). -/
theorem live_of_unpowered {s : State} (h : s.powered = false) (f : State → State) : s.live f = .next s := by simp [State.live, h]

theorem exec_of_unpowered {s : State} (h : s.powered = false) (c : Instr) (on : ∀ l, c ≠ .powerOn l) (lost : c ≠ .powerLost) :
    exec c s = .next s := by
  unfold exec
  cases c with
  | powerOn l => exact absurd rfl (on l)
  | powerLost => exact absurd rfl lost
  | _ => exact live_of_unpowered h _

/-- The edge of a line at a configured station with power: the level is taken, and the edge has its effect. -/
theorem live_whenConfigured {s : State} (power : s.powered = true) (p : Pins) (on : s.zones.configured = true) (f : State → State) :
    s.live (fun t => State.whenConfigured { t with pins := p } f) = .next (f { s with pins := p }) := by
  rw [live_of_powered power]
  exact congrArg Host.Outcome.next (if_pos on)

/-- The rise of RDY in ABSENT: the arm at cylinder 0, LOADING with the label reservation (R126, R154). -/
theorem arrival_of_absent {s : State} (h : s.cart.state = .absent) :
    s.arrival = { s with
      monitor := { s.monitor with arm := some 0 }
      cart := { s.cart with state := .loading }
      cache := { s.cache with labelReserved := true } } := if_pos h

end Sys2Proof.Machine

namespace Sys2Proof.Proofs
open Sys2Proof.Machine

/-- Settles O10: the two power commands by their definitions, every other one by its being an effect on a station with power. -/
theorem powerCommands : Obligations.PowerCommands := by
  unfold Obligations.PowerCommands
  exact ⟨fun _ _ => rfl, fun _ => rfl, fun _ c off on lost => exec_of_unpowered off c on lost⟩

/-- Settles O44: a still station that LOADING has come to takes up the access state alone. -/
theorem readyRises : Obligations.ReadyRises := by
  unfold Obligations.ReadyRises
  intro s still on absent
  have loading : Still { s with
      pins := s.pins.ready
      monitor := { s.monitor with arm := some 0 }
      cart := { s.cart with state := .loading }
      cache := { s.cache with labelReserved := true } } := ⟨still.powered, still.waits, still.finished, still.spent⟩
  calc exec .rdyRises s
    _ = .next (State.arrival { s with pins := s.pins.ready }).settle := live_whenConfigured still.powered s.pins.ready on _
    _ = .next (State.settle _) := congrArg (fun t : State => Host.Outcome.next t.settle) (arrival_of_absent absent)
    _ = _ := congrArg Host.Outcome.next (settle_of_still loading)

end Sys2Proof.Proofs
end

section
/-! PROOF. What the taking up of work leaves of the held requests and of the notices, and the drain (R157); the edges of ULR (O46). -/

namespace Sys2Proof.Machine

/-! ### The way of the held requests -/

/-- The way of the held requests and of the notices between two moments at which no block is accepted: a raised notice stays, and a request
that is still held stands as it did, or its outcome has been fixed (R54, R176). -/
structure Onward (s t : State) : Prop where
  notices : ∀ i, s.port.notices.getLsbD i = true → t.port.notices.getLsbD i = true
  ids     : (t.queue.held.map (·.id)).Sublist (s.queue.held.map (·.id))
  held    : ∀ r ∈ t.queue.held, ∃ q ∈ s.queue.held,
    q.id = r.id ∧ q.kind = r.kind ∧ (r.state = q.state ∨ r.state = .delivering ∨ r.state = .finished)

theorem Onward.of_eq {s t : State} (hn : t.port.notices = s.port.notices) (hq : t.queue.held = s.queue.held) : Onward s t :=
  ⟨fun _ hi => hn ▸ hi, hq ▸ List.Sublist.refl _, fun r hr => ⟨r, hq ▸ hr, rfl, rfl, .inl rfl⟩⟩

theorem Onward.refl (s : State) : Onward s s := .of_eq rfl rfl

theorem Onward.trans {s t u : State} (h : Onward s t) (g : Onward t u) : Onward s u := by
  refine ⟨fun i hi => g.notices i (h.notices i hi), g.ids.trans h.ids, fun r hr => ?_⟩
  obtain ⟨q, hq, id₁, kind₁, state₁⟩ := g.held r hr
  obtain ⟨p, hp, id₂, kind₂, state₂⟩ := h.held q hq
  refine ⟨p, hp, id₂.trans id₁, kind₂.trans kind₁, ?_⟩
  rcases state₁ with e | e
  · rwa [e]
  · exact .inr e

/-- Steps that follow and leave the held requests and the notices. -/
theorem Onward.same {s t u : State} (h : Onward s t) (hn : u.port.notices = t.port.notices) (hq : u.queue.held = t.queue.held) :
    Onward s u := h.trans (.of_eq hn hq)

/-- A run of steps. -/
theorem Onward.foldl {α : Type} {g : State → α → State} (h : ∀ t x, Onward t (g t x)) (l : List α) (s : State) : Onward s (l.foldl g s) := by
  induction l generalizing s with
  | nil => exact .refl s
  | cons x xs ih => exact (h s x).trans (ih _)

/-- Steps that leave the held requests and the notices. -/
theorem Onward.of_port {s t : State} (hp : t.port = s.port := by simp) (hq : t.queue = s.queue := by simp) : Onward s t :=
  .of_eq (by rw [hp]) (by rw [hq])

/-- A request changed in other fields than these, or its outcome fixed. -/
theorem onward_modify (s : State) (id : Nat) {g : Request → Request} (hid : ∀ q, (g q).id = q.id) (hk : ∀ q, (g q).kind = q.kind)
    (hs : ∀ q, (g q).state = q.state ∨ (g q).state = .delivering ∨ (g q).state = .finished) : Onward s (s.modify id g) := by
  refine ⟨fun _ hi => hi, by rw [modify_ids s id g hid], fun r hr => ?_⟩
  rw [modify_held] at hr
  obtain ⟨q, hq, rfl⟩ := List.mem_map.mp hr
  refine ⟨q, hq, ?_⟩
  split
  · exact ⟨(hid q).symm, (hk q).symm, hs q⟩
  · exact ⟨rfl, rfl, .inl rfl⟩

theorem markDone_kind (r : Request) (i : Nat) (x : Source) : (r.markDone i x).kind = r.kind := by
  unfold Request.markDone; split <;> rfl

theorem markDone_state (r : Request) (i : Nat) (x : Source) : (r.markDone i x).state = r.state := by
  unfold Request.markDone; split <;> rfl

theorem onward_raise (s : State) (n : Notice) : Onward s (s.raise n) := by
  refine ⟨fun i hi => ?_, by simp, fun r hr => ⟨r, by simpa using hr, rfl, rfl, .inl rfl⟩⟩
  unfold State.raise
  split
  · simp [setMark, hi]
  · exact hi

theorem onward_countLate (s : State) : Onward s s.countLate := by
  refine ⟨fun i hi => ?_, by simp, fun r hr => ⟨r, by simpa using hr, rfl, rfl, .inl rfl⟩⟩
  unfold State.countLate State.raiseIf State.raise
  dsimp only
  repeat' split
  · simp [setMark, hi]
  · exact hi
  · exact hi

/-! ### The end of a request -/

/-- The free words that a failure draws change nothing but their count. -/
theorem failureWords_state (s : State) (r : Request) (o : ReqOutcome) :
    (s.failureWords r o).2.2 = s ∨ (s.failureWords r o).2.2 = { s with freeDraws := s.freeDraws + 2 } := by
  unfold State.failureWords State.drawWord
  dsimp only
  repeat' split
  · exact .inl rfl
  · exact .inr rfl
  · exact .inl rfl
  · exact .inl rfl

@[simp] theorem failureWords_queue (s : State) (r : Request) (o : ReqOutcome) : (s.failureWords r o).2.2.queue = s.queue := by
  rcases failureWords_state s r o with e | e <;> rw [e]

@[simp] theorem failureWords_port (s : State) (r : Request) (o : ReqOutcome) : (s.failureWords r o).2.2.port = s.port := by
  rcases failureWords_state s r o with e | e <;> rw [e]

/-- A request that enters FINISHED with the outcome. -/
def Request.finishedWith (r : Request) (o : ReqOutcome) : Request :=
  { r with state := .finished, reserved := 0, promised := [], outcome := some o }

/-- The station right after a held request has entered FINISHED, the LATE counter apart. -/
def State.finished (s : State) (r : Request) (o : ReqOutcome) : State :=
  let words := s.failureWords r o
  let u := (((words.2.2.dropJobs r.id).dropWaits r.id).releaseOwned r.id).modify r.id (·.finishedWith o)
  { u with queue := { u.queue with finished := u.queue.finished ++ [(r.id, r.record s.clock o words.1 words.2.1)] } }

theorem request_id {s : State} {id : Nat} {r : Request} (h : s.request id = some r) : r.id = id := by
  simpa using List.find?_some h

/-- A request that is held enters FINISHED, once. -/
theorem finish_cases (s : State) (id : Nat) (o : ReqOutcome) :
    s.finish id o = s
      ∨ ∃ r, s.request id = some r ∧ (s.finish id o = s.finished r o ∨ s.finish id o = (s.finished r o).countLate) := by
  unfold State.finish
  dsimp only
  split
  · exact .inl rfl
  · next r hr =>
    obtain rfl := request_id hr
    split
    · exact .inl rfl
    · refine .inr ⟨r, hr, ?_⟩
      split
      · exact .inr rfl
      · exact .inl rfl

theorem finish_of_open {s : State} {id : Nat} {r : Request} (hr : s.request id = some r) (open_ : r.state ≠ .finished) (o : ReqOutcome) :
    s.finish id o = s.finished r o ∨ s.finish id o = (s.finished r o).countLate := by
  obtain rfl := request_id hr
  unfold State.finish
  simp only [hr, open_, if_false]
  split
  · exact .inr rfl
  · exact .inl rfl

theorem finished_held (s : State) (r : Request) (o : ReqOutcome) :
    (s.finished r o).queue.held = s.queue.held.map (fun q => if q.id == r.id then q.finishedWith o else q) := by
  simp [State.finished, modify_held]

@[simp] theorem countLate_held (s : State) : s.countLate.queue.held = s.queue.held := by simp

theorem onward_finished (s : State) (r : Request) (o : ReqOutcome) : Onward s (s.finished r o) := by
  have dropped : Onward s ((((s.failureWords r o).2.2.dropJobs r.id).dropWaits r.id).releaseOwned r.id) :=
    .of_eq (by simp [State.dropJobs, State.dropWaits]) (by simp)
  exact (dropped.trans (onward_modify _ r.id (g := (·.finishedWith o)) (fun _ => rfl) (fun _ => rfl)
    (fun _ => .inr (.inr rfl)))).same rfl rfl

theorem onward_finish (s : State) (id : Nat) (o : ReqOutcome) : Onward s (s.finish id o) := by
  rcases finish_cases s id o with e | ⟨r, -, e | e⟩
  all_goals rw [e]
  · exact .refl s
  · exact onward_finished s r o
  · exact (onward_finished s r o).trans (onward_countLate _)

/-- After its end a request that was not FINISHED is. -/
theorem finish_decides {s : State} {id : Nat} {r : Request} (hr : s.request id = some r) (open_ : r.state ≠ .finished) (o : ReqOutcome) :
    ∀ q ∈ (s.finish id o).queue.held, q.id = id → q.state = .finished := by
  have held : (s.finish id o).queue.held = s.queue.held.map (fun q => if q.id == r.id then q.finishedWith o else q) := by
    rcases finish_of_open hr open_ o with e | e
    · rw [e, finished_held]
    · rw [e, countLate_held, finished_held]
  obtain rfl := request_id hr
  intro q hq hid
  rw [held] at hq
  obtain ⟨p, -, rfl⟩ := List.mem_map.mp hq
  split at hid
  · next e => simp [e, Request.finishedWith]
  · next e => exact absurd hid (by simpa using e)

/-- A held request changed is found changed. -/
theorem request_modify {s : State} {id : Nat} {r : Request} (hr : s.request id = some r) {g : Request → Request} (hg : ∀ q, (g q).id = q.id) :
    (s.modify id g).request id = some (g r) := by
  have same : (fun q : Request => q.id == id) ∘ (fun q => if q.id == id then g q else q) = fun q => q.id == id := by
    funext q
    simp only [Function.comp]
    split <;> simp_all
  have at_id := request_id hr
  simp only [State.request] at hr
  simp only [State.request, modify_held, List.find?_map, same, hr, Option.map_some, at_id, beq_self_eq_true, if_true]

/-- A request whose outcome is fixed. -/
def Request.fixed (r : Request) (o : ReqOutcome) (a : Option SectorAddr) (flags : CondFlags) : Request :=
  { r with outcome := some o, failAt := a, flags := flags }

/-- The sector of a delivery that the memory refused, which a success then reports (R100). -/
def Request.refusal (r : Request) (o : ReqOutcome) : Option Nat := if o.isSuccess then r.refusedAt else none

/-- The outcome that a request's end fixes: a success whose delivery the memory has refused is none (R100). -/
def Request.endOutcome (r : Request) (o : ReqOutcome) : ReqOutcome := if (r.refusal o).isSome then .memoryError else o

/-- The sector that a request's end reports. -/
def Request.endAddr (r : Request) (o : ReqOutcome) (a : Option SectorAddr) : Option SectorAddr :=
  match r.refusal o with
  | some i => some (sectorAt r.addr.cyl i)
  | none => a

/-- The held request with its outcome fixed. -/
def State.fixOutcome (s : State) (r : Request) (o : ReqOutcome) (a : Option SectorAddr) : State :=
  s.modify r.id (·.fixed (r.endOutcome o) (r.endAddr o a)
    (if r.kind = .update || r.chain.isSome then s.unit.flags else CondFlags.clear))

/-- A held request whose outcome is fixed awaits its deliveries, or enters FINISHED (R54). -/
theorem endRequest_eq {s : State} {id : Nat} {r : Request} (hr : s.request id = some r) (o : ReqOutcome) (a : Option SectorAddr) :
    s.endRequest id o a =
      if (s.fixOutcome r o a).delivering id then
        (((s.fixOutcome r o a).dropWaits id).releaseOwned id).modify id (fun q => { q with state := .delivering })
      else (s.fixOutcome r o a).finish id (r.endOutcome o) := by
  obtain rfl := request_id hr
  unfold State.endRequest
  simp only [hr]
  rfl

theorem fixOutcome_onward (s : State) (r : Request) (o : ReqOutcome) (a : Option SectorAddr) : Onward s (s.fixOutcome r o a) :=
  onward_modify s r.id (fun _ => rfl) (fun _ => rfl) (fun _ => .inl rfl)

theorem endRequest_onward (s : State) (id : Nat) (o : ReqOutcome) (a : Option SectorAddr) : Onward s (s.endRequest id o a) := by
  cases hr : s.request id with
  | none =>
    simp only [State.endRequest, hr]
    exact .refl s
  | some r =>
    have fixed := fixOutcome_onward s r o a
    rw [endRequest_eq hr]
    split
    · have dropped := fixed.same (u := ((s.fixOutcome r o a).dropWaits id).releaseOwned id) (by simp [State.dropWaits]) (by simp)
      exact dropped.trans (onward_modify _ id (fun _ => rfl) (fun _ => rfl) (fun _ => .inr (.inl rfl)))
    · exact fixed.trans (onward_finish _ _ _)

/-- After its end a request that was not FINISHED awaits its deliveries, or is. -/
theorem endRequest_decides {s : State} {id : Nat} {r : Request} (hr : s.request id = some r) (open_ : r.state ≠ .finished) (o : ReqOutcome)
    (a : Option SectorAddr) :
    ∀ q ∈ (s.endRequest id o a).queue.held, q.id = id → q.state = .delivering ∨ q.state = .finished := by
  obtain rfl := request_id hr
  rw [endRequest_eq hr]
  intro q hq hid
  split at hq
  · left
    rw [modify_held] at hq
    obtain ⟨p, -, rfl⟩ := List.mem_map.mp hq
    split at hid
    · next e => simp [e]
    · next e => exact absurd hid (by simpa using e)
  · have fixed : (s.fixOutcome r o a).request r.id = some (r.fixed _ _ _) := request_modify hr (fun _ => rfl)
    exact .inr (finish_decides fixed open_ _ q hq hid)

/-! ### The consultation of the cache, the posting -/

theorem hit_onward (s : State) (r : Request) (idx f : Nat) : Onward s (s.hit r idx f) := by
  have marked : Onward s (s.modify r.id (fun q => (q.markDone idx .cache).useReserved)) :=
    onward_modify s r.id (fun q => markDone_id q idx .cache) (fun q => markDone_kind q idx .cache) (fun q => .inl (markDone_state q idx .cache))
  unfold State.hit
  dsimp only
  split
  · exact marked.same rfl rfl
  · refine marked.same ?_ (by simp)
    unfold State.queueDelivery
    split <;> rfl

theorem takeHits_onward (s : State) (r : Request) : Onward s (s.takeHits r) := by
  refine Onward.foldl (fun t idx => ?_) _ s
  split
  · exact hit_onward t r idx _
  · exact .refl t

theorem consult_onward (s : State) (id : Nat) : Onward s (s.consult id) := by
  unfold State.consult
  dsimp only
  repeat' split
  · exact .refl s
  · exact (takeHits_onward s _).trans (endRequest_onward _ _ _ _)
  · exact takeHits_onward s _
  · exact .refl s

theorem consultAll_onward (s : State) : Onward s s.consultAll := Onward.foldl consult_onward _ s

/-- A record posted takes its request from the held ones. -/
theorem postRecord_onward (s : State) (id : Nat) (c : Completion) : Onward s (s.postRecord id c) := by
  unfold State.postRecord
  refine Onward.trans ?_ (Onward.foldl consult_onward _ _)
  exact ⟨fun _ hi => hi, List.Sublist.map _ List.filter_sublist, fun r hr => ⟨r, List.mem_of_mem_filter hr, rfl, rfl, .inl rfl⟩⟩

theorem postUpTo_onward (s : State) (n : Nat) : Onward s (s.postUpTo n) := by
  induction n generalizing s with
  | zero => exact .refl s
  | succ n ih =>
    unfold State.postUpTo
    repeat' split
    · exact .refl s
    · exact (postRecord_onward s _ _).trans (ih _)
    · exact .refl s

/-! ### The frames taken up -/

theorem giveFrame_onward (s : State) (w : AllocWait) (f : Nat) : Onward s (s.giveFrame w f) := by
  have used (t : State) (id : Nat) : Onward t (t.modify id Request.useReserved) :=
    onward_modify t id (fun _ => rfl) (fun _ => rfl) (fun _ => .inl rfl)
  unfold State.giveFrame
  repeat' split
  · exact .of_eq rfl rfl
  · exact .refl s
  · exact (Onward.of_eq rfl rfl).trans ((used _ _).same rfl rfl)
  · refine Onward.trans ?_ (used _ _)
    exact .of_eq rfl rfl

theorem allocate_onward {s t : State} {f : Nat} (h : s.allocate = some (f, t)) : Onward s t := by
  unfold State.allocate at h
  split at h
  · cases h
    exact .refl s
  · obtain ⟨g, -, e⟩ := Option.map_eq_some_iff.mp h
    cases e
    exact .of_eq (by simp) (by simp)

theorem serveList_onward (s : State) (l : List AllocWait) : Onward s (s.serveList l) := by
  induction l generalizing s with
  | nil => exact .of_eq rfl rfl
  | cons w ws ih =>
    unfold State.serveList
    split
    · exact .of_eq rfl rfl
    · next h => exact ((allocate_onward h).trans (giveFrame_onward _ _ _)).trans (ih _)

theorem tidy_onward (s : State) : Onward s s.tidy := (Onward.of_eq (by simp) (by simp)).trans (serveList_onward s.sweep _)

theorem settle_onward (s : State) : Onward s s.settle := by
  have taken : Onward s s.tidy.post := (tidy_onward s).trans (postUpTo_onward _ _)
  exact taken.same (by simp [State.settle]) (by simp [State.settle])

/-! ### The drain -/

/-- A drive request that a drain ends (R157). -/
def Request.awaits (r : Request) : Prop := r.kind.isDrive = true ∧ (r.state = .staging ∨ r.state = .waiting)

/-- The held drive requests in STAGING or WAITING are among these ids. -/
def State.AwaitIn (s : State) (ids : List Nat) : Prop := ∀ r ∈ s.queue.held, r.awaits → r.id ∈ ids

/-- No request comes to wait on the way. -/
theorem Onward.awaitIn {s t : State} (h : Onward s t) {ids : List Nat} (w : s.AwaitIn ids) : t.AwaitIn ids := by
  rintro r hr ⟨drive, state⟩
  obtain ⟨q, hq, hid, hk, hs⟩ := h.held r hr
  rcases hs with e | e | e
  · exact hid ▸ w q hq ⟨hk ▸ drive, e ▸ state⟩
  · simp [e] at state
  · simp [e] at state

/-- What a drain clears of a request before its end or its mark. -/
theorem cleared_onward (s : State) (id : Nat) {g : Request → Request} (hid : ∀ q, (g q).id = q.id) (hk : ∀ q, (g q).kind = q.kind)
    (hs : ∀ q, (g q).state = q.state) : Onward s ((((s.dropStaging id).dropWaits id).releaseOwned id).modify id g) :=
  Onward.trans (.of_eq (by simp [State.dropStaging, State.dropWaits]) (by simp)) (onward_modify _ id hid hk (fun q => .inl (hs q)))

theorem drainOne_onward (s : State) (o : ReqOutcome) (id : Nat) : Onward s (s.drainOne o id) := by
  have cleared := cleared_onward s id (g := fun q => { q with reserved := 0 }) (fun _ => rfl) (fun _ => rfl) (fun _ => rfl)
  unfold State.drainOne
  repeat' split
  · exact .refl s
  · exact cleared.trans (endRequest_onward _ _ _ _)
  · exact .refl s
  · exact cleared.trans (endRequest_onward _ _ _ _)
  · exact .refl s
  · exact cleared_onward s id (fun _ => rfl) (fun _ => rfl) (fun _ => rfl)
  all_goals exact .refl s

/-- A held request is found by its id. -/
theorem request_of_mem {s : State} (unlike : (s.queue.held.map (·.id)).Nodup) {r : Request} (hr : r ∈ s.queue.held) :
    s.request r.id = some r := by
  obtain ⟨q, hq⟩ : ∃ q, s.request r.id = some q := by
    simp only [State.request, ← Option.isSome_iff_exists, List.find?_isSome]
    exact ⟨r, hr, by simp⟩
  have e : q.id = r.id := request_id hq
  rw [hq, List.inj_on_of_nodup_map unlike (List.mem_of_find?_eq_some hq) hr e]

/-- The drain of one id leaves no request of it in STAGING or WAITING. -/
theorem drainOne_awaitIn {s : State} (unlike : (s.queue.held.map (·.id)).Nodup) {o : ReqOutcome} {id : Nat} {ids : List Nat}
    (w : s.AwaitIn (id :: ids)) : (s.drainOne o id).AwaitIn ids := by
  intro q hq awaits
  have onward := drainOne_onward s o id
  rcases List.mem_cons.mp (onward.awaitIn w q hq awaits) with hid | rest
  · exfalso
    obtain ⟨p, hp, pid, pkind, pstate⟩ := onward.held q hq
    obtain ⟨drive, state⟩ := awaits
    have stands : q.state = p.state := by
      rcases pstate with e | e | e
      · exact e
      · simp [e] at state
      · simp [e] at state
    have found : s.request id = some p := by
      rw [← hid, ← pid]
      exact request_of_mem unlike hp
    have ended : s.drainOne o id =
        ((((s.dropStaging id).dropWaits id).releaseOwned id).modify id (fun q => { q with reserved := 0 })).endRequest id o none := by
      rcases state with e | e <;> simp [State.drainOne, found, ← stands, e, pkind, drive]
    rw [ended] at hq
    have held : (((s.dropStaging id).dropWaits id).releaseOwned id).request id = some p := by simpa [State.request] using found
    have decided := endRequest_decides (request_modify held (g := fun q => { q with reserved := 0 }) (fun _ => rfl))
      (by rcases state with e | e <;> simp [← stands, e]) o none q hq hid
    rcases decided with e | e <;> simp [e] at state
  · exact rest

/-- After a drain no drive request is in STAGING or WAITING (R157). -/
theorem drain_awaitIn {s : State} (unlike : (s.queue.held.map (·.id)).Nodup) (o : ReqOutcome) : (s.drain o).AwaitIn [] := by
  have go : ∀ (ids : List Nat) (t : State), (t.queue.held.map (·.id)).Nodup → t.AwaitIn ids →
      (ids.foldl (fun u id => u.drainOne o id) t).AwaitIn [] := by
    intro ids
    induction ids with
    | nil => exact fun t _ w => w
    | cons id ids ih =>
      intro t unlike w
      exact ih _ ((drainOne_onward t o id).ids.nodup unlike) (drainOne_awaitIn unlike w)
  exact go _ s.consultAll ((consultAll_onward s).ids.nodup unlike) (fun r hr _ => List.mem_map_of_mem hr)

theorem drain_onward (s : State) (o : ReqOutcome) : Onward s (s.drain o) :=
  ((consultAll_onward s).trans (Onward.foldl (fun t id => drainOne_onward t o id) _ _)).same rfl rfl

/-! ### The edges of ULR -/

/-- LEAVING entered at a configured station (R159). -/
theorem enterLeaving_of_configured {s : State} (on : s.zones.configured = true) (r : Recorded) :
    s.enterLeaving r = { s with
      cart := { s.cart with state := .leaving, recorded := some r, timer := some (s.clock + 30000) }
      port := { s.port with notices := setMark s.port.notices .cartridgeLeaving } } := by
  have started : (State.startTimer { s with cart := { s.cart with state := .leaving, recorded := some r } }).zones.configured = true := on
  exact raise_of_configured started _

/-- A rise of ULR with RDY asserted in LOADING, MOUNTED or UNUSABLE (R159). -/
theorem unloadAsked_of_recorded {s : State} {r : Recorded} (h : s.cart.state = r.state) : s.unloadAsked = s.enterLeaving r := by
  unfold State.unloadAsked
  cases r <;> rw [h] <;> rfl

/-- A fall of ULR with RDY asserted in LEAVING or RELEASED (R162). -/
theorem unloadCancelled_of_recorded {s : State} {r : Recorded} (h : s.cart.state = .leaving ∨ s.cart.state = .released)
    (hr : s.cart.recorded = some r) : s.unloadCancelled = s.cancelUnload r := by
  unfold State.unloadCancelled
  rw [hr]
  rcases h with e | e <;> rw [e]

/-- The station right after the timer is stopped and the recorded state entered, its announcement apart (R162). -/
def State.backIn (s : State) (r : Recorded) : State :=
  { s with cart := { s.cart with timer := none, recorded := none, state := r.state }
           lines := { s.lines with crel := false } }

theorem cancelUnload_mounted {s : State} (on : s.zones.configured = true) :
    s.cancelUnload .mounted = { s.backIn .mounted with port := { s.port with notices := setMark s.port.notices .cartridgeReady } } :=
  raise_of_configured (s := s.backIn .mounted) on _

/-- LOADING, and UNUSABLE with no rejection owed, are entered without announcement (R162). -/
theorem cancelUnload_silent {s : State} {r : Recorded} (h : r = .loading ∨ (r = .unusable ∧ s.cart.rejectionOwed = false)) :
    s.cancelUnload r = s.backIn r := by
  rcases h with rfl | ⟨rfl, owed⟩
  · rfl
  · exact if_neg (by simp [owed])

theorem cancelUnload_owed {s : State} (owed : s.cart.rejectionOwed = true) :
    s.cancelUnload .unusable = State.enterUnusable { s.backIn .unusable with
      cart := { (s.backIn .unusable).cart with rejectionOwed := false } } := by
  exact if_pos owed

theorem settleAccess_crel (s : State) : s.settleAccess.lines.crel = s.lines.crel := by
  rcases settleAccess_cases s with e | ⟨-, -, e⟩ | ⟨-, -, e⟩ <;> rw [e]

theorem settle_crel (s : State) : s.settle.lines.crel = s.lines.crel := by
  rw [State.settle, settleAccess_crel]
  simp

theorem settle_enterUnusable_awaitIn {s : State} (unlike : (s.queue.held.map (·.id)).Nodup) : s.enterUnusable.settle.AwaitIn [] :=
  (settle_onward _).awaitIn (drain_awaitIn (by simpa using unlike) _)

/-- CARTRIDGE-REJECTED stands after UNUSABLE has been entered, whatever the drain ends. -/
theorem settle_enterUnusable_notices {s : State} (on : s.zones.configured = true) :
    s.enterUnusable.settle.port.notices.getLsbD 2 = true := by
  refine ((drain_onward _ _).trans (settle_onward _)).notices 2 ?_
  rw [raise_of_configured (s := { s with cart := { s.cart with state := .unusable } }) on]
  simp [setMark, Notice.bit]

end Sys2Proof.Machine

namespace Sys2Proof.Proofs
open Sys2Proof.Machine

/-- Settles O46: the edge's effect by the recorded state; with a rejection owed, what the drain of UNUSABLE leaves. -/
theorem unloadEdges : Obligations.UnloadEdges := by
  unfold Obligations.UnloadEdges
  intro s still on
  have power := still.powered
  have rises (ready : s.pins.rdy = true) : exec .ulrRises s = .next (State.unloadAsked { s with pins := { s.pins with ulr := true } }).settle := by
    refine (live_whenConfigured power _ on _).trans (congrArg Host.Outcome.next (if_pos ready))
  have falls (ready : s.pins.rdy = true) :
      exec .ulrFalls s = .next (State.unloadCancelled { s with pins := { s.pins with ulr := false } }).settle := by
    refine (live_whenConfigured power _ on _).trans (congrArg Host.Outcome.next (if_pos ready))
  refine ⟨fun r ready hc => ?_, fun ready hc hr => ?_, fun r ready hc hr silent => ?_, fun ids ready hc hr owed => ?_, fun idle => ?_⟩
  · rw [rises ready, unloadAsked_of_recorded (s := { s with pins := { s.pins with ulr := true } }) hc,
      enterLeaving_of_configured (s := { s with pins := { s.pins with ulr := true } }) on]
    exact congrArg Host.Outcome.next (settle_of_still ⟨power, still.waits, still.finished, still.spent⟩)
  · rw [falls ready, unloadCancelled_of_recorded (s := { s with pins := { s.pins with ulr := false } }) hc hr,
      cancelUnload_mounted (s := { s with pins := { s.pins with ulr := false } }) on]
    exact congrArg Host.Outcome.next (settle_of_still ⟨power, still.waits, still.finished, still.spent⟩)
  · rw [falls ready, unloadCancelled_of_recorded (s := { s with pins := { s.pins with ulr := false } }) hc hr,
      cancelUnload_silent (s := { s with pins := { s.pins with ulr := false } }) silent]
    exact congrArg Host.Outcome.next (settle_of_still ⟨power, still.waits, still.finished, still.spent⟩)
  · rw [falls ready, unloadCancelled_of_recorded (s := { s with pins := { s.pins with ulr := false } }) hc hr,
      cancelUnload_owed (s := { s with pins := { s.pins with ulr := false } }) owed]
    generalize hu : ({ State.backIn { s with pins := { s.pins with ulr := false } } .unusable with cart := _ } : State) = u
    have held : u.queue = s.queue := hu ▸ rfl
    have cart : u.cart = { s.cart with state := .unusable, recorded := none, timer := none, rejectionOwed := false } := hu ▸ rfl
    refine ⟨_, rfl, ?_, settle_enterUnusable_notices (hu ▸ on), ?_, ?_, fun r hr drive => ?_, ?_, ?_, ?_⟩
    · simp [State.enterUnusable, cart]
    · rw [settle_crel, State.enterUnusable_lines, ← hu]
      rfl
    · simp [← hu, State.backIn]
    · have gone := fun e => settle_enterUnusable_awaitIn (held ▸ ids.unlike) r hr ⟨drive, e⟩
      exact ⟨fun e => by simpa using gone (.inl e), fun e => by simpa using gone (.inr e)⟩
    all_goals simp [← hu, State.backIn]
  · have stays (u v : State) (h : u.pins.rdy = false) : (if u.pins.rdy then v else u) = u := if_neg (by simp [h])
    exact ⟨(live_whenConfigured power _ on (fun u => if u.pins.rdy then u.unloadAsked.settle else u)).trans
        (congrArg Host.Outcome.next (stays _ _ idle)),
      (live_whenConfigured power _ on (fun u => if u.pins.rdy then u.unloadCancelled.settle else u)).trans
        (congrArg Host.Outcome.next (stays _ _ idle))⟩

end Sys2Proof.Proofs
end

section
/-! PROOF. The frames of the cache, operation by operation: what each leaves of the frame records, the words, the LRU order and the refresh
set (R105, R108, R116, R118, R119). -/

namespace Sys2Proof.Machine

/-! ### Frame records -/

/-- The record of one frame of a list replaced. -/
theorem frame_of_set {s t : State} {f : Nat} {fr : Frame} (h : t.cache.frames = s.cache.frames.set f fr) (n : Nat) :
    t.frame n = if n = f ∧ f < s.cache.frames.length then fr else s.frame n := by
  unfold State.frame
  rw [h, List.getD_eq_getElem?_getD, List.getD_eq_getElem?_getD, List.getElem?_set]
  split
  · next e =>
    subst e
    split
    · simp_all
    · next out => simp [out]
  · next ne => rw [if_neg (by tauto)]

/-- Past the end of the frames every frame reads FREE. -/
theorem frame_of_out {s : State} {f : Nat} (h : s.cache.frames.length ≤ f) : s.frame f = Frame.free := by
  simp [State.frame, List.getElem?_eq_none h]

/-- The frame of a state that is not FREE is one of the frames. -/
theorem lt_of_frame {s : State} {f : Nat} (h : (s.frame f).state ≠ .free) : f < s.cache.frames.length := by
  by_contra out
  exact h (by rw [frame_of_out (Nat.le_of_not_lt out)]; rfl)

/-- A directory frame is one of the frames, and the directory holds it. -/
theorem dirFrame_spec {s : State} {a : SectorAddr} {f : Nat} (h : s.dirFrame a = some f) :
    f < s.cache.frames.length ∧ (s.frame f).inDir = true ∧ (s.frame f).addr = some a := by
  obtain ⟨hf, holds, -⟩ := List.findIdx?_eq_some_iff_getElem.mp h
  have here : s.frame f = s.cache.frames[f] := by simp [State.frame, hf]
  simp only [Frame.holds, Bool.and_eq_true, beq_iff_eq] at holds
  rw [here]
  exact ⟨hf, holds⟩

/-! ### A frame leaves: FREE, or retired -/

/-- The cache with frame `f` out of the LRU order and the refresh set, its record replaced (R108, R116, R122). -/
def Cache.without (c : Cache) (f : Nat) (fr : Frame) : Cache :=
  { c with frames := c.frames.set f fr, lru := c.lru.filter (· != f), refresh := c.refresh.filter (·.frame != f) }

theorem dropHeld_eq (s : State) (f : Nat) : s.dropHeld f = { s with monitor := (s.dropHeld f).monitor } := by
  unfold State.dropHeld
  split <;> rfl

theorem dropHeld_of_other {s : State} {f : Nat} (h : s.monitor.heldFor ≠ some f) : s.dropHeld f = s := if_neg h

theorem freeFrame_eq (s : State) (f : Nat) :
    s.freeFrame f = { s with cache := s.cache.without f Frame.free, monitor := (s.dropHeld f).monitor } := by
  unfold State.freeFrame
  rw [dropHeld_eq]
  rfl

theorem retire_eq (s : State) (f : Nat) :
    s.retire f = { s with cache := s.cache.without f (s.frame f).retired, monitor := (s.dropHeld f).monitor } := by
  unfold State.retire
  rw [dropHeld_eq]
  rfl

/-- The record that a released frame has then: FREE, or retired while a delivery reads it (R116). -/
def State.releasedRecord (s : State) (f : Nat) : Frame := if s.hold f = 0 then Frame.free else (s.frame f).retired

theorem release_eq (s : State) (f : Nat) :
    s.release f = { s with cache := s.cache.without f (s.releasedRecord f), monitor := (s.dropHeld f).monitor } := by
  unfold State.release State.releasedRecord
  by_cases h : s.hold f = 0
  · simp [h, freeFrame_eq]
  · simp [h, retire_eq]

/-! ### A frame becomes STALE, or takes words -/

theorem enterRefresh_eq (s : State) (f : Nat) :
    ∃ r, s.enterRefresh f = { s with cache := { s.cache with refresh := r } } ∧ (∃ e ∈ r, e.frame = f) ∧ ∀ e ∈ s.cache.refresh, e ∈ r := by
  unfold State.enterRefresh
  split
  · next h =>
    obtain ⟨e, he, hf⟩ := List.any_eq_true.mp h
    exact ⟨s.cache.refresh, rfl, ⟨e, he, by simpa using hf⟩, fun _ h => h⟩
  · exact ⟨_, rfl, ⟨_, List.mem_append_right _ (List.mem_singleton_self _), rfl⟩, fun _ h => List.mem_append_left _ h⟩

/-- The words of frame `f` replaced: it is VALID, out of the refresh set, most recent (R119). -/
theorem takeWords_eq (s : State) (f : Nat) (ws : List Word) :
    s.takeWords f ws = { s with cache := { s.cache with
      frames := s.cache.frames.set f { s.frame f with state := .valid }
      store := writeFrame s.cache.store f ws
      lru := s.cache.lru.filter (· != f) ++ [f]
      refresh := s.cache.refresh.filter (·.frame != f) } } := rfl

/-! ### The words of the frames -/

theorem readWord_writeWords {m : List Host.Cell} (h : Memory.wf m) (w : Nat) (xs : List Word) (fits : 2 * (w + xs.length) ≤ storeBytes)
    (v : Nat) :
    readWord (writeWords m w xs) v = if w ≤ v ∧ v < w + xs.length then xs.getD (v - w) 0 else readWord m v := by
  induction xs generalizing m w with
  | nil =>
    rw [if_neg (by simp)]
    rfl
  | cons x xs ih =>
    rw [List.length_cons] at fits
    rw [writeWords, ih (writeWord_wf h w x) (w + 1) (by omega), readWord_writeWord h (by omega), List.length_cons]
    by_cases first : v = w
    · subst first
      simp
    · by_cases inside : w + 1 ≤ v ∧ v < w + 1 + xs.length
      · have next_ : v - w = (v - (w + 1)) + 1 := by omega
        rw [if_pos inside, if_pos (by omega), next_, List.getD_cons_succ]
      · rw [if_neg inside, if_neg first, if_neg (by omega)]

theorem readFrame_getElem (m : List Host.Cell) (f i : Nat) (h : i < (readFrame m f).length) :
    (readFrame m f)[i] = readWord m (256 * f + i) := by
  simp [readFrame, Config.sectorWords]

theorem readFrame_length (m : List Host.Cell) (f : Nat) : (readFrame m f).length = 256 := by
  simp [readFrame, Config.sectorWords]

/-- The words written to a frame are read back (R105). -/
theorem readFrame_writeFrame_same {m : List Host.Cell} (h : Memory.wf m) {f : Nat} (hf : f < 64) {ws : List Word} (hw : ws.length = 256) :
    readFrame (writeFrame m f ws) f = ws := by
  have all : ws.take Config.sectorWords = ws := List.take_of_length_le (by simp [hw, Config.sectorWords])
  refine List.ext_getElem (by rw [readFrame_length, hw]) (fun i hi hi' => ?_)
  rw [readFrame_getElem, writeFrame, all, readWord_writeWords h _ _ (by simp only [Config.sectorWords, hw, storeBytes]; omega)]
  simp only [Config.sectorWords]
  rw [if_pos (by omega), Nat.add_sub_cancel_left, List.getD_eq_getElem?_getD, List.getElem?_eq_getElem hi']
  rfl

/-- Every other frame's words stand (R105). -/
theorem readFrame_writeFrame_other {m : List Host.Cell} (h : Memory.wf m) {f : Nat} (hf : f < 64) (ws : List Word) {g : Nat} (hg : g ≠ f) :
    readFrame (writeFrame m f ws) g = readFrame m g := by
  have short : (ws.take Config.sectorWords).length ≤ 256 := by simp [Config.sectorWords]
  refine List.ext_getElem (by simp [readFrame_length]) (fun i hi _ => ?_)
  rw [readFrame_length] at hi
  rw [readFrame_getElem, readFrame_getElem, writeFrame, readWord_writeWords h _ _ (by simp only [Config.sectorWords, storeBytes] at *; omega)]
  refine if_neg ?_
  simp only [Config.sectorWords] at *
  omega

/-! ### Nothing left to take up -/

theorem hold_of_port {s t : State} (hr : t.port.running = s.port.running) (hj : t.port.jobs = s.port.jobs) (f : Nat) : t.hold f = s.hold f := by
  simp [State.hold, State.allJobs, hr, hj]

/-- A still station whose frames are each as they were, or not spent, is still. -/
theorem Still.of_frames {s t : State} (h : Still s) (hp : t.powered = s.powered) (hw : t.cache.waits = s.cache.waits)
    (hq : t.queue.finished = s.queue.finished) (hr : t.port.running = s.port.running) (hj : t.port.jobs = s.port.jobs)
    (hs : t.seq.work = s.seq.work) (hl : t.cache.frames.length = s.cache.frames.length)
    (hf : ∀ f, t.frame f = s.frame f ∨ t.spent f = false) : Still t := by
  refine ⟨hp.trans h.powered, hw.trans h.waits, hq.trans h.finished, fun f hm => ?_⟩
  rcases hf f with e | e
  · have before := h.spent f (by simpa [State.frameNumbers, hl] using hm)
    simpa [State.spent, State.refreshing, hold_of_port hr hj, e, hs] using before
  · exact e

/-- A frame that is neither FILLING nor retiring is not spent. -/
theorem not_spent_of_frame {s : State} {f : Nat} (hf : (s.frame f).state ≠ .filling) (hr : (s.frame f).retiring = false) : s.spent f = false := by
  simp [State.spent, hf, hr]

/-- A frame that a delivery reads is not spent (R116). -/
theorem not_spent_of_hold {s : State} {f : Nat} (h : s.hold f ≠ 0) : s.spent f = false := by
  simp [State.spent, h]

end Sys2Proof.Machine
end

section
/-! PROOF. The coherence actions on a peer's write (O59). -/

namespace Sys2Proof.Machine

/-! ### One frame of the cache acted on -/

/-- From `s` to `t` the cache and the monitor alone have changed, and in the cache no frame record but that of `f`. -/
structure OnFrame (f : Nat) (s t : State) : Prop where
  only   : t = { s with cache := t.cache, monitor := t.monitor }
  waits  : t.cache.waits = s.cache.waits
  length : t.cache.frames.length = s.cache.frames.length
  others : ∀ n, n ≠ f → t.frame n = s.frame n

/-- Frame `f` is in the refresh set. -/
def State.inRefresh (s : State) (f : Nat) : Prop := ∃ e ∈ s.cache.refresh, e.frame = f

/-- What a write without good capture makes of directory frame `f` (R114, R119). -/
structure Invalidated (f : Nat) (s t : State) : Prop where
  freed   : (s.frame f).pinned = false → s.hold f = 0 → t.frame f = Frame.free
  retired : (s.frame f).pinned = false → s.hold f ≠ 0 → t.frame f = (s.frame f).retired
  pinned  : (s.frame f).pinned = true → t.frame f = { s.frame f with state := .stale } ∧ t.inRefresh f

theorem without_onFrame (s : State) (f : Nat) (fr : Frame) (m : Monitor) :
    OnFrame f s { s with cache := s.cache.without f fr, monitor := m } := by
  refine ⟨rfl, rfl, by simp [Cache.without], fun n hn => ?_⟩
  rw [frame_of_set (s := s) (f := f) (fr := fr) rfl, if_neg (by tauto)]

theorem release_onFrame (s : State) (f : Nat) : OnFrame f s (s.release f) := by
  rw [release_eq]
  exact without_onFrame s f _ _

theorem release_store (s : State) (f : Nat) : (s.release f).cache.store = s.cache.store := by
  rw [release_eq]
  rfl

theorem release_frame {s : State} {f : Nat} (hf : f < s.cache.frames.length) : (s.release f).frame f = s.releasedRecord f := by
  rw [release_eq, frame_of_set (s := s) (f := f) (fr := s.releasedRecord f) rfl, if_pos ⟨rfl, hf⟩]

theorem release_monitor {s : State} {f : Nat} (h : s.monitor.heldFor ≠ some f) : (s.release f).monitor = s.monitor := by
  rw [release_eq, dropHeld_of_other h]

/-- An unpinned frame released is invalidated. -/
theorem release_invalidated {s : State} {f : Nat} (hf : f < s.cache.frames.length) (hp : (s.frame f).pinned = false) :
    Invalidated f s (s.release f) := by
  refine ⟨fun _ hh => ?_, fun _ hh => ?_, fun h => ?_⟩
  · rw [release_frame hf, State.releasedRecord, if_pos hh]
  · rw [release_frame hf, State.releasedRecord, if_neg hh]
  · rw [hp] at h
    cases h

theorem stalePinned_eq (s : State) (f : Nat) :
    ∃ r, s.stalePinned f = { s with cache := { s.cache with frames := s.cache.frames.set f { s.frame f with state := .stale }, refresh := r } }
      ∧ (∃ e ∈ r, e.frame = f) ∧ ∀ e ∈ s.cache.refresh, e ∈ r := by
  obtain ⟨r, e, mem, old⟩ := enterRefresh_eq (s.setFrame f { s.frame f with state := .stale }) f
  exact ⟨r, e, mem, old⟩

theorem stalePinned_onFrame (s : State) (f : Nat) : OnFrame f s (s.stalePinned f) := by
  obtain ⟨r, e, -, -⟩ := stalePinned_eq s f
  rw [e]
  refine ⟨rfl, rfl, by simp, fun n hn => ?_⟩
  rw [frame_of_set (s := s) (f := f) rfl, if_neg (by tauto)]

theorem stalePinned_invalidated {s : State} {f : Nat} (hf : f < s.cache.frames.length) (hp : (s.frame f).pinned = true) :
    Invalidated f s (s.stalePinned f) := by
  obtain ⟨r, e, mem, -⟩ := stalePinned_eq s f
  refine ⟨fun h => ?_, fun h => ?_, fun _ => ⟨?_, ?_⟩⟩
  · rw [hp] at h
    cases h
  · rw [hp] at h
    cases h
  · rw [e, frame_of_set (s := s) (f := f) rfl, if_pos ⟨rfl, hf⟩]
  · rw [e]
    exact mem

theorem stalePinned_store (s : State) (f : Nat) : (s.stalePinned f).cache.store = s.cache.store := by
  obtain ⟨r, e, -, -⟩ := stalePinned_eq s f
  rw [e]

theorem stalePinned_monitor (s : State) (f : Nat) : (s.stalePinned f).monitor = s.monitor := by
  obtain ⟨r, e, -, -⟩ := stalePinned_eq s f
  rw [e]

theorem invalidate_onFrame (s : State) (f : Nat) : OnFrame f s (s.invalidate f) := by
  unfold State.invalidate
  split
  · exact stalePinned_onFrame s f
  · exact release_onFrame s f

theorem invalidate_invalidated {s : State} {f : Nat} (hf : f < s.cache.frames.length) : Invalidated f s (s.invalidate f) := by
  unfold State.invalidate
  split
  · next hp => exact stalePinned_invalidated hf hp
  · next hp => exact release_invalidated hf (by simpa using hp)

theorem invalidate_store (s : State) (f : Nat) : (s.invalidate f).cache.store = s.cache.store := by
  unfold State.invalidate
  split
  · exact stalePinned_store s f
  · exact release_store s f

theorem invalidate_monitor {s : State} {f : Nat} (h : s.monitor.heldFor ≠ some f) : (s.invalidate f).monitor = s.monitor := by
  unfold State.invalidate
  split
  · exact stalePinned_monitor s f
  · exact release_monitor h

/-- With no held capture abandoned a write without good capture invalidates, and no more (R119). -/
theorem writtenWithoutGood_of_none {s : State} (h : s.monitor.abandonedFor = none) (f : Nat) : s.writtenWithoutGood f = s.invalidate f := by
  simp [State.writtenWithoutGood, h]

/-- An invalidated frame of the directory is not spent. -/
theorem Invalidated.not_spent {s t : State} {f : Nat} (h : Invalidated f s t) (hd : (s.frame f).inDir = true)
    (hh : ∀ n, t.hold n = s.hold n) : t.spent f = false := by
  by_cases hp : (s.frame f).pinned = true
  · obtain ⟨e, -⟩ := h.pinned hp
    exact not_spent_of_frame (by simp [e]) (by simp [e, Frame.retiring, hd])
  · by_cases zero : s.hold f = 0
    · exact not_spent_of_frame (by simp [h.freed (by simpa using hp) zero, Frame.free])
        (by simp [h.freed (by simpa using hp) zero, Frame.free, Frame.retiring])
    · exact not_spent_of_hold (by rwa [hh])

theorem takeWords_onFrame (s : State) (f : Nat) (ws : List Word) : OnFrame f s (s.takeWords f ws) := by
  rw [takeWords_eq]
  refine ⟨rfl, rfl, by simp, fun n hn => ?_⟩
  rw [frame_of_set (s := s) (f := f) rfl, if_neg (by tauto)]

theorem takeWords_frame {s : State} {f : Nat} (hf : f < s.cache.frames.length) (ws : List Word) :
    (s.takeWords f ws).frame f = { s.frame f with state := .valid } := by
  rw [takeWords_eq, frame_of_set (s := s) (f := f) rfl, if_pos ⟨rfl, hf⟩]

theorem holdCapture_onFrame (s : State) (f : Nat) : OnFrame f s (s.holdCapture f) := by
  refine ⟨rfl, rfl, by simp [State.holdCapture, State.setFrame], fun n hn => ?_⟩
  rw [frame_of_set (s := s) (f := f) (t := s.holdCapture f) rfl, if_neg (by tauto)]

theorem holdCapture_frame {s : State} {f : Nat} (hf : f < s.cache.frames.length) :
    (s.holdCapture f).frame f = { s.frame f with state := .stale } := by
  rw [frame_of_set (s := s) (f := f) (t := s.holdCapture f) rfl, if_pos ⟨rfl, hf⟩]

/-! ### The guard -/

theorem guardsSector_iff (z : Zones) (a : SectorAddr) :
    z.guardsSector a = true ↔ (z.guardFirst ≤ a.cyl ∧ a.cyl ≤ z.guardLast) ∨ a = { cyl := 0, head := 0, sec := 0 } := by
  simp [Zones.guardsSector, Zones.guarded, labelAddr]

/-- What the guard's check of a peer write leaves in the fault list and the notices (R133). -/
structure Guards (a : SectorAddr) (s u : State) : Prop where
  listed : s.zones.guardsSector a = true → s.faults.entries = [] →
    u.faults.entries = [{ addr := .sector a, kind := .guardWritten, origin := .peer, firstTime := s.clock, repeats := 1 }]
      ∧ u.port.notices = s.port.notices ||| 0x0600#15
  apart  : s.zones.guardsSector a = false → u.faults = s.faults ∧ u.port.notices = s.port.notices

theorem listFault_eq {s : State} (on : s.zones.configured = true) (x : FaultAddr) (k : FaultKind) (o : Origin) :
    s.listFault x k o = { s with
      faults := (s.listFault x k o).faults
      port := { s.port with notices := (s.listFault x k o).port.notices } } := by
  unfold State.listFault
  repeat' split
  · rfl
  · rw [raise_of_configured (s := { s with faults := _ }) (by exact on)]
  · rfl

/-- The first fault of an empty list (R103). -/
theorem listFault_of_empty {s : State} (on : s.zones.configured = true) (none_ : s.faults.entries = []) (x : FaultAddr) (k : FaultKind)
    (o : Origin) :
    s.listFault x k o = { s with
      faults := { s.faults with entries := [{ addr := x, kind := k, origin := o, firstTime := s.clock, repeats := 1 }] }
      port := { s.port with notices := setMark s.port.notices .faultListed } } := by
  simp [State.listFault, none_, Config.maxFaults, State.raise, on]

theorem guardCheck_eq {s : State} (on : s.zones.configured = true) (a : SectorAddr) :
    s.guardCheck a = { s with
      faults := (s.guardCheck a).faults
      port := { s.port with notices := (s.guardCheck a).port.notices } } := by
  unfold State.guardCheck
  split
  · rw [raise_of_configured (by simpa using on), listFault_eq on]
  · rfl

theorem guardCheck_guards {s : State} (on : s.zones.configured = true) (a : SectorAddr) : Guards a s (s.guardCheck a) := by
  unfold State.guardCheck
  refine ⟨fun guarded none_ => ?_, fun apart => ?_⟩
  · rw [if_pos guarded, listFault_of_empty on none_, raise_of_configured (by exact on)]
    refine ⟨rfl, ?_⟩
    simp only [setMark, Notice.bit, BitVec.or_assoc]
    rfl
  · rw [if_neg (by simp [apart])]
    exact ⟨rfl, rfl⟩

/-! ### A located write dealt with -/

/-- From `s` to `u` a peer write of sector `a` has been dealt with, with frame `f` of the directory: the guard has checked it, and of the
cache no other frame has changed, record or words. -/
structure PeerWritten (a : SectorAddr) (f : Nat) (s u : State) : Prop where
  only   : u = { s with
    cache := u.cache, monitor := u.monitor, faults := u.faults, port := { s.port with notices := u.port.notices } }
  waits  : u.cache.waits = s.cache.waits
  length : u.cache.frames.length = s.cache.frames.length
  others : ∀ n, n ≠ f → u.frame n = s.frame n
  guards : Guards a s u

/-- The action on frame `f` after the guard's check, whatever the monitor is in the meantime and afterwards. -/
theorem OnFrame.peerWritten {s w : State} {f : Nat} {a : SectorAddr} {m : Monitor} (on : s.zones.configured = true)
    (h : OnFrame f (State.guardCheck { s with monitor := m } a) w) (m' : Monitor) : PeerWritten a f s { w with monitor := m' } := by
  have checked := guardCheck_eq (s := { s with monitor := m }) on a
  have guards := guardCheck_guards (s := { s with monitor := m }) on a
  generalize State.guardCheck { s with monitor := m } a = b at h checked guards
  obtain ⟨only, waits, length, others⟩ := h
  have faults : w.faults = b.faults := by rw [only]
  have port : w.port = b.port := by rw [only]
  refine ⟨?_, ?_, ?_, fun n hn => ?_, ⟨fun g e => ?_, fun g => ?_⟩⟩
  · rw [only, checked]
  · rw [waits, checked]
  · rw [length, checked]
  · exact (others n hn).trans (by rw [checked]; rfl)
  · rw [faults, port]
    exact guards.listed g e
  · rw [faults, port]
    exact guards.apart g

theorem PeerWritten.hold {s u : State} {a : SectorAddr} {f : Nat} (h : PeerWritten a f s u) (n : Nat) : u.hold n = s.hold n := by
  rw [h.only]
  exact hold_of_port rfl rfl n

theorem PeerWritten.still {s u : State} {a : SectorAddr} {f : Nat} (h : PeerWritten a f s u) (hs : Still s) (hf : u.spent f = false) :
    Still u := by
  refine hs.of_frames ?_ h.waits ?_ ?_ ?_ ?_ h.length (fun n => ?_)
  case refine_6 =>
    by_cases e : n = f
    · exact .inr (e ▸ hf)
    · exact .inl (h.others n e)
  all_goals rw [h.only]

end Sys2Proof.Machine
end

section
/-! PROOF. The end of a write capture, located (O59). -/

namespace Sys2Proof.Machine

/-! ### The gate and the place of a capture -/

theorem cellEffective_iff (x : GateCell) : cellEffective x = true ↔ x.wrg = true ∧ x.rdy = true ∧ x.skc = true ∧ x.wpt = false := by
  simp [cellEffective, and_assoc]

/-- A gate effective at no cell is no write (R129). -/
theorem fieldKind_of_no_cell {g : Gate} (h : ∀ x ∈ g.early ++ g.late, cellEffective x = false) : fieldKind (.write g) = none :=
  if_pos ((gateVerdict_noWrite g).mpr h)

/-- A gate effective at a cell is a write (R129). -/
theorem fieldKind_of_cell {g : Gate} (h : ∃ x ∈ g.early ++ g.late, cellEffective x = true) : fieldKind (.write g) = some .write := by
  refine if_neg (fun e => ?_)
  obtain ⟨x, hx, effective⟩ := h
  simp [(gateVerdict_noWrite g).mp e x hx] at effective

/-- A completed write that was not marked before is good with its CRC and its whole gate (R129). -/
theorem captureVerdict_write {c : PeerCapture} {g : Gate} (hc : c.field = .write g) :
    captureVerdict false .write c = .good ↔ fieldWordsGood c.words = true
      ∧ (∃ x, g.early.getLast? = some x ∧ cellEffective x = true) ∧ ∀ x ∈ g.late, cellEffective x = true := by
  rw [← gateVerdict_whole]
  simp [captureVerdict, hc, fieldWhole]

/-- Where a write lies that its header or the monitor locates (R130). -/
def State.WriteAt (s : State) (a : SectorAddr) : Prop :=
  headerLocates s.monitor.header = some a ∨ (headerLocates s.monitor.header = none
    ∧ ∃ c : Fin 400, s.monitor.arm = some c ∧ a = { cyl := c.val, head := s.monitor.capHead, sec := s.monitor.capSnum })

theorem capturePlace_of_writeAt {s : State} {a : SectorAddr} (h : s.WriteAt a) : s.capturePlace .write = .located a := by
  unfold State.capturePlace
  rcases h with e | ⟨e, c, arm, rfl⟩
  · rw [e]
  · rw [e, arm]

theorem capturePlace_of_unlocated {s : State} (header : headerLocates s.monitor.header = none) (arm : s.monitor.arm = none) :
    s.capturePlace .write = .unlocated s.monitor.capHead s.monitor.capSnum := by
  unfold State.capturePlace
  rw [header, arm]

/-- With no request held a capture is offered to none (R134). -/
theorem overheard_of_none {s : State} (h : s.queue.held = []) (k : CapKind) (a : SectorAddr) (ws : List Word) : s.overheard k a ws = s := by
  simp [State.overheard, h]

/-! ### The guard's check leaves the cache -/

section GuardCheck
variable (s : State) (a : SectorAddr)

@[simp] theorem guardCheck_cache : (s.guardCheck a).cache = s.cache := by unfold State.guardCheck; split <;> simp
@[simp] theorem guardCheck_zones : (s.guardCheck a).zones = s.zones := by unfold State.guardCheck; split <;> simp
@[simp] theorem guardCheck_monitor : (s.guardCheck a).monitor = s.monitor := by unfold State.guardCheck; split <;> simp
@[simp] theorem guardCheck_queue : (s.guardCheck a).queue = s.queue := by unfold State.guardCheck; split <;> simp
@[simp] theorem guardCheck_access : (s.guardCheck a).access = s.access := by unfold State.guardCheck; split <;> simp
@[simp] theorem guardCheck_frame (f : Nat) : (s.guardCheck a).frame f = s.frame f := by simp [State.frame]
@[simp] theorem guardCheck_dirFrame (x : SectorAddr) : (s.guardCheck a).dirFrame x = s.dirFrame x := by simp [State.dirFrame]

theorem guardCheck_allJobs : (s.guardCheck a).port.running = s.port.running ∧ (s.guardCheck a).port.jobs = s.port.jobs := by
  unfold State.guardCheck State.listFault State.raise
  repeat' split
  all_goals exact ⟨rfl, rfl⟩

@[simp] theorem guardCheck_hold (f : Nat) : (s.guardCheck a).hold f = s.hold f :=
  hold_of_port (guardCheck_allJobs s a).1 (guardCheck_allJobs s a).2 f

@[simp] theorem guardCheck_busy (f : Nat) : (s.guardCheck a).busy f = s.busy f := by simp [State.busy, (guardCheck_allJobs s a).1]

end GuardCheck

/-! ### A peer write by its case of R119 -/

section PeerWrite
variable {s : State} {a : SectorAddr} {f : Nat} (hd : s.dirFrame a = some f) (ws : List Word)
include hd

theorem peerWrite_without_good (hm : s.monitor.abandonedFor = none) : s.peerWrite a false ws = s.invalidate f := by
  simp [State.peerWrite, hd, writtenWithoutGood_of_none hm]

theorem peerWrite_dropped (hp : (s.frame f).pinned = false) (hz : s.zones.mode a.cyl = .drop) : s.peerWrite a true ws = s.release f := by
  simp [State.peerWrite, hd, hp, hz]

theorem peerWrite_held (hz : (s.frame f).pinned = true ∨ s.zones.mode a.cyl ≠ .drop) (hb : s.busy f = true) :
    s.peerWrite a true ws = s.holdCapture f := by
  rcases hz with e | e <;> simp [State.peerWrite, hd, e, hb]

theorem peerWrite_taken (hz : (s.frame f).pinned = true ∨ s.zones.mode a.cyl ≠ .drop) (hb : s.busy f = false) :
    s.peerWrite a true ws = s.takeWords f ws := by
  rcases hz with e | e <;> simp [State.peerWrite, hd, e, hb]

end PeerWrite

@[simp] theorem peerWrite_queue (s : State) (a : SectorAddr) (good : Bool) (ws : List Word) : (s.peerWrite a good ws).queue = s.queue := by
  unfold State.peerWrite State.writtenWithoutGood State.holdCapture
  dsimp only
  repeat' split
  all_goals simp

/-- A write of directory frame `f` acted on: no other frame has changed, record or words, and `f` is not left spent. -/
structure ActedOn (f : Nat) (s t : State) : Prop extends OnFrame f s t where
  words   : ∀ n, n ≠ f → readFrame t.cache.store n = readFrame s.cache.store n
  unspent : t.spent f = false
  arm     : t.monitor.arm = s.monitor.arm

theorem unspent_of_dir {s : State} {f : Nat} (hd : (s.frame f).inDir = true) (hs : (s.frame f).state ≠ .filling) : s.spent f = false :=
  not_spent_of_frame hs (by simp [Frame.retiring, hd])

section Acted
variable {s : State} {f : Nat} (hf : f < s.cache.frames.length) (hd : (s.frame f).inDir = true)
include hf hd

theorem invalidate_actedOn (hm : s.monitor.heldFor ≠ some f) : ActedOn f s (s.invalidate f) := by
  have on := invalidate_onFrame s f
  refine ⟨on, fun n _ => by rw [invalidate_store], ?_, by rw [invalidate_monitor hm]⟩
  exact (invalidate_invalidated hf).not_spent hd (fun n => by rw [on.only]; rfl)

theorem takeWords_actedOn (hw : Memory.wf s.cache.store) (h64 : f < 64) (ws : List Word) : ActedOn f s (s.takeWords f ws) := by
  have here := takeWords_frame hf ws
  exact ⟨takeWords_onFrame s f ws, fun n hn => readFrame_writeFrame_other hw h64 ws hn,
    unspent_of_dir (by rw [here]; exact hd) (by simp [here]), rfl⟩

theorem holdCapture_actedOn : ActedOn f s (s.holdCapture f) := by
  have here := holdCapture_frame hf
  exact ⟨holdCapture_onFrame s f, fun _ _ => rfl, unspent_of_dir (by rw [here]; exact hd) (by simp [here]), rfl⟩

end Acted

theorem invalidate_of_unpinned {s : State} {f : Nat} (hp : (s.frame f).pinned = false) : s.invalidate f = s.release f := if_neg (by simp [hp])

/-- Whatever its case, a peer write acts on the directory frame of its sector. -/
theorem peerWrite_actedOn {s : State} {a : SectorAddr} {f : Nat} (hd : s.dirFrame a = some f) (h64 : f < 64) (hw : Memory.wf s.cache.store)
    (hm : s.monitor.heldFor = none) (ha : s.monitor.abandonedFor = none) (good : Bool) (ws : List Word) :
    ActedOn f s (s.peerWrite a good ws) := by
  obtain ⟨hf, hin, -⟩ := dirFrame_spec hd
  have other : s.monitor.heldFor ≠ some f := by simp [hm]
  cases good with
  | false =>
    rw [peerWrite_without_good hd ws ha]
    exact invalidate_actedOn hf hin other
  | true =>
    by_cases hz : (s.frame f).pinned = true ∨ s.zones.mode a.cyl ≠ .drop
    · by_cases hb : s.busy f = true
      · rw [peerWrite_held hd ws hz hb]
        exact holdCapture_actedOn hf hin
      · rw [peerWrite_taken hd ws hz (by simpa using hb)]
        exact takeWords_actedOn hf hin hw h64 ws
    · simp only [not_or, Bool.not_eq_true, not_not] at hz
      rw [peerWrite_dropped hd ws hz.1 hz.2, ← invalidate_of_unpinned hz.1]
      exact invalidate_actedOn hf hin other

/-! ### The end of a capture -/

theorem exec_captureCompletes {s : State} (power : s.powered = true) (capturing : s.monitor.state = .capturing) (c : PeerCapture) :
    exec (.captureCompletes c) s = .next (s.captureCompletes c).settle := by
  have taken : s.capturing (·.captureCompletes c) = s.captureCompletes c := if_pos capturing
  rw [← taken]
  exact live_of_powered power (fun t => (t.capturing (·.captureCompletes c)).settle)

/-- The monitor goes on watching, its buffer empty (R128, R131). -/
def Monitor.watches (m : Monitor) : Monitor := { m.emptied with state := .watching }

theorem captureCompletes_of_no_write {s : State} {c : PeerCapture} (kind : s.monitor.kind = none) (hc : fieldKind c.field = none) :
    s.captureCompletes c = { s with monitor := s.monitor.watches } := by
  simp only [State.captureCompletes, Monitor.kindOf, kind, hc]
  rfl

theorem captureCompletes_of_write {s : State} {c : PeerCapture} (kind : s.monitor.kind = none) (hc : fieldKind c.field = some .write) :
    s.captureCompletes c = s.captureDealt .write c := by
  simp only [State.captureCompletes, Monitor.kindOf, kind, hc]

/-- The monitor while a completed write at `a` is dealt with (R132). -/
def Monitor.dealing (m : Monitor) (v : CapVerdict) (c : PeerCapture) (a : SectorAddr) : Monitor :=
  { m with kind := some .write, verdict := some v, data := c.words, addr := some a }

/-- A located write is checked by the guard and reported to the cache; then the monitor goes on (R132). -/
theorem captureDealt_located {s : State} {c : PeerCapture} {a : SectorAddr} {v : CapVerdict} (h : s.WriteAt a) (held : s.queue.held = [])
    (hv : captureVerdict s.monitor.verdict.isSome .write c = v) :
    s.captureDealt .write c =
      let w := (State.guardCheck { s with monitor := s.monitor.dealing v c a } a).peerWrite a (v == .good) (c.words.take 256)
      { w with monitor := w.monitor.afterCapture w.peerTenure } := by
  have place : State.capturePlace (s.mapMonitor (fun m => { m with kind := some .write, verdict := some v, data := c.words })) .write
      = .located a := capturePlace_of_writeAt h
  unfold State.captureDealt
  dsimp only
  rw [hv, State.dealPlaced, place]
  dsimp only [State.dealWith]
  split
  · rw [overheard_of_none]
    · rfl
    · simpa [State.mapMonitor] using held
  · rfl

theorem afterCapture_dealing {m : Monitor} (h : m.heldFor = none) (v : CapVerdict) (c : PeerCapture) (a : SectorAddr) :
    (m.dealing v c a).afterCapture true = m.watches := by
  simp only [Monitor.afterCapture, Monitor.dealing, h]
  rfl

theorem exec_captureCutShort {s : State} (power : s.powered = true) (d : PeerField) :
    exec (.captureCutShort d) s = .next (s.cutShort (some d)).settle :=
  live_of_powered power (fun t => (t.cutShort (some d)).settle)

/-- A capture cut short that turns out no write ends with nothing reported (R131). -/
theorem cutShort_of_no_write {s : State} {d : PeerField} (capturing : s.monitor.state = .capturing) (kind : s.monitor.kind = none)
    (hd : fieldKind d = none) : s.cutShort (some d) = { s with monitor := s.monitor.watches } := by
  simp only [State.cutShort, capturing, kind, if_true, Option.any_some, Monitor.kindOf, hd]
  rfl

/-- A write cut short is reported (R131). -/
theorem cutShort_of_write {s : State} {d : PeerField} (capturing : s.monitor.state = .capturing) (kind : s.monitor.kind = none)
    (hd : fieldKind d = some .write) : s.cutShort (some d) = s.reportPartial.endUnreported := by
  simp only [State.cutShort, capturing, kind, if_true, Option.any_some, Monitor.kindOf, hd]
  rfl

/-- One that is located is checked by the guard, and is a write without good capture (R131, R133). -/
theorem reportPartial_located {s : State} {a : SectorAddr} (h : s.WriteAt a) : s.reportPartial = (s.guardCheck a).peerWrite a false [] := by
  simp only [State.reportPartial, capturePlace_of_writeAt h]

theorem PeerWritten.rest {s u : State} {a : SectorAddr} {f : Nat} (h : PeerWritten a f s u) :
    u.queue = s.queue ∧ u.zones = s.zones ∧ u.cart = s.cart ∧ u.seq = s.seq ∧ u.drive = s.drive ∧ u.access = s.access
      ∧ u.lines = s.lines := by
  rw [h.only]
  exact ⟨rfl, rfl, rfl, rfl, rfl, rfl, rfl⟩

end Sys2Proof.Machine
end

section
/-! PROOF. The located write of O59, put together. -/

namespace Sys2Proof.Machine

/-- The hypotheses that the first part of O59 shares: a capture in progress in an observed tenure, of a write at `a` whose directory frame
is `f`, with no request held. -/
structure WriteCapture (s : State) (a : SectorAddr) (f : Nat) : Prop where
  still     : Still s
  store     : Memory.wf s.cache.store
  on        : s.zones.configured = true
  tenure    : s.access.peerHolding = some .observed
  capturing : s.monitor.state = .capturing
  kind      : s.monitor.kind = none
  verdict   : s.monitor.verdict = none
  heldFor   : s.monitor.heldFor = none
  abandoned : s.monitor.abandonedFor = none
  place     : s.WriteAt a
  held      : s.queue.held = []
  dir       : s.dirFrame a = some f
  frame     : f < 64

/-- The station after the guard's check and the cache's part of the write, the monitor being `m` meanwhile. -/
def State.reported (s : State) (m : Monitor) (a : SectorAddr) (good : Bool) (ws : List Word) : State :=
  (State.guardCheck { s with monitor := m } a).peerWrite a good ws

section Located
variable {s : State} {a : SectorAddr} {f : Nat} (h : WriteCapture s a f) {m : Monitor} (hm : m.heldFor = none)
include h

theorem WriteCapture.checked_dir (m : Monitor) : (State.guardCheck { s with monitor := m } a).dirFrame a = some f := by
  rw [guardCheck_dirFrame]
  exact h.dir

theorem WriteCapture.lt : f < s.cache.frames.length := (dirFrame_spec h.dir).1

include hm

theorem WriteCapture.actedOn (ha : m.abandonedFor = none) (good : Bool) (ws : List Word) :
    ActedOn f (State.guardCheck { s with monitor := m } a) (s.reported m a good ws) :=
  peerWrite_actedOn (h.checked_dir m) h.frame (by simpa using h.store) (by simpa using hm) (by simpa using ha) good ws

theorem WriteCapture.written (ha : m.abandonedFor = none) (good : Bool) (ws : List Word) (m' : Monitor) :
    PeerWritten a f s { s.reported m a good ws with monitor := m' } :=
  (h.actedOn hm ha good ws).toOnFrame.peerWritten h.on m'

theorem WriteCapture.words (ha : m.abandonedFor = none) (good : Bool) (ws : List Word) (n : Nat) (hn : n ≠ f) :
    readFrame (s.reported m a good ws).cache.store n = readFrame s.cache.store n :=
  ((h.actedOn hm ha good ws).words n hn).trans (by simp)

theorem WriteCapture.settles (ha : m.abandonedFor = none) (good : Bool) (ws : List Word) (m' : Monitor) :
    State.settle { s.reported m a good ws with monitor := m' } = State.settleAccess { s.reported m a good ws with monitor := m' } :=
  settle_of_still ((h.written hm ha good ws m').still h.still (h.actedOn hm ha good ws).unspent)

/-! ### The frame and the monitor by the case of R119 -/

theorem WriteCapture.invalidated {good : Bool} {ws : List Word}
    (e : s.reported m a good ws = (State.guardCheck { s with monitor := m } a).invalidate f) (m' : Monitor) :
    Invalidated f s { s.reported m a good ws with monitor := m' } ∧ (s.reported m a good ws).cache.store = s.cache.store
      ∧ (s.reported m a good ws).monitor = m := by
  have other : (State.guardCheck { s with monitor := m } a).monitor.heldFor ≠ some f := by simp [hm]
  obtain ⟨freed, retired, pinned⟩ := invalidate_invalidated (s := State.guardCheck { s with monitor := m } a) (f := f) (by simpa using h.lt)
  simp only [guardCheck_frame, guardCheck_hold] at freed retired pinned
  refine ⟨⟨fun p z => ?_, fun p z => ?_, fun p => ?_⟩, ?_, ?_⟩
  · exact (congrArg (State.frame · f) e).trans (freed p z)
  · exact (congrArg (State.frame · f) e).trans (retired p z)
  · obtain ⟨frame, mem⟩ := pinned p
    exact ⟨(congrArg (State.frame · f) e).trans frame, by rw [e]; exact mem⟩
  · rw [e, invalidate_store]
    simp
  · rw [e, invalidate_monitor other]
    simp

omit hm in
theorem WriteCapture.taken {good : Bool} {ws : List Word} (hw : ws.length = 256)
    (e : s.reported m a good ws = (State.guardCheck { s with monitor := m } a).takeWords f ws) (m' : Monitor) :
    readFrame (s.reported m a good ws).cache.store f = ws
      ∧ State.frame { s.reported m a good ws with monitor := m' } f = { s.frame f with state := .valid }
      ∧ (∀ x ∈ (s.reported m a good ws).cache.refresh, x.frame ≠ f) ∧ (s.reported m a good ws).monitor = m := by
  have frame := takeWords_frame (s := State.guardCheck { s with monitor := m } a) (f := f) (by simpa using h.lt) ws
  rw [guardCheck_frame] at frame
  refine ⟨?_, (congrArg (State.frame · f) e).trans frame, ?_, ?_⟩
  · rw [e, takeWords_eq]
    exact readFrame_writeFrame_same (by simpa using h.store) h.frame hw
  · rw [e, takeWords_eq]
    intro x hx
    simpa using List.of_mem_filter hx
  · rw [e, takeWords_eq]
    simp

omit hm in
theorem WriteCapture.keptHeld {good : Bool} {ws : List Word}
    (e : s.reported m a good ws = (State.guardCheck { s with monitor := m } a).holdCapture f) (m' : Monitor) :
    (s.reported m a good ws).cache.store = s.cache.store
      ∧ State.frame { s.reported m a good ws with monitor := m' } f = { s.frame f with state := .stale }
      ∧ (s.reported m a good ws).monitor = { m with heldFor := some f } := by
  have frame := holdCapture_frame (s := State.guardCheck { s with monitor := m } a) (f := f) (by simpa using h.lt)
  rw [guardCheck_frame] at frame
  refine ⟨?_, (congrArg (State.frame · f) e).trans frame, ?_⟩
  · rw [e]
    simp [State.holdCapture, State.setFrame]
  · rw [e]
    simp [State.holdCapture, State.setFrame]

end Located

/-- The end of a completed write as a state that settles. -/
def State.completed (s : State) (a : SectorAddr) (v : CapVerdict) (c : PeerCapture) : State :=
  let w := s.reported (s.monitor.dealing v c a) a (v == .good) (c.words.take 256)
  { w with monitor := w.monitor.afterCapture true }

theorem WriteCapture.exec_completes {s : State} {a : SectorAddr} {f : Nat} (h : WriteCapture s a f) {c : PeerCapture}
    (write : fieldKind c.field = some .write) :
    exec (.captureCompletes c) s = .next (s.completed a (captureVerdict false .write c) c).settleAccess := by
  have verdict : captureVerdict s.monitor.verdict.isSome .write c = captureVerdict false .write c := by rw [h.verdict]; rfl
  have tenure : (s.reported (s.monitor.dealing (captureVerdict false .write c) c a) a (captureVerdict false .write c == .good)
      (c.words.take 256)).peerTenure = true := by
    have access := ((h.actedOn (m := s.monitor.dealing (captureVerdict false .write c) c a) h.heldFor h.abandoned
      (captureVerdict false .write c == .good) (c.words.take 256)).only)
    rw [State.peerTenure, access, guardCheck_access]
    simp [h.tenure]
  rw [exec_captureCompletes h.still.powered h.capturing, captureCompletes_of_write h.kind write, captureDealt_located h.place h.held verdict]
  change Host.Outcome.next (State.settle { s.reported _ a _ _ with monitor := Monitor.afterCapture _ (State.peerTenure (s.reported _ a _ _)) }) = _
  rw [tenure, h.settles (m := s.monitor.dealing _ c a) h.heldFor h.abandoned]
  rfl

theorem WriteCapture.exec_cutShort {s : State} {a : SectorAddr} {f : Nat} (h : WriteCapture s a f) {d : PeerField}
    (write : fieldKind d = some .write) :
    exec (.captureCutShort d) s
      = .next (State.settleAccess { s.reported s.monitor a false [] with monitor := (s.reported s.monitor a false []).monitor.watches }) := by
  rw [exec_captureCutShort h.still.powered, cutShort_of_write h.capturing h.kind write, reportPartial_located h.place,
    ← h.settles h.heldFor h.abandoned]
  rfl

/-! ### The clauses of a completed write -/

/-- The frame is pinned or of a CAPTURE zone, as the guard's check leaves it. -/
theorem guardCheck_keeps {s : State} {a : SectorAddr} {f : Nat} (m : Monitor)
    (hz : (s.frame f).pinned = true ∨ s.zones.mode a.cyl ≠ .drop) :
    ((State.guardCheck { s with monitor := m } a).frame f).pinned = true
      ∨ (State.guardCheck { s with monitor := m } a).zones.mode a.cyl ≠ .drop := by
  rw [guardCheck_frame, guardCheck_zones]
  exact hz

section Completed
variable {s : State} {a : SectorAddr} {f : Nat} (h : WriteCapture s a f) (c : PeerCapture)
include h

theorem WriteCapture.completed_written (v : CapVerdict) : PeerWritten a f s (s.completed a v c) :=
  h.written (m := s.monitor.dealing v c a) h.heldFor h.abandoned _ _ _

theorem WriteCapture.completed_words (v : CapVerdict) (n : Nat) (hn : n ≠ f) :
    readFrame (s.completed a v c).cache.store n = readFrame s.cache.store n :=
  h.words (m := s.monitor.dealing v c a) h.heldFor h.abandoned _ _ n hn

theorem WriteCapture.completed_arm (v : CapVerdict) : (s.completed a v c).monitor.arm = s.monitor.arm := by
  have acted := (h.actedOn (m := s.monitor.dealing v c a) h.heldFor h.abandoned (v == .good) (c.words.take 256)).arm
  rw [guardCheck_monitor] at acted
  refine Eq.trans ?_ acted
  unfold State.completed Monitor.afterCapture
  dsimp only
  split <;> rfl

/-- A capture that is not held leaves the monitor watching. -/
theorem WriteCapture.completed_monitor {v : CapVerdict}
    (e : (s.reported (s.monitor.dealing v c a) a (v == .good) (c.words.take 256)).monitor = s.monitor.dealing v c a) :
    (s.completed a v c).monitor = s.monitor.watches := by
  unfold State.completed
  dsimp only
  rw [e, afterCapture_dealing h.heldFor]

theorem WriteCapture.completed_not_good :
    Invalidated f s (s.completed a .notGood c) ∧ (s.completed a .notGood c).cache.store = s.cache.store
      ∧ (s.completed a .notGood c).monitor = s.monitor.watches := by
  have e : s.reported (s.monitor.dealing .notGood c a) a (.notGood == CapVerdict.good) (c.words.take 256) = _ :=
    peerWrite_without_good (h.checked_dir _) _ (by rw [guardCheck_monitor]; exact h.abandoned)
  obtain ⟨frame, store, monitor⟩ := h.invalidated (m := s.monitor.dealing .notGood c a) h.heldFor e
    ((s.reported (s.monitor.dealing .notGood c a) a (.notGood == CapVerdict.good) (c.words.take 256)).monitor.afterCapture true)
  exact ⟨frame, store, h.completed_monitor c monitor⟩

theorem WriteCapture.completed_dropped (pinned : (s.frame f).pinned = false) (drop : s.zones.mode a.cyl = .drop) :
    Invalidated f s (s.completed a .good c) ∧ (s.completed a .good c).cache.store = s.cache.store
      ∧ (s.completed a .good c).monitor = s.monitor.watches := by
  have unpinned : ((State.guardCheck { s with monitor := s.monitor.dealing .good c a } a).frame f).pinned = false := by
    rw [guardCheck_frame]
    exact pinned
  have e : s.reported (s.monitor.dealing .good c a) a (.good == CapVerdict.good) (c.words.take 256) = _ :=
    (peerWrite_dropped (h.checked_dir _) _ unpinned (by simpa using drop)).trans (invalidate_of_unpinned unpinned).symm
  obtain ⟨frame, store, monitor⟩ := h.invalidated (m := s.monitor.dealing .good c a) h.heldFor e
    ((s.reported (s.monitor.dealing .good c a) a (.good == CapVerdict.good) (c.words.take 256)).monitor.afterCapture true)
  exact ⟨frame, store, h.completed_monitor c monitor⟩

theorem WriteCapture.completed_taken (hz : (s.frame f).pinned = true ∨ s.zones.mode a.cyl ≠ .drop) (idle : s.busy f = false)
    (length : c.words.length = 257) :
    readFrame (s.completed a .good c).cache.store f = c.words.take 256
      ∧ (s.completed a .good c).frame f = { s.frame f with state := .valid }
      ∧ (∀ x ∈ (s.completed a .good c).cache.refresh, x.frame ≠ f) ∧ (s.completed a .good c).monitor = s.monitor.watches := by
  have e : s.reported (s.monitor.dealing .good c a) a (.good == CapVerdict.good) (c.words.take 256) = _ :=
    peerWrite_taken (h.checked_dir _) _ (guardCheck_keeps _ hz) (by rw [guardCheck_busy]; exact idle)
  obtain ⟨words, frame, refresh, monitor⟩ := h.taken (by simp [length]) e
    ((s.reported (s.monitor.dealing .good c a) a (.good == CapVerdict.good) (c.words.take 256)).monitor.afterCapture true)
  exact ⟨words, frame, refresh, h.completed_monitor c monitor⟩

theorem WriteCapture.completed_held (hz : (s.frame f).pinned = true ∨ s.zones.mode a.cyl ≠ .drop) (busy : s.busy f = true) :
    (s.completed a .good c).cache.store = s.cache.store ∧ (s.completed a .good c).frame f = { s.frame f with state := .stale }
      ∧ (s.completed a .good c).monitor = { s.monitor.dealing .good c a with state := .holding, heldFor := some f } := by
  have e : s.reported (s.monitor.dealing .good c a) a (.good == CapVerdict.good) (c.words.take 256) = _ :=
    peerWrite_held (h.checked_dir _) _ (guardCheck_keeps _ hz) (by rw [guardCheck_busy]; exact busy)
  obtain ⟨store, frame, monitor⟩ := h.keptHeld e
    ((s.reported (s.monitor.dealing .good c a) a (.good == CapVerdict.good) (c.words.take 256)).monitor.afterCapture true)
  refine ⟨store, frame, ?_⟩
  unfold State.completed
  dsimp only
  rw [monitor]
  rfl

end Completed

/-- The clauses of O59 about the rest of the station. -/
theorem PeerWritten.clauses {s u : State} {a : SectorAddr} {f : Nat} (h : PeerWritten a f s u)
    (words : ∀ n, n ≠ f → readFrame u.cache.store n = readFrame s.cache.store n) (arm : u.monitor.arm = s.monitor.arm) :
    (∀ n, n ≠ f → u.frame n = s.frame n ∧ readFrame u.cache.store n = readFrame s.cache.store n)
      ∧ u.queue = s.queue ∧ u.zones = s.zones ∧ u.cart = s.cart ∧ u.seq = s.seq ∧ u.drive = s.drive ∧ u.access = s.access
      ∧ u.lines = s.lines ∧ u.monitor.arm = s.monitor.arm := by
  obtain ⟨queue, zones, cart, seq, drive, access, lines⟩ := h.rest
  exact ⟨fun n hn => ⟨h.others n hn, words n hn⟩, queue, zones, cart, seq, drive, access, lines, arm⟩

theorem Guards.clauses {a : SectorAddr} {s u : State} (h : Guards a s u) :
    let guarded := (s.zones.guardFirst ≤ a.cyl ∧ a.cyl ≤ s.zones.guardLast) ∨ a = { cyl := 0, head := 0, sec := 0 }
    (guarded → s.faults.entries = [] →
        u.faults.entries = [{ addr := .sector a, kind := .guardWritten, origin := .peer, firstTime := s.clock, repeats := 1 }]
        ∧ u.port.notices = s.port.notices ||| 0x0600#15)
      ∧ (¬guarded → u.faults = s.faults ∧ u.port.notices = s.port.notices) :=
  ⟨fun g => h.listed ((guardsSector_iff _ _).mpr g), fun g => h.apart (by simpa using mt (guardsSector_iff _ _).mp g)⟩

theorem Invalidated.clauses {f : Nat} {s u : State} (h : Invalidated f s u) :
    ((s.frame f).pinned = false → s.hold f = 0 → u.frame f = Frame.free)
      ∧ ((s.frame f).pinned = false → s.hold f ≠ 0 →
          u.frame f = { s.frame f with state := .stale, inDir := false, pinned := false, owner := none })
      ∧ ((s.frame f).pinned = true → u.frame f = { s.frame f with state := .stale } ∧ ∃ e ∈ u.cache.refresh, e.frame = f) :=
  ⟨h.freed, h.retired, h.pinned⟩

end Sys2Proof.Machine
end

section
/-! PROOF. Every frame acted on once, and the unlocated write of O59. -/

namespace Sys2Proof.Machine

/-- A run that acts on each of different frames once: what a frame becomes hangs on that frame alone. -/
theorem foldl_frames {φ : Nat → Frame → Frame} {I : State → Prop} {g : State → Nat → State} {l : List Nat} (unlike : l.Nodup)
    (step : ∀ t, ∀ f ∈ l, I t → I (g t f) ∧ ∀ n, (g t f).frame n = if n = f then φ f (t.frame f) else t.frame n) {s : State} (hs : I s) :
    I (l.foldl g s) ∧ ∀ n, (l.foldl g s).frame n = if n ∈ l then φ n (s.frame n) else s.frame n := by
  induction l generalizing s with
  | nil => exact ⟨hs, fun n => by simp⟩
  | cons f l ih =>
    obtain ⟨notIn, unlike⟩ := List.nodup_cons.mp unlike
    obtain ⟨first, frame⟩ := step s f (by simp) hs
    obtain ⟨rest, frames⟩ := ih unlike (fun t x hx => step t x (by simp [hx])) first
    refine ⟨rest, fun n => ?_⟩
    rw [List.foldl_cons, frames, frame]
    by_cases e : n = f
    · subst e
      simp [notIn]
    · simp [e]

/-- What the run does with one frame stays done. -/
theorem foldl_reaches {Q I : State → Prop} {g : State → Nat → State} {l : List Nat} {f : Nat} (hf : f ∈ l) (unlike : l.Nodup)
    (before : ∀ t, ∀ n ∈ l, n ≠ f → I t → I (g t n)) (reach : ∀ t, I t → Q (g t f)) (keep : ∀ t, ∀ n, n ≠ f → Q t → Q (g t n))
    {s : State} (hs : I s) : Q (l.foldl g s) := by
  induction l generalizing s with
  | nil => cases hf
  | cons n l ih =>
    obtain ⟨notIn, unlike⟩ := List.nodup_cons.mp unlike
    by_cases e : n = f
    · subst e
      have rest : ∀ (k : List Nat) (t : State), n ∉ k → Q t → Q (k.foldl g t) := by
        intro k
        induction k with
        | nil => exact fun _ _ q => q
        | cons x k ih' =>
          intro t hx q
          simp only [List.mem_cons, not_or] at hx
          exact ih' _ hx.2 (keep t x (Ne.symm hx.1) q)
      exact rest l _ notIn (reach s hs)
    · exact ih ((List.mem_cons.mp hf).resolve_left (Ne.symm e)) unlike (fun t x hx => before t x (by simp [hx]))
        (before s n (by simp) e hs)

/-! ### A frame invalidated, as a function of its record -/

/-- The record that a write without good capture leaves of a directory frame with this delivery hold (R116, R119). -/
def Frame.invalidated (fr : Frame) (hold : Nat) : Frame :=
  if fr.pinned then { fr with state := .stale } else if hold = 0 then Frame.free else fr.retired

theorem invalidate_frame {s : State} {f : Nat} (hf : f < s.cache.frames.length) :
    (s.invalidate f).frame f = (s.frame f).invalidated (s.hold f) := by
  obtain ⟨freed, retired, pinned⟩ := invalidate_invalidated hf
  unfold Frame.invalidated
  split
  · next hp => exact (pinned hp).1
  · next hp =>
    split
    · next hh => exact freed (by simpa using hp) hh
    · next hh => exact retired (by simpa using hp) hh

/-- An action on one frame leaves the others in the refresh set. -/
theorem invalidate_inRefresh {s : State} {f n : Nat} (hn : n ≠ f) (h : s.inRefresh n) : (s.invalidate f).inRefresh n := by
  obtain ⟨e, he, hf⟩ := h
  unfold State.invalidate
  split
  · obtain ⟨r, hr, -, old⟩ := stalePinned_eq s f
    rw [hr]
    exact ⟨e, old e he, hf⟩
  · rw [release_eq]
    refine ⟨e, List.mem_filter.mpr ⟨he, ?_⟩, hf⟩
    simpa [hf] using hn

theorem writtenWithoutGood_inRefresh {s : State} {f n : Nat} (hn : n ≠ f) (h : s.inRefresh n) : (s.writtenWithoutGood f).inRefresh n := by
  unfold State.writtenWithoutGood
  dsimp only
  split
  · exact invalidate_inRefresh hn h
  · exact invalidate_inRefresh hn h

/-! ### The unlocated write -/

/-- The frame is a directory frame of the head and sector number (R130). -/
def Frame.meant (fr : Frame) (head sec : Nat) : Bool := fr.inDir && fr.addr.any (fun a => a.head == head && a.sec == sec)

theorem meant_iff (fr : Frame) (head sec : Nat) :
    fr.meant head sec = true ↔ fr.inDir = true ∧ ∃ a, fr.addr = some a ∧ a.head = head ∧ a.sec = sec := by
  simp [Frame.meant, Option.any_eq_true]

/-- In the run over the frames the cache alone changes, and there neither the words nor the waiting allocations. -/
structure CacheRun (s t : State) : Prop where
  only   : t = { s with cache := t.cache }
  waits  : t.cache.waits = s.cache.waits
  store  : t.cache.store = s.cache.store
  length : t.cache.frames.length = s.cache.frames.length

theorem CacheRun.refl (s : State) : CacheRun s s := ⟨rfl, rfl, rfl, rfl⟩

theorem CacheRun.trans {s t u : State} (h : CacheRun s t) (g : CacheRun t u) : CacheRun s u := by
  refine ⟨?_, g.waits.trans h.waits, g.store.trans h.store, g.length.trans h.length⟩
  rw [g.only, h.only]

theorem CacheRun.hold {s t : State} (h : CacheRun s t) (f : Nat) : t.hold f = s.hold f := by
  rw [h.only]
  exact hold_of_port rfl rfl f

theorem CacheRun.monitor {s t : State} (h : CacheRun s t) : t.monitor = s.monitor := by
  rw [h.only]

theorem invalidate_cacheRun {s : State} {f : Nat} (h : s.monitor.heldFor = none) : CacheRun s (s.invalidate f) := by
  obtain ⟨only, waits, length, -⟩ := invalidate_onFrame s f
  refine ⟨?_, waits, invalidate_store s f, length⟩
  rw [only, invalidate_monitor (by simp [h])]

section Unlocated
variable {s : State} (held : s.monitor.heldFor = none) (abandoned : s.monitor.abandonedFor = none) (head sec : Nat)
include held abandoned

/-- One frame of the run. -/
theorem unlocated_step {t : State} (run : CacheRun s t) {f : Nat} (hf : f ∈ s.frameNumbers) :
    CacheRun s (if (t.frame f).meant head sec then t.writtenWithoutGood f else t)
      ∧ ∀ n, (if (t.frame f).meant head sec then t.writtenWithoutGood f else t).frame n =
        if n = f then (if (t.frame f).meant head sec then (t.frame f).invalidated (s.hold f) else t.frame f) else t.frame n := by
  have inside : f < t.cache.frames.length := by rw [run.length]; simpa [State.frameNumbers] using hf
  rw [writtenWithoutGood_of_none (run.monitor ▸ abandoned)]
  split
  · refine ⟨run.trans (invalidate_cacheRun (run.monitor ▸ held)), fun n => ?_⟩
    split
    · next e => rw [e, invalidate_frame inside, run.hold]
    · next e => exact (invalidate_onFrame t f).others n e
  · exact ⟨run, fun n => by split <;> simp_all⟩

theorem unlocatedWrite_run : CacheRun s (s.unlocatedWrite head sec) ∧ ∀ n, (s.unlocatedWrite head sec).frame n =
    if (s.frame n).meant head sec then (s.frame n).invalidated (s.hold n) else s.frame n := by
  obtain ⟨run, frames⟩ := foldl_frames (φ := fun f fr => if fr.meant head sec then fr.invalidated (s.hold f) else fr) (I := CacheRun s)
    (List.nodup_range (n := s.cache.frames.length)) (fun t f hf run => unlocated_step held abandoned head sec run hf) (CacheRun.refl s)
  refine ⟨run, fun n => (frames n).trans ?_⟩
  split
  · rfl
  · next out =>
    have free : s.frame n = Frame.free := frame_of_out (by simpa using out)
    simp [free, Frame.meant, Frame.free]

theorem unlocatedWrite_inRefresh {f : Nat} (hm : (s.frame f).meant head sec = true) (hp : (s.frame f).pinned = true) :
    (s.unlocatedWrite head sec).inRefresh f := by
  have inside : f ∈ s.frameNumbers := by
    simp only [State.frameNumbers, List.mem_range]
    by_contra out
    have free : s.frame f = Frame.free := frame_of_out (by simpa using out)
    simp [free, Frame.free] at hp
  refine foldl_reaches (Q := fun t => t.inRefresh f) (I := fun t => CacheRun s t ∧ t.frame f = s.frame f) inside List.nodup_range ?_ ?_ ?_
    ⟨CacheRun.refl s, rfl⟩
  · rintro t n hn ne ⟨run, same⟩
    obtain ⟨next_, frames⟩ := unlocated_step held abandoned head sec run hn
    exact ⟨next_, (frames f).trans ((if_neg (Ne.symm ne)).trans same)⟩
  · rintro t ⟨run, same⟩
    have inside' : f < t.cache.frames.length := by rw [run.length]; simpa [State.frameNumbers] using inside
    have here : (t.frame f).meant head sec = true := same ▸ hm
    change State.inRefresh (if (t.frame f).meant head sec then t.writtenWithoutGood f else t) f
    rw [if_pos here, writtenWithoutGood_of_none (run.monitor ▸ abandoned)]
    exact ((invalidate_invalidated inside').pinned (same ▸ hp)).2
  · intro t n ne q
    dsimp only
    split
    · exact writtenWithoutGood_inRefresh (Ne.symm ne) q
    · exact q

end Unlocated
end Sys2Proof.Machine
end

section
/-! PROOF. The unlocated write's end, and O59. -/

namespace Sys2Proof.Machine

/-- An invalidated frame of the directory is not spent. -/
theorem not_spent_of_invalidated {s t : State} {f : Nat} (hd : (s.frame f).inDir = true)
    (e : t.frame f = (s.frame f).invalidated (s.hold f)) (hh : t.hold f = s.hold f) : t.spent f = false := by
  unfold Frame.invalidated at e
  split at e
  · exact not_spent_of_frame (by simp [e]) (by simp [e, Frame.retiring, hd])
  · split at e
    · exact not_spent_of_frame (by simp [e, Frame.free]) (by simp [e, Frame.free, Frame.retiring])
    · exact not_spent_of_hold (by rwa [hh])

/-- The station after the unlocated write, as the state that settles. -/
def State.unlocatedEnd (s : State) (m : Monitor) : State :=
  { State.unlocatedWrite { s with monitor := m } s.monitor.capHead s.monitor.capSnum with monitor := s.monitor.watches }

section Unlocated
variable {s : State} {m : Monitor} (held : m.heldFor = none) (abandoned : m.abandonedFor = none)
include held abandoned

theorem unlocatedEnd_run : CacheRun { s with monitor := s.monitor.watches } (s.unlocatedEnd m) ∧ ∀ n, (s.unlocatedEnd m).frame n =
    if (s.frame n).meant s.monitor.capHead s.monitor.capSnum then (s.frame n).invalidated (s.hold n) else s.frame n := by
  obtain ⟨⟨only, waits, store, length⟩, frames⟩ :=
    unlocatedWrite_run (s := { s with monitor := m }) held abandoned s.monitor.capHead s.monitor.capSnum
  refine ⟨⟨?_, waits, store, length⟩, frames⟩
  unfold State.unlocatedEnd
  rw [only]

theorem unlocatedEnd_still (still : Still s) : Still (s.unlocatedEnd m) := by
  obtain ⟨⟨only, waits, -, length⟩, frames⟩ := unlocatedEnd_run (s := s) held abandoned
  have hold (n : Nat) : (s.unlocatedEnd m).hold n = s.hold n := by
    rw [only]
    exact hold_of_port rfl rfl n
  refine still.of_frames ?_ waits ?_ ?_ ?_ ?_ length (fun n => ?_)
  case refine_6 =>
    by_cases hm : (s.frame n).meant s.monitor.capHead s.monitor.capSnum = true
    · exact .inr (not_spent_of_invalidated ((meant_iff _ _ _).mp hm).1 ((frames n).trans (if_pos hm)) (hold n))
    · exact .inl ((frames n).trans (if_neg hm))
  all_goals rw [only]

end Unlocated

/-- An unlocated write completed is reported by its head and sector number, whatever its CRC (R130; log entry 34). -/
theorem captureDealt_unlocated {s : State} (header : headerLocates s.monitor.header = none) (arm : s.monitor.arm = none)
    (heldFor : s.monitor.heldFor = none) (abandoned : s.monitor.abandonedFor = none)
    (tenure : s.access.peerHolding = some .observed) (c : PeerCapture) :
    ∃ m : Monitor, m.heldFor = none ∧ m.abandonedFor = none ∧ s.captureDealt .write c = s.unlocatedEnd m := by
  let v := captureVerdict s.monitor.verdict.isSome .write c
  let m : Monitor := { s.monitor with kind := some .write, verdict := some .notGood, data := c.words }
  have place : State.capturePlace (s.mapMonitor (fun m => { m with kind := some .write, verdict := some v, data := c.words })) .write
      = .unlocated s.monitor.capHead s.monitor.capSnum := capturePlace_of_unlocated header arm
  refine ⟨m, heldFor, abandoned, ?_⟩
  obtain ⟨run, -⟩ := unlocatedWrite_run (s := { s with monitor := m }) heldFor abandoned s.monitor.capHead s.monitor.capSnum
  have observed : (State.unlocatedWrite { s with monitor := m } s.monitor.capHead s.monitor.capSnum).peerTenure = true := by
    rw [State.peerTenure, run.only]
    simp [tenure]
  have after : (State.unlocatedWrite { s with monitor := m } s.monitor.capHead s.monitor.capSnum).monitor.afterCapture true
      = s.monitor.watches := by
    rw [run.monitor]
    simp only [Monitor.afterCapture, m, heldFor]
    rfl
  unfold State.captureDealt
  dsimp only
  rw [State.dealPlaced, place]
  change State.mapMonitor (State.unlocatedWrite { s with monitor := m } s.monitor.capHead s.monitor.capSnum) (fun x => x.afterCapture
    (State.unlocatedWrite { s with monitor := m } s.monitor.capHead s.monitor.capSnum).peerTenure) = _
  rw [observed]
  exact congrArg (fun x : Monitor => ({ State.unlocatedWrite { s with monitor := m } s.monitor.capHead s.monitor.capSnum with
    monitor := x } : State)) after

/-- One cut short is reported the same way (R131). -/
theorem cutShort_unlocated {s : State} (header : headerLocates s.monitor.header = none) (arm : s.monitor.arm = none)
    (heldFor : s.monitor.heldFor = none) (abandoned : s.monitor.abandonedFor = none) (capturing : s.monitor.state = .capturing)
    (kind : s.monitor.kind = none) {d : PeerField} (hd : fieldKind d = some .write) :
    s.cutShort (some d) = s.unlocatedEnd s.monitor := by
  obtain ⟨run, -⟩ := unlocatedWrite_run heldFor abandoned s.monitor.capHead s.monitor.capSnum
  rw [cutShort_of_write capturing kind hd, State.reportPartial, capturePlace_of_unlocated header arm]
  exact congrArg (fun x : Monitor => ({ s.unlocatedWrite s.monitor.capHead s.monitor.capSnum with monitor := x.watches } : State)) run.monitor

end Sys2Proof.Machine

namespace Sys2Proof.Proofs
open Sys2Proof.Machine

/-- Settles O59: the located write by its case of R119 on the one frame of its sector, the unlocated one by a run over the frames. -/
theorem peerWriteCoherence : Obligations.PeerWriteCoherence := by
  unfold Obligations.PeerWriteCoherence
  constructor
  · intro s g a f still store on tenure capturing kind verdict heldFor abandoned place held dir frame _ _
    have h : WriteCapture s a f :=
      { still, store, on, tenure, capturing, kind, verdict, heldFor, abandoned, place, held, dir, frame }
    have ends : State.settle { s with monitor := s.monitor.watches } = State.settleAccess { s with monitor := s.monitor.watches } :=
      settle_of_still ⟨still.powered, still.waits, still.finished, still.spent⟩
    simp only [← cellEffective_iff]
    refine ⟨fun c hc length => ⟨fun quiet => ?_, fun gate => ?_⟩, fun quiet => ?_, fun gate => ?_⟩
    · have none_ : fieldKind c.field = none := hc ▸ fieldKind_of_no_cell (by simpa using quiet)
      rw [exec_captureCompletes still.powered capturing, captureCompletes_of_no_write kind none_, ends]
      rfl
    · refine ⟨_, h.exec_completes (hc ▸ fieldKind_of_cell gate), (h.completed_written c _).guards.clauses,
        (h.completed_written c _).clauses (h.completed_words c _) (h.completed_arm c _), ?_, ?_, ?_, ?_⟩
      · intro good hz idle
        rw [(captureVerdict_write hc).mpr good]
        exact h.completed_taken c hz idle length
      · intro good hz busy
        rw [(captureVerdict_write hc).mpr good]
        obtain ⟨words, record, monitor⟩ := h.completed_held c hz busy
        rw [monitor]
        exact ⟨words, record, rfl, rfl, rfl, rfl⟩
      · intro good pinned drop
        rw [(captureVerdict_write hc).mpr good]
        obtain ⟨invalidated, words, monitor⟩ := h.completed_dropped c pinned drop
        exact ⟨invalidated.clauses, words, monitor⟩
      · intro bad
        have notGood : captureVerdict false .write c = .notGood := by
          have other := mt (captureVerdict_write hc).mp bad
          simp only [captureVerdict] at other ⊢
          split <;> simp_all
        rw [notGood]
        obtain ⟨invalidated, words, monitor⟩ := h.completed_not_good c
        exact ⟨invalidated.clauses, words, monitor⟩
    · rw [exec_captureCutShort still.powered, cutShort_of_no_write capturing kind (fieldKind_of_no_cell (by simpa using quiet)), ends]
      rfl
    · have e := peerWrite_without_good (h.checked_dir s.monitor) [] (by rw [guardCheck_monitor]; exact abandoned)
      obtain ⟨invalidated, words, monitor⟩ := h.invalidated heldFor e (s.reported s.monitor a false []).monitor.watches
      have written := h.written heldFor abandoned false [] (s.reported s.monitor a false []).monitor.watches
      refine ⟨_, h.exec_cutShort (fieldKind_of_cell gate), written.guards.clauses,
        written.clauses (h.words heldFor abandoned false []) ?_, invalidated.clauses, words, ?_⟩
      · exact congrArg (fun x : Monitor => x.watches.arm) monitor
      · exact congrArg Monitor.watches monitor
  · intro s g i still tenure capturing kind verdict heldFor abandoned header arm gate command
    obtain ⟨m, held, ab, ends⟩ : ∃ m : Monitor, m.heldFor = none ∧ m.abandonedFor = none ∧ exec i s = .next (s.unlocatedEnd m).settle := by
      rcases command with rfl | ⟨c, hc, rfl⟩
      · exact ⟨s.monitor, heldFor, abandoned, by
          rw [exec_captureCutShort still.powered, cutShort_unlocated header arm heldFor abandoned capturing kind (fieldKind_of_cell gate)]⟩
      · obtain ⟨m, held, ab, dealt⟩ := captureDealt_unlocated header arm heldFor abandoned tenure c
        exact ⟨m, held, ab, by
          rw [exec_captureCompletes still.powered capturing, captureCompletes_of_write kind (hc ▸ fieldKind_of_cell gate), dealt]⟩
    obtain ⟨run, frames⟩ := unlocatedEnd_run (s := s) held ab
    rw [settle_of_still (unlocatedEnd_still held ab still)] at ends
    simp only [← meant_iff]
    refine ⟨s.unlocatedEnd m, ends, fun f hm hp hh => ?_, fun f hm hp hh => ?_, fun f hm hp => ⟨?_, ?_⟩, fun f hm => ?_, run.monitor, run.store, ?_⟩
    · simp [frames, hm, Frame.invalidated, hp, hh]
    · simp [frames, hm, Frame.invalidated, hp, hh, Frame.retired]
    · simp [frames, hm, Frame.invalidated, hp]
    · exact unlocatedWrite_inRefresh (s := { s with monitor := m }) held ab _ _ hm hp
    · simp [frames, hm]
    · rw [run.only]
      exact ⟨rfl, rfl, rfl, rfl, rfl, rfl, rfl, rfl, rfl⟩

end Sys2Proof.Proofs
end

section
/-! PROOF. A selection point with no request held: the line released, or a refresh started (R36, R82, R118). -/

namespace Sys2Proof.Machine

/-! ### With no request held nothing precedes the selection -/

theorem expire_of_none {s : State} (held : s.queue.held = []) (finished : s.queue.finished = []) : s.expire = s := by
  simp [State.expire, held, State.finishAll, post_of_nil s finished]

theorem consultAll_of_none {s : State} (held : s.queue.held = []) : s.consultAll = s := by
  simp [State.consultAll, held]

theorem prepare_of_none {s : State} (still : Still s) (held : s.queue.held = []) : s.prepare = s := by
  unfold State.prepare
  rw [expire_of_none held still.finished, consultAll_of_none held, post_of_nil s still.finished, tidy_of_still still]

/-! ### Nothing to do: the line released -/

/-- No drive work: no request is held, the refresh set of a mounted cartridge is empty, and no label is awaited (R79, R80). -/
structure NoWork (s : State) : Prop where
  held    : s.queue.held = []
  refresh : s.cart.state = .mounted → s.cache.refresh = []
  label   : s.cart.state ≠ .loading

theorem NoWork.candidates {s : State} (h : NoWork s) : s.candidates = [] := by
  unfold State.candidates
  split
  · next hc => simp [h.held, h.refresh hc]
  · next hc => exact absurd hc h.label
  all_goals rfl

theorem NoWork.hasWork {s : State} (h : NoWork s) : s.hasWork = false := by
  simp [State.hasWork, State.bidUrgency, h.candidates]

/-- What the release of the line and the start of a refresh leave: all records but the line's and the sequencer's. -/
structure SameRecords (s t : State) : Prop where
  powered : t.powered = s.powered
  zones   : t.zones = s.zones
  port    : t.port = s.port
  queue   : t.queue = s.queue
  faults  : t.faults = s.faults
  cache   : t.cache = s.cache
  unit    : t.unit = s.unit
  cart    : t.cart = s.cart

theorem SameRecords.trans {s t u : State} (h : SameRecords s t) (g : SameRecords t u) : SameRecords s u :=
  ⟨g.powered.trans h.powered, g.zones.trans h.zones, g.port.trans h.port, g.queue.trans h.queue, g.faults.trans h.faults,
    g.cache.trans h.cache, g.unit.trans h.unit, g.cart.trans h.cart⟩

theorem SameRecords.frame {s t : State} (h : SameRecords s t) (f : Nat) : t.frame f = s.frame f := by
  simp [State.frame, h.cache]

theorem SameRecords.noWork {s t : State} (h : SameRecords s t) (w : NoWork s) : NoWork t :=
  ⟨h.queue ▸ w.held, fun hc => h.cache ▸ w.refresh (h.cart ▸ hc), fun hc => w.label (h.cart ▸ hc)⟩

/-- Records as they were, and no refresh that had not begun or nothing new retiring: nothing is left to take up. -/
theorem SameRecords.still {s t : State} (h : SameRecords s t) (still : Still s) (fresh : ∀ f, s.refreshing f = false) : Still t := by
  refine ⟨h.powered.trans still.powered, by rw [h.cache]; exact still.waits, by rw [h.queue]; exact still.finished, fun f hf => ?_⟩
  have before := still.spent f (by simpa [State.frameNumbers, h.cache] using hf)
  have hold : t.hold f = s.hold f := hold_of_port (by rw [h.port]) (by rw [h.port]) f
  simp only [State.spent, h.frame, hold, fresh, Bool.not_false, Bool.and_true] at before ⊢
  by_cases z : (s.hold f == 0) = true
  · simp only [z, Bool.true_and, Bool.or_eq_false_iff] at before ⊢
    exact ⟨by simp [before.1], before.2⟩
  · simp [z]

theorem settleAccess_sameRecords (s : State) : SameRecords s s.settleAccess := by
  constructor <;> simp

theorem releaseLine_sameRecords (s : State) : SameRecords s s.releaseLine := by
  constructor <;> simp

/-- With no drive work the line is released and the station comes to IDLE (R36, R37). -/
structure ComesToRest (s t : State) : Prop extends SameRecords s t where
  seq     : t.seq = s.seq
  access  : t.access.state = .idle
  hold    : t.lines.hold = false
  drivers : t.drive.enabled = false
  wrd     : t.drive.wrd = s.drive.wrd

/-- The selection point of a station with nothing to do, and the taking up of what waits behind it. -/
theorem rests_of_noWork {s : State} (still : Still s) (fresh : ∀ f, s.refreshing f = false) (none_ : NoWork s) :
    ComesToRest s (s.post.tidy.selectionPoint).settle := by
  have released : s.post.tidy.selectionPoint = s.releaseLine := by
    rw [post_of_nil s still.finished, tidy_of_still still, State.selectionPoint,
      prepare_of_none still none_.held, none_.candidates]
    rfl
  have same := releaseLine_sameRecords s
  have idle : s.releaseLine.access.state = .idle := by simp [State.restingState, none_.hasWork]
  have stays : s.releaseLine.settle = s.releaseLine := by
    rw [settle_of_still (same.still still fresh), State.settleAccess, idle, (same.noWork none_).hasWork]
    rfl
  rw [released, stays]
  exact ⟨same, by simp, idle, by simp, by simp, by simp⟩

/-! ### A refresh at most -/

theorem position_sameRecords (s : State) : SameRecords s s.position := by
  unfold State.position State.beginSeek
  dsimp only
  repeat' split
  all_goals exact ⟨rfl, rfl, rfl, rfl, rfl, rfl, rfl, rfl⟩

/-- A candidate of a station with no request held and a cartridge mounted is a refresh (R79, R80). -/
theorem candidate_is_refresh {s : State} (held : s.queue.held = []) (mounted : s.cart.state = .mounted) {c : Candidate}
    (hc : c ∈ s.candidates) : ∃ f, c.work = .refresh f := by
  simp only [State.candidates, mounted, held, List.filter_nil, List.map_nil, List.nil_append, List.mem_filterMap] at hc
  obtain ⟨e, -, he⟩ := hc
  unfold State.refreshCandidate at he
  split at he
  · cases he
  · split at he
    · cases he
      exact ⟨_, rfl⟩
    · cases he

theorem mem_of_pickFirst {before : Candidate → Candidate → Bool} {cs : List Candidate} {c : Candidate} (h : pickFirst before cs = some c) :
    c ∈ cs := by
  have go : ∀ (l : List Candidate) (best : Candidate), l.foldl (fun best d => if before d best then d else best) best ∈ best :: l := by
    intro l
    induction l with
    | nil => simp
    | cons d l ih =>
      intro best
      rw [List.foldl_cons]
      split
      · exact List.mem_cons_of_mem best (ih d)
      · exact List.mem_cons.mpr ((List.mem_cons.mp (ih best)).imp_right (List.mem_cons_of_mem d))
  cases cs with
  | nil => cases h
  | cons d ds =>
    cases h
    exact go ds d

theorem mem_of_selectCandidate {cs : List Candidate} {c : Candidate} (h : selectCandidate cs = some c) : c ∈ cs := by
  unfold selectCandidate at h
  split at h
  · exact List.mem_of_mem_filter (mem_of_pickFirst h)
  · exact mem_of_pickFirst h

theorem startWork_refresh_sameRecords (s : State) {c : Candidate} {f : Nat} (h : c.work = .refresh f) : SameRecords s (s.startWork c) := by
  unfold State.startWork
  rw [h]
  have started : SameRecords s { s with seq := { Sequencer.idle with
      work := some (.refresh f), cyl := ((s.frame f).addr.getD labelAddr).cyl
      recs := [SectorRec.start .read ((s.frame f).addr.getD labelAddr).index] } } := ⟨rfl, rfl, rfl, rfl, rfl, rfl, rfl, rfl⟩
  exact started.trans (position_sameRecords _)

/-- The selection point of a station with a cartridge mounted and no request held touches no record but the line's and the sequencer's. -/
theorem selectionPoint_sameRecords {s : State} (still : Still s) (fresh : ∀ f, s.refreshing f = false) (held : s.queue.held = [])
    (mounted : s.cart.state = .mounted) : SameRecords s (s.post.tidy.selectionPoint).settle := by
  have selected : SameRecords s s.selectionPoint := by
    unfold State.selectionPoint
    rw [prepare_of_none still held]
    dsimp only
    split
    · exact releaseLine_sameRecords s
    · next c hc =>
      obtain ⟨f, hf⟩ := candidate_is_refresh held mounted (mem_of_selectCandidate hc)
      split
      · exact releaseLine_sameRecords s
      · exact startWork_refresh_sameRecords s hf
  rw [post_of_nil s still.finished, tidy_of_still still, settle_of_still (selected.still still fresh)]
  exact selected.trans (settleAccess_sameRecords _)

end Sys2Proof.Machine
end

section
/-! PROOF. An accepted label's order to the cache: frames released over the whole cache, STALE pinned frames entered again (R122, R155). -/

namespace Sys2Proof.Machine

/-! ### The frames released -/

/-- From `s` to `t` each of the frames of `l` that meets `p` has been released, and nothing else of the records has changed. -/
structure Releases (p : Frame → Bool) (l : List Nat) (s t : State) : Prop where
  only    : t = { s with cache := t.cache, monitor := t.monitor }
  waits   : t.cache.waits = s.cache.waits
  label   : t.cache.labelReserved = s.cache.labelReserved
  store   : t.cache.store = s.cache.store
  length  : t.cache.frames.length = s.cache.frames.length
  frames  : ∀ n, t.frame n = if (decide (n ∈ l) && p (s.frame n)) = true then s.releasedRecord n else s.frame n
  lru     : t.cache.lru = s.cache.lru.filter (fun n => !(decide (n ∈ l) && p (s.frame n)))
  refresh : t.cache.refresh = s.cache.refresh.filter (fun e => !(decide (e.frame ∈ l) && p (s.frame e.frame)))

theorem releases_nil (p : Frame → Bool) (s : State) : Releases p [] s s := by
  constructor <;> simp

/-- One frame of the run. -/
theorem releases_one (p : Frame → Bool) {s : State} {f : Nat} (hf : f < s.cache.frames.length) :
    Releases p [f] s (if p (s.frame f) then s.release f else s) := by
  split
  · next hp =>
    rw [release_eq]
    refine ⟨rfl, rfl, rfl, rfl, by simp [Cache.without], fun n => ?_, ?_, ?_⟩
    · rw [frame_of_set (s := s) (f := f) (fr := s.releasedRecord f) rfl]
      by_cases e : n = f
      · subst e
        simp [hf, hp]
      · simp [e]
    · refine List.filter_congr (fun n _ => ?_)
      by_cases e : n = f
      · subst e
        simp [hp]
      · simp [e]
    · refine List.filter_congr (fun x _ => ?_)
      by_cases e : x.frame = f
      · simp [e, hp]
      · simp [e]
  · next hp =>
    refine ⟨rfl, rfl, rfl, rfl, rfl, fun n => ?_, ?_, ?_⟩
    · by_cases e : n = f
      · subst e
        simp [hp]
      · simp [e]
    · refine (List.filter_eq_self.mpr (fun n _ => ?_)).symm
      by_cases e : n = f
      · subst e
        simp [hp]
      · simp [e]
    · refine (List.filter_eq_self.mpr (fun x _ => ?_)).symm
      by_cases e : x.frame = f
      · simp [e, hp]
      · simp [e]

theorem Releases.releasedRecord {p : Frame → Bool} {l : List Nat} {s t : State} (h : Releases p l s t) {n : Nat} (hn : n ∉ l) :
    t.releasedRecord n = s.releasedRecord n := by
  have hold : t.hold n = s.hold n := by rw [h.only]; rfl
  simp [State.releasedRecord, hold, h.frames, hn]

theorem Releases.cons {p : Frame → Bool} {f : Nat} {l : List Nat} {s t u : State} (first : Releases p [f] s t) (rest : Releases p l t u)
    (notIn : f ∉ l) : Releases p (f :: l) s u := by
  have stands (n : Nat) (hn : n ≠ f) : t.frame n = s.frame n := by simp [first.frames, hn]
  have meets (n : Nat) : (!(decide (n ∈ l) && p (t.frame n)) && !(decide (n ∈ [f]) && p (s.frame n)))
      = !(decide (n ∈ f :: l) && p (s.frame n)) := by
    by_cases e : n = f
    · subst e
      simp [notIn]
    · simp [e, stands n e]
  refine ⟨?_, rest.waits.trans first.waits, rest.label.trans first.label, rest.store.trans first.store, rest.length.trans first.length,
    fun n => ?_, ?_, ?_⟩
  · rw [rest.only, first.only]
  · rw [rest.frames]
    by_cases e : n = f
    · subst e
      simp [notIn, first.frames]
    · simp [e, stands n e, first.releasedRecord (n := n) (by simpa using e)]
  · rw [rest.lru, first.lru, List.filter_filter]
    exact List.filter_congr (fun n _ => meets n)
  · rw [rest.refresh, first.refresh, List.filter_filter]
    exact List.filter_congr (fun e _ => meets e.frame)

theorem releases_foldl (p : Frame → Bool) {l : List Nat} (unlike : l.Nodup) {s : State} (inside : ∀ f ∈ l, f < s.cache.frames.length) :
    Releases p l s (l.foldl (fun t f => if p (t.frame f) then t.release f else t) s) := by
  induction l generalizing s with
  | nil => exact releases_nil p s
  | cons f l ih =>
    obtain ⟨notIn, unlike⟩ := List.nodup_cons.mp unlike
    have first := releases_one p (inside f (by simp))
    exact first.cons (ih unlike (fun x hx => by rw [first.length]; exact inside x (by simp [hx]))) notIn

/-- Every frame that meets a test which a FREE frame does not is released (R122). -/
theorem releaseAll_releases (p : Frame → Bool) (s : State) : Releases p s.frameNumbers s (s.releaseAll p) :=
  releases_foldl p List.nodup_range (fun f hf => by simpa [State.frameNumbers] using hf)

/-- The test alone, where no FREE frame meets it. -/
theorem releaseAll_meets {p : Frame → Bool} (free : p Frame.free = false) (s : State) (n : Nat) :
    (decide (n ∈ s.frameNumbers) && p (s.frame n)) = p (s.frame n) := by
  by_cases h : n < s.cache.frames.length
  · simp [State.frameNumbers, h]
  · simp [frame_of_out (Nat.le_of_not_lt h), free]

/-! ### The STALE pinned frames entered again -/

/-- The frame is STALE and pinned. -/
def Frame.stalePin (fr : Frame) : Bool := fr.state == .stale && fr.pinned

/-- One frame gives up its place in the refresh set and takes the newest. -/
theorem reenter_one (s : State) (f : Nat) :
    (s.leaveRefresh f).enterRefresh f = { s with cache := { s.cache with
      refresh := s.cache.refresh.filter (·.frame != f) ++ [{ frame := f, entered := s.clock }] } } := by
  have gone : (s.leaveRefresh f).cache.refresh.any (·.frame == f) = false := by
    simp [State.leaveRefresh]
  unfold State.enterRefresh
  rw [gone]
  rfl

/-- The STALE pinned frames of a list with no frame twice, in its order at the newest end. -/
theorem reenter_foldl {l : List Nat} (unlike : l.Nodup) (s : State) :
    l.foldl (fun t f => if (t.frame f).stalePin then (t.leaveRefresh f).enterRefresh f else t) s = { s with cache := { s.cache with
      refresh := s.cache.refresh.filter (fun e => !(decide (e.frame ∈ l) && (s.frame e.frame).stalePin))
        ++ (l.filter (fun f => (s.frame f).stalePin)).map (fun f => { frame := f, entered := s.clock }) } } := by
  induction l generalizing s with
  | nil => simp
  | cons f l ih =>
    obtain ⟨notIn, unlike⟩ := List.nodup_cons.mp unlike
    rw [List.foldl_cons, ih unlike]
    by_cases h : (s.frame f).stalePin = true
    · rw [if_pos h, reenter_one]
      have meets (e : RefreshEntry) : (!(decide (e.frame ∈ l) && (s.frame e.frame).stalePin) && (e.frame != f))
          = !(decide (e.frame ∈ f :: l) && (s.frame e.frame).stalePin) := by
        by_cases he : e.frame = f
        · simp [he, h]
        · simp [he]
      have frames (n : Nat) : State.frame { s with cache := { s.cache with
          refresh := s.cache.refresh.filter (·.frame != f) ++ [{ frame := f, entered := s.clock }] } } n = s.frame n := rfl
      simp only [frames, List.filter_append, List.filter_filter, meets, List.append_assoc]
      simp [notIn, h]
    · rw [if_neg h]
      have meets (e : RefreshEntry) : (decide (e.frame ∈ l) && (s.frame e.frame).stalePin)
          = (decide (e.frame ∈ f :: l) && (s.frame e.frame).stalePin) := by
        by_cases he : e.frame = f
        · simp [he, h]
        · simp [he]
      simp [meets, h]

theorem reenterStale_eq {s : State} (unlike : s.cache.lru.Nodup) :
    s.reenterStale = { s with cache := { s.cache with
      refresh := s.cache.refresh.filter (fun e => !(decide (e.frame ∈ s.cache.lru) && (s.frame e.frame).stalePin))
        ++ (s.cache.lru.filter (fun f => (s.frame f).stalePin)).map (fun f => { frame := f, entered := s.clock }) } } :=
  reenter_foldl unlike s

end Sys2Proof.Machine
end

section
/-! PROOF. The label read's end: the lent frame FREE, the verdict of cartridge control, the selection point behind it (R8, R94, R155, R156,
R161). -/

namespace Sys2Proof.Machine

/-! ### The lent frame -/

/-- From `s` to `x` the label read has ended, its lent frame `m` FREE and the words `ws` in the store; the sequencer is IDLE, and nothing
stands ready to be taken up. -/
structure LabelTaken (s : State) (m : Option Nat) (x : State) : Prop where
  still   : Still x
  seq     : x.seq = Sequencer.idle
  zones   : x.zones = s.zones
  port    : x.port = s.port
  queue   : x.queue = s.queue
  faults  : x.faults = s.faults
  cart    : x.cart = s.cart
  clock   : x.clock = s.clock
  length  : x.cache.frames.length = s.cache.frames.length
  frames  : ∀ n, x.frame n = if some n = m then Frame.free else s.frame n
  lru     : x.cache.lru = s.cache.lru.filter (fun n => decide (some n ≠ m))
  refresh : x.cache.refresh = s.cache.refresh.filter (fun e => decide (some e.frame ≠ m))

theorem labelFrame_spec {s : State} {m : Nat} (h : s.labelFrame = some m) :
    m < s.cache.frames.length ∧ (s.frame m).state = .filling ∧ (s.frame m).inDir = false := by
  obtain ⟨hm, lent, -⟩ := List.findIdx?_eq_some_iff_getElem.mp h
  have here : s.frame m = s.cache.frames[m] := by simp [State.frame, hm]
  simp only [Bool.and_eq_true, beq_iff_eq, Bool.not_eq_true'] at lent
  rw [here]
  exact ⟨hm, lent.1.1.1, lent.1.2⟩

theorem seqIdle_sameRecords (s : State) : SameRecords s s.seqIdle := ⟨rfl, rfl, rfl, rfl, rfl, rfl, rfl, rfl⟩

theorem without_waits {s : State} (waits : s.cache.waits = []) :
    ({ s with cache := { s.cache with waits := s.cache.waits.filter (fun w => w.req.isSome) } } : State) = s := by
  rw [waits, List.filter_nil, ← waits]

theorem freeLabelFrame_of_none {s : State} (waits : s.cache.waits = []) (none_ : s.labelFrame = none) : s.freeLabelFrame = s := by
  unfold State.freeLabelFrame
  simp only [without_waits waits, none_]

theorem freeLabelFrame_of_some {s : State} (waits : s.cache.waits = []) {m : Nat} (lent : s.labelFrame = some m) :
    s.freeLabelFrame = s.freeFrame m := by
  unfold State.freeLabelFrame
  simp only [without_waits waits, lent]

theorem freeFrame_frame (s : State) (f n : Nat) : (s.freeFrame f).frame n = if n = f then Frame.free else s.frame n := by
  rw [freeFrame_eq, frame_of_set (s := s) (f := f) (fr := Frame.free) rfl]
  by_cases e : n = f
  · subst e
    by_cases h : n < s.cache.frames.length
    · simp [h]
    · simp [h, frame_of_out (Nat.le_of_not_lt h)]
  · simp [e]

/-- The end of the label read by the sequencer (R94, R115). -/
theorem labelTaken {s : State} (still : Still s) (work : s.seq.work = some .label) :
    LabelTaken s s.labelFrame s.seqIdle.freeLabelFrame ∧ s.seqIdle.freeLabelFrame.cache.store = s.cache.store := by
  have idle : Still s.seqIdle := (seqIdle_sameRecords s).still still (fun f => by simp [State.refreshing, work])
  have lent : s.seqIdle.labelFrame = s.labelFrame := rfl
  cases hm : s.labelFrame with
  | none =>
    rw [freeLabelFrame_of_none idle.waits (lent.trans hm)]
    refine ⟨⟨idle, rfl, rfl, rfl, rfl, rfl, rfl, rfl, rfl, fun n => ?_, ?_, ?_⟩, rfl⟩
    · simp [State.seqIdle, State.frame, State.lineInactive]
    · exact (List.filter_eq_self.mpr (by simp)).symm
    · exact (List.filter_eq_self.mpr (by simp)).symm
  | some m =>
    have freed := freeFrame_eq s.seqIdle m
    have frames (n : Nat) : (s.seqIdle.freeFrame m).frame n = if n = m then Frame.free else s.frame n := freeFrame_frame s.seqIdle m n
    rw [freeLabelFrame_of_some idle.waits (lent.trans hm)]
    refine ⟨⟨?_, ?_, ?_, ?_, ?_, ?_, ?_, ?_, ?_, fun n => ?_, ?_, ?_⟩, ?_⟩
    · refine idle.of_frames (by simp) (by rw [freed]; rfl) (by simp) (by simp) (by simp) (by simp) (by rw [freed]; simp [Cache.without])
        (fun n => ?_)
      by_cases e : n = m
      · right
        exact not_spent_of_frame (by simp [frames, e, Frame.free]) (by simp [frames, e, Frame.free, Frame.retiring])
      · left
        rw [frames, if_neg e]
        rfl
    · rw [freed]
      rfl
    · rw [freed]
      rfl
    · rw [freed]
      rfl
    · rw [freed]
      rfl
    · rw [freed]
      rfl
    · rw [freed]
      rfl
    · rw [freed]
      rfl
    · rw [freed]
      simp [Cache.without, State.seqIdle]
    · simp [frames]
    · rw [freed]
      exact List.filter_congr (fun n _ => by by_cases e : n = m <;> simp [e])
    · rw [freed]
      exact List.filter_congr (fun x _ => by by_cases e : x.frame = m <;> simp [e])
    · rw [freed]
      rfl

end Sys2Proof.Machine
end

section
/-! PROOF. A label read good: its words and the verdict on them (R8, R94, R155, R161). -/

namespace Sys2Proof.Machine

/-! ### The read -/

/-- The words `ws` of a label read stand in its frame `m`, the frame FREE again (R94). -/
structure LabelWords (s : State) (m : Nat) (ws : List Word) (t : State) : Prop where
  here   : readFrame t.cache.store m = ws
  others : ∀ g, g ≠ m → readFrame t.cache.store g = readFrame s.cache.store g
  free   : t.frame m = Frame.free

theorem length_of_fieldWordsGood {ws : List Word} (h : fieldWordsGood ws = true) : ws.length = 257 := by
  simp only [fieldWordsGood, Bool.and_eq_true, beq_iff_eq, Config.sectorWords] at h
  exact h.1

theorem exec_dataFieldRead {s : State} (power : s.powered = true) (d : DataField) (l : Lines) :
    exec (.dataFieldRead d l) s = .next ((s.sample l).fieldRead d).settle :=
  live_of_powered power (fun t => ((t.sample l).fieldRead d).settle)

theorem fieldRead_label {t : State} {d : DataField} {idx : Nat} (reading : t.seq.state = .reading) (visit : t.seq.visit = some idx)
    (work : t.seq.work = some .label) (going : t.seq.stopping = false) (sync : d.sync = true) (good : fieldWordsGood d.words = true) :
    t.fieldRead d =
      ((t.putRead (d.words.take 256)).seqIdle.freeLabelFrame.labelVerdict (some (d.words.take 256))).post.tidy.selectionPoint := by
  have fine : fieldClass d = .good := by simp [fieldClass, sync, good]
  have solid : t.refreshVoid = false := by simp only [State.refreshVoid, work]
  have read : t.readGood idx (fieldData d) =
      ((t.putRead (fieldData d)).seqIdle.freeLabelFrame.labelVerdict (some (fieldData d))).post.tidy.selectionPoint := by
    simp only [State.readGood, work]
  simp only [State.fieldRead, reading, visit, State.stopOr, going, solid, fine]
  exact read

/-- The label read's data field `d` has been read good into the lent frame `m` (R94). -/
structure LabelReading (s : State) (d : DataField) (idx m : Nat) : Prop where
  still      : Still s
  wf         : StoreInv s
  configured : s.zones.configured = true
  reading    : s.seq.state = .reading
  work       : s.seq.work = some .label
  visit      : s.seq.visit = some idx
  frame      : s.seq.frame = some m
  lent       : s.labelFrame = some m
  inStore    : m < 64
  going      : s.seq.stopping = false
  sync       : d.sync = true
  good       : fieldWordsGood d.words = true

/-- The end of a good label read: the words in the lent frame, the verdict, the selection point (R94). -/
theorem exec_labelRead {s : State} {d : DataField} {idx m : Nat} (h : LabelReading s d idx m) (l : Lines) :
    ∃ x, exec (.dataFieldRead d l) s = .next ((x.labelVerdict (some (d.words.take 256))).post.tidy.selectionPoint).settle
      ∧ LabelTaken s (some m) x ∧ LabelWords s m (d.words.take 256) x := by
  let put := (s.sample l).putWords m (d.words.take 256)
  have wordsIn : (s.sample l).putRead (d.words.take 256) = put := by
    simp only [State.putRead, show (s.sample l).seq.frame = some m from h.frame]
    rfl
  have taken := (labelTaken (s := put) (h.still.of_frames rfl rfl rfl rfl rfl rfl rfl (fun _ => .inl rfl)) h.work)
  rw [show put.labelFrame = some m from h.lent] at taken
  obtain ⟨taken, store⟩ := taken
  refine ⟨put.seqIdle.freeLabelFrame, ?_, ⟨taken.still, taken.seq, taken.zones, taken.port, taken.queue, taken.faults, taken.cart,
    taken.clock, taken.length, taken.frames, taken.lru, taken.refresh⟩, ?_, fun g hg => ?_, ?_⟩
  · rw [exec_dataFieldRead h.still.powered, fieldRead_label (t := s.sample l) h.reading h.visit h.work h.going h.sync h.good, wordsIn]
  · rw [store]
    exact readFrame_writeFrame_same h.wf h.inStore (by simp [length_of_fieldWordsGood h.good])
  · rw [store]
    exact readFrame_writeFrame_other h.wf h.inStore _ hg
  · simpa using taken.frames m

/-! ### An accepted label's order to the cache -/

/-- From `s` to `t` the label's serial has been recorded and frames with a sector have been released (R155). -/
structure Remounted (serial : BitVec 32) (s t : State) : Prop where
  only   : t = { s with cache := t.cache, monitor := t.monitor, cart := { s.cart with lastSerial := some serial } }
  waits  : t.cache.waits = s.cache.waits
  store  : t.cache.store = s.cache.store
  length : t.cache.frames.length = s.cache.frames.length
  frames : ∀ n, t.frame n = s.frame n
    ∨ (((s.frame n).state = .valid ∨ (s.frame n).state = .stale) ∧ t.frame n = s.releasedRecord n)

theorem not_spent_of_releasedRecord {s t : State} {n : Nat} (hold : t.hold n = s.hold n) (h : t.frame n = s.releasedRecord n) :
    t.spent n = false := by
  by_cases z : s.hold n = 0
  · have free : t.frame n = Frame.free := by simp [h, State.releasedRecord, z]
    exact not_spent_of_frame (by simp [free, Frame.free]) (by simp [free, Frame.free, Frame.retiring])
  · exact not_spent_of_hold (by rwa [hold])

theorem Remounted.still {serial : BitVec 32} {s t : State} (h : Remounted serial s t) (still : Still s) : Still t := by
  refine still.of_frames (by rw [h.only]) h.waits (by rw [h.only]) (by rw [h.only]) (by rw [h.only]) (by rw [h.only]) h.length (fun n => ?_)
  rcases h.frames n with same | ⟨-, released⟩
  · exact .inl same
  · exact .inr (not_spent_of_releasedRecord (hold_of_port (by rw [h.only]) (by rw [h.only]) n) released)

theorem remount_of_other {s : State} {serial : BitVec 32} (other : s.cart.lastSerial ≠ some serial) :
    s.remount serial = { s.freeAllFrames with cart := { s.freeAllFrames.cart with lastSerial := some serial } } := by
  simp only [State.remount, if_neg other]

theorem remount_of_same {s : State} {serial : BitVec 32} (same : s.cart.lastSerial = some serial) :
    s.remount serial = { s.freeUnpinned.reenterStale with cart := { s.freeUnpinned.reenterStale.cart with lastSerial := some serial } } := by
  simp only [State.remount, if_pos same]

/-- The entries of the refresh set alone change where STALE pinned frames enter it again. -/
theorem reenterStale_refresh (s : State) : ∃ r, s.reenterStale = { s with cache := { s.cache with refresh := r } } := by
  suffices any : ∀ (l : List Nat) (t : State), (∃ r, t = { s with cache := { s.cache with refresh := r } }) →
      ∃ r, l.foldl (fun t f => if (t.frame f).stalePin then (t.leaveRefresh f).enterRefresh f else t) t
        = { s with cache := { s.cache with refresh := r } } from any s.cache.lru s ⟨s.cache.refresh, rfl⟩
  intro l
  induction l with
  | nil => exact fun _ h => h
  | cons f l ih =>
    rintro t ⟨r, rfl⟩
    rw [List.foldl_cons]
    refine ih _ ?_
    split
    · exact ⟨_, reenter_one _ f⟩
    · exact ⟨r, rfl⟩

/-- Free all frames: every frame that holds a sector is released (R122). -/
theorem freeAllFrames_frame (s : State) (n : Nat) :
    s.freeAllFrames.frame n = if (s.frame n).state = .valid ∨ (s.frame n).state = .stale then s.releasedRecord n else s.frame n := by
  have meets := releaseAll_meets (p := fun fr => fr.state == .valid || fr.state == .stale) rfl s n
  refine ((releaseAll_releases _ s).frames n).trans ?_
  rw [meets]
  simp

/-- Free unpinned frames: every VALID unpinned frame is released (R122). -/
theorem freeUnpinned_frame (s : State) (n : Nat) :
    s.freeUnpinned.frame n = if (s.frame n).state = .valid ∧ (s.frame n).pinned = false then s.releasedRecord n else s.frame n := by
  have meets := releaseAll_meets (p := fun fr => fr.state == .valid && !fr.pinned) rfl s n
  refine ((releaseAll_releases _ s).frames n).trans ?_
  rw [meets]
  simp

theorem remount_remounted (s : State) (serial : BitVec 32) : Remounted serial s (s.remount serial) := by
  by_cases same : s.cart.lastSerial = some serial
  · have freed := releaseAll_releases (fun fr => fr.state == .valid && !fr.pinned) s
    obtain ⟨r, entered⟩ := reenterStale_refresh s.freeUnpinned
    have frame := freeUnpinned_frame s
    rw [remount_of_same same, entered]
    refine ⟨?_, freed.waits, freed.store, freed.length, fun n => ?_⟩
    · rw [show s.freeUnpinned = { s with cache := s.freeUnpinned.cache, monitor := s.freeUnpinned.monitor } from freed.only]
    · have here := frame n
      split at here
      · next h => exact .inr ⟨.inl h.1, here⟩
      · exact .inl here
  · have freed := releaseAll_releases (fun fr => fr.state == .valid || fr.state == .stale) s
    have frame := freeAllFrames_frame s
    rw [remount_of_other same]
    refine ⟨?_, freed.waits, freed.store, freed.length, fun n => ?_⟩
    · rw [show s.freeAllFrames = { s with cache := s.freeAllFrames.cache, monitor := s.freeAllFrames.monitor } from freed.only]
    · have here := frame n
      split at here
      · next h => exact .inr ⟨h, here⟩
      · exact .inl here

end Sys2Proof.Machine
end

section
/-! PROOF. The verdicts on a label with no request held: the station at rest behind them, or a refresh begun (R36, R155, R156, R161). -/

namespace Sys2Proof.Machine

/-- After the label read of `s` the verdict has been given, and nothing stands ready to be taken up. -/
structure Judged (s : State) (m : Nat) (ws : List Word) (y : State) : Prop where
  still  : Still y
  seq    : y.seq = Sequencer.idle
  zones  : y.zones = s.zones
  queue  : y.queue = s.queue
  faults : y.faults = s.faults
  words  : LabelWords s m ws y

theorem Judged.fresh {s y : State} {m : Nat} {ws : List Word} (h : Judged s m ws y) (f : Nat) : y.refreshing f = false := by
  simp [State.refreshing, h.seq, Sequencer.idle]

theorem LabelWords.same {s t u : State} {m : Nat} {ws : List Word} (h : LabelWords s m ws t) (store : u.cache.store = t.cache.store)
    (frame : u.frame m = t.frame m) : LabelWords s m ws u :=
  ⟨by rw [store]; exact h.here, fun g hg => by rw [store]; exact h.others g hg, frame.trans h.free⟩

/-- The line has been released, the sequencer is IDLE, and the configuration stands (R36, R37). -/
structure BackToIdle (s t : State) : Prop where
  seq     : t.seq = Sequencer.idle
  access  : t.access.state = .idle
  hold    : t.lines.hold = false
  drivers : t.drive.enabled = false
  zones   : t.zones = s.zones

/-- The station at rest in `t` after the verdict `y`. -/
structure JudgedAtRest (s : State) (m : Nat) (ws : List Word) (y t : State) : Prop where
  released : BackToIdle s t
  same     : SameRecords y t
  queue    : t.queue = s.queue
  faults   : t.faults = s.faults
  words    : LabelWords s m ws t

/-- What a verdict that leaves the station nothing to do comes to. -/
theorem Judged.rests {s y : State} {m : Nat} {ws : List Word} (h : Judged s m ws y) (none_ : NoWork y) :
    JudgedAtRest s m ws y (y.post.tidy.selectionPoint).settle := by
  have rests := rests_of_noWork h.still h.fresh none_
  exact ⟨⟨rests.seq.trans h.seq, rests.access, rests.hold, rests.drivers, rests.zones.trans h.zones⟩, rests.toSameRecords,
    rests.queue.trans h.queue, rests.faults.trans h.faults, h.words.same (by rw [rests.cache]) (rests.toSameRecords.frame m)⟩

/-! ### Accepted -/

theorem remounted_judged {s x z : State} {m : Nat} {ws : List Word} {serial : BitVec 32} (taken : LabelTaken s (some m) x)
    (words : LabelWords s m ws x) (h : Remounted serial x z) (c : Cartridge) (n : BitVec 15) :
    Judged s m ws { z with cart := c, port := { z.port with notices := n } } := by
  have kept : z.frame m = x.frame m := by
    rcases h.frames m with same | ⟨sector, -⟩
    · exact same
    · simp [words.free, Frame.free] at sector
  refine ⟨(h.still taken.still).of_frames rfl rfl rfl rfl rfl rfl rfl (fun _ => .inl rfl), ?_, ?_, ?_, ?_, words.same h.store kept⟩
  · rw [h.only]
    exact taken.seq
  · rw [h.only]
    exact taken.zones
  · rw [h.only]
    exact taken.queue
  · rw [h.only]
    exact taken.faults

theorem labelVerdict_accepted {x : State} {ws : List Word} {serial : BitVec 32} (h : labelSerial ws = some serial) :
    x.labelVerdict (some ws) = x.labelAccepted serial := by
  simp [State.labelVerdict, h]

/-- Accepted in LOADING: MOUNTED, announced by CARTRIDGE-READY (R155). -/
theorem labelAccepted_of_loading {x : State} {serial : BitVec 32} (configured : x.zones.configured = true)
    (loading : x.cart.state = .loading) :
    x.labelAccepted serial = { x.remount serial with
      cart := { x.cart with state := .mounted, lastSerial := some serial }
      port := { (x.remount serial).port with notices := x.port.notices ||| 0x0002#15 } } := by
  have h := remount_remounted x serial
  have zones : (x.remount serial).zones.configured = true := by rw [h.only]; exact configured
  have cart : (x.remount serial).cart = { x.cart with lastSerial := some serial } := by rw [h.only]
  have notices : (x.remount serial).port.notices = x.port.notices := by rw [h.only]
  have verdict : x.labelAccepted serial =
      State.raise { x.remount serial with cart := { (x.remount serial).cart with state := .mounted } } .cartridgeReady := by
    simp only [State.labelAccepted, loading]
  rw [verdict, raise_of_configured (by exact zones)]
  simp only [cart, notices]
  rfl

/-- Accepted in LEAVING or RELEASED: the recorded state becomes MOUNTED (R161). -/
theorem labelAccepted_of_unloading {x : State} {serial : BitVec 32} (unloading : x.cart.state = .leaving ∨ x.cart.state = .released) :
    x.labelAccepted serial = { x.remount serial with
      cart := { x.cart with recorded := some .mounted, lastSerial := some serial } } := by
  have h := remount_remounted x serial
  have cart : (x.remount serial).cart = { x.cart with lastSerial := some serial } := by rw [h.only]
  have verdict : x.labelAccepted serial =
      { x.remount serial with cart := { (x.remount serial).cart with recorded := some .mounted } } := by
    rcases unloading with e | e <;> simp only [State.labelAccepted, e]
  rw [verdict]
  simp only [cart]

/-! ### The frames of an accepted label -/

/-- The frames that hold a sector are FREE, or retired where a delivery reads them (R122). -/
structure Emptied (s t : State) : Prop where
  free    : ∀ f, (s.frame f).state = .valid ∨ (s.frame f).state = .stale → s.hold f = 0 → t.frame f = Frame.free
  retired : ∀ f, (s.frame f).state = .valid ∨ (s.frame f).state = .stale → s.hold f ≠ 0 → t.frame f = (s.frame f).retired
  refresh : t.cache.refresh = []

/-- A frame that holds a sector is not the lent one. -/
theorem LabelTaken.sector {s x : State} {m f : Nat} (taken : LabelTaken s (some m) x) (lent : s.labelFrame = some m)
    (sector : (s.frame f).state = .valid ∨ (s.frame f).state = .stale) : x.frame f = s.frame f := by
  have other : f ≠ m := by
    rintro rfl
    simp [(labelFrame_spec lent).2.1] at sector
  rw [taken.frames, if_neg (by simpa using other)]

theorem LabelTaken.releasedRecord {s x : State} {m f : Nat} (taken : LabelTaken s (some m) x) (same : x.frame f = s.frame f) :
    x.releasedRecord f = s.releasedRecord f := by
  have hold : x.hold f = s.hold f := hold_of_port (by rw [taken.port]) (by rw [taken.port]) f
  simp [State.releasedRecord, hold, same]

/-- A label of another serial leaves no frame with a sector, and nothing in the refresh set (R122, R155). -/
theorem remount_empties {s x : State} {m : Nat} {serial : BitVec 32} (taken : LabelTaken s (some m) x) (lent : s.labelFrame = some m)
    (other : s.cart.lastSerial ≠ some serial) (stale : ∀ e ∈ s.cache.refresh, (s.frame e.frame).state = .stale) :
    Emptied s (x.remount serial) := by
  have freed := releaseAll_releases (fun fr => fr.state == .valid || fr.state == .stale) x
  have released (f : Nat) (sector : (s.frame f).state = .valid ∨ (s.frame f).state = .stale) :
      (x.remount serial).frame f = s.releasedRecord f := by
    have same := taken.sector lent sector
    rw [remount_of_other (by rwa [taken.cart])]
    refine (freeAllFrames_frame x f).trans ?_
    rw [if_pos (by rwa [same]), taken.releasedRecord same]
  refine ⟨fun f sector z => ?_, fun f sector z => ?_, ?_⟩
  · rw [released f sector, State.releasedRecord, if_pos z]
  · rw [released f sector, State.releasedRecord, if_neg z]
  · rw [remount_of_other (by rwa [taken.cart])]
    refine freed.refresh.trans (List.filter_eq_nil_iff.mpr (fun e he => ?_))
    rw [taken.refresh] at he
    have held := stale e (List.mem_of_mem_filter he)
    have meets := releaseAll_meets (p := fun fr => fr.state == .valid || fr.state == .stale) rfl x e.frame
    rw [meets, taken.sector lent (.inr held), held]
    decide

theorem Emptied.same {s t u : State} (h : Emptied s t) (frames : ∀ f, u.frame f = t.frame f) (refresh : u.cache.refresh = t.cache.refresh) :
    Emptied s u :=
  ⟨fun f sector z => (frames f).trans (h.free f sector z), fun f sector z => (frames f).trans (h.retired f sector z),
    refresh.trans h.refresh⟩

/-! ### The verdicts with no request held -/

/-- Another serial in LOADING (R122, R155). -/
theorem label_of_other {s : State} {d : DataField} {idx m : Nat} (h : LabelReading s d idx m) (l : Lines) (held : s.queue.held = [])
    (loading : s.cart.state = .loading) {serial : BitVec 32} (verdict : labelSerial (d.words.take 256) = some serial)
    (other : s.cart.lastSerial ≠ some serial) (stale : ∀ e ∈ s.cache.refresh, (s.frame e.frame).state = .stale) :
    ∃ t, exec (.dataFieldRead d l) s = .next t ∧ t.cart = { s.cart with state := .mounted, lastSerial := some serial }
      ∧ t.port.notices = s.port.notices ||| 0x0002#15 ∧ Emptied s t ∧ BackToIdle s t ∧ t.queue = s.queue ∧ t.faults = s.faults
      ∧ LabelWords s m (d.words.take 256) t := by
  obtain ⟨x, run, taken, words⟩ := exec_labelRead h l
  have accepted := labelAccepted_of_loading (serial := serial) (by rw [taken.zones]; exact h.configured) (taken.cart ▸ loading)
  rw [labelVerdict_accepted verdict, accepted] at run
  have empties := remount_empties taken h.lent other stale
  have judged := remounted_judged taken words (remount_remounted x serial) { x.cart with state := .mounted, lastSerial := some serial }
    (x.port.notices ||| 0x0002#15)
  have rest := judged.rests ⟨judged.queue ▸ held, fun _ => empties.refresh, fun hc => by simp at hc⟩
  exact ⟨_, run, rest.same.cart.trans (by rw [taken.cart]), by rw [rest.same.port, taken.port],
    empties.same (fun f => rest.same.frame f) (by rw [rest.same.cache]), rest.released, rest.queue, rest.faults, rest.words⟩

/-- Any serial in LEAVING or RELEASED (R161). -/
theorem label_of_unloading {s : State} {d : DataField} {idx m : Nat} (h : LabelReading s d idx m) (l : Lines) (held : s.queue.held = [])
    (unloading : s.cart.state = .leaving ∨ s.cart.state = .released) {serial : BitVec 32}
    (verdict : labelSerial (d.words.take 256) = some serial) :
    ∃ t, exec (.dataFieldRead d l) s = .next t ∧ t.cart = { s.cart with recorded := some .mounted, lastSerial := some serial }
      ∧ t.port.notices = s.port.notices
      ∧ (s.cart.lastSerial ≠ some serial → (∀ e ∈ s.cache.refresh, (s.frame e.frame).state = .stale) → Emptied s t)
      ∧ BackToIdle s t ∧ t.queue = s.queue ∧ t.faults = s.faults ∧ LabelWords s m (d.words.take 256) t := by
  obtain ⟨x, run, taken, words⟩ := exec_labelRead h l
  have accepted := labelAccepted_of_unloading (serial := serial) (taken.cart ▸ unloading)
  have again := remount_remounted x serial
  have judged := remounted_judged taken words again { x.cart with recorded := some .mounted, lastSerial := some serial }
    (x.remount serial).port.notices
  rw [labelVerdict_accepted verdict, accepted] at run
  have rest := judged.rests ⟨judged.queue ▸ held, fun hc => by simp [taken.cart] at hc; simp [hc] at unloading,
    fun hc => by simp [taken.cart] at hc; simp [hc] at unloading⟩
  have kept : (x.remount serial).port = s.port := by rw [again.only]; exact taken.port
  refine ⟨_, run, rest.same.cart.trans (by rw [taken.cart]), by rw [rest.same.port, kept], fun other stale => ?_,
    rest.released, rest.queue, rest.faults, rest.words⟩
  exact (remount_empties taken h.lent other stale).same (fun f => rest.same.frame f) (by rw [rest.same.cache])

/-- Rejected in LEAVING or RELEASED: the rejection is owed (R161). -/
theorem label_rejected_of_unloading {s : State} {d : DataField} {idx m : Nat} (h : LabelReading s d idx m) (l : Lines)
    (held : s.queue.held = []) (unloading : s.cart.state = .leaving ∨ s.cart.state = .released)
    (verdict : labelSerial (d.words.take 256) = none) :
    ∃ t, exec (.dataFieldRead d l) s = .next t
      ∧ t.cart = { s.cart with recorded := some .unusable, lastSerial := none, rejectionOwed := true }
      ∧ t.port.notices = s.port.notices ∧ BackToIdle s t ∧ t.queue = s.queue ∧ t.faults = s.faults
      ∧ t.cache.refresh = s.cache.refresh.filter (fun e => e.frame != m) ∧ LabelWords s m (d.words.take 256) t := by
  obtain ⟨x, run, taken, words⟩ := exec_labelRead h l
  have rejected : x.labelVerdict (some (d.words.take 256)) =
      { x with cart := { x.cart with lastSerial := none, recorded := some .unusable, rejectionOwed := true } } := by
    simp only [State.labelVerdict, Option.bind_some, verdict, State.labelRejected]
    rcases unloading with e | e <;> rw [taken.cart, e]
  have judged : Judged s m (d.words.take 256)
      { x with cart := { x.cart with lastSerial := none, recorded := some .unusable, rejectionOwed := true } } :=
    ⟨taken.still.of_frames rfl rfl rfl rfl rfl rfl rfl (fun _ => .inl rfl), taken.seq, taken.zones, taken.queue, taken.faults,
      words.same rfl rfl⟩
  rw [rejected] at run
  have rest := judged.rests ⟨judged.queue ▸ held, fun hc => by simp [taken.cart] at hc; simp [hc] at unloading,
    fun hc => by simp [taken.cart] at hc; simp [hc] at unloading⟩
  refine ⟨_, run, rest.same.cart.trans (by rw [taken.cart]), by rw [rest.same.port, taken.port],
    rest.released, rest.queue, rest.faults, ?_, rest.words⟩
  rw [rest.same.cache]
  exact taken.refresh.trans (List.filter_congr (fun e _ => by by_cases he : e.frame = m <;> simp [he]))

end Sys2Proof.Machine
end

section
/-! PROOF. An accepted label of the last serial: the pins kept, the STALE pinned frames entered again (R118, R122, R155). -/

namespace Sys2Proof.Machine

theorem freeUnpinned_lru (s : State) :
    s.freeUnpinned.cache.lru = s.cache.lru.filter (fun n => !((s.frame n).state == .valid && !(s.frame n).pinned)) := by
  refine (releaseAll_releases _ s).lru.trans (List.filter_congr (fun n _ => ?_))
  rw [releaseAll_meets (p := fun fr => fr.state == .valid && !fr.pinned) rfl s n]

theorem freeUnpinned_refresh (s : State) : s.freeUnpinned.cache.refresh
    = s.cache.refresh.filter (fun e => !((s.frame e.frame).state == .valid && !(s.frame e.frame).pinned)) := by
  refine (releaseAll_releases _ s).refresh.trans (List.filter_congr (fun e _ => ?_))
  rw [releaseAll_meets (p := fun fr => fr.state == .valid && !fr.pinned) rfl s e.frame]

/-- A frame stands that is no VALID unpinned one. -/
theorem freeUnpinned_keeps {s : State} {n : Nat} (h : ¬((s.frame n).state = .valid ∧ (s.frame n).pinned = false)) :
    s.freeUnpinned.frame n = s.frame n := by
  rw [freeUnpinned_frame, if_neg h]

/-- The frames of a label of the last serial. -/
theorem remount_same_frame {s : State} {serial : BitVec 32} (same : s.cart.lastSerial = some serial) (n : Nat) :
    (s.remount serial).frame n = s.freeUnpinned.frame n := by
  obtain ⟨r, entered⟩ := reenterStale_refresh s.freeUnpinned
  rw [remount_of_same same, entered]
  rfl

/-- A frame is STALE and pinned and in the LRU order once the lent frame and the VALID unpinned ones are out of it, just where it was. -/
theorem stalePin_after {s x : State} {m f : Nat} (taken : LabelTaken s (some m) x) (lent : s.labelFrame = some m) :
    (((x.freeUnpinned.frame f).stalePin && !((x.frame f).state == .valid && !(x.frame f).pinned)) && decide (some f ≠ some m))
      = (s.frame f).stalePin := by
  by_cases e : f = m
  · subst e
    simp [Frame.stalePin, (labelFrame_spec lent).2.1]
  · have same : x.frame f = s.frame f := by rw [taken.frames, if_neg (by simpa using e)]
    by_cases h : (x.frame f).state = .valid ∧ (x.frame f).pinned = false
    · simp [Frame.stalePin, ← same, h.1, h.2]
    · rw [freeUnpinned_keeps h, same]
      by_cases stale : (s.frame f).state = .stale
      · simp [Frame.stalePin, stale, e]
      · simp [Frame.stalePin, beq_eq_false_iff_ne.mpr stale]

/-- The refresh set after a label of the last serial, where it held STALE pinned frames of the LRU order (R118, R155). -/
theorem remount_same_refresh {s x : State} {m : Nat} {serial : BitVec 32} (taken : LabelTaken s (some m) x) (lent : s.labelFrame = some m)
    (same : s.cart.lastSerial = some serial) (unlike : s.cache.lru.Nodup)
    (known : ∀ e ∈ s.cache.refresh, e.frame ∈ s.cache.lru ∧ (s.frame e.frame).state = .stale ∧ (s.frame e.frame).pinned = true) :
    (x.remount serial).cache.refresh
      = (s.cache.lru.filter (fun f => (s.frame f).stalePin)).map (fun f => { frame := f, entered := s.clock }) := by
  have lru : x.freeUnpinned.cache.lru = (s.cache.lru.filter (fun n => decide (some n ≠ some m))).filter
      (fun n => !((x.frame n).state == .valid && !(x.frame n).pinned)) := by rw [freeUnpinned_lru, taken.lru]
  have order : x.freeUnpinned.cache.lru.filter (fun f => (x.freeUnpinned.frame f).stalePin)
      = s.cache.lru.filter (fun f => (s.frame f).stalePin) := by
    rw [lru, List.filter_filter, List.filter_filter]
    exact List.filter_congr (fun f _ => stalePin_after taken lent)
  have leave : x.freeUnpinned.cache.refresh.filter (fun e =>
      !(decide (e.frame ∈ x.freeUnpinned.cache.lru) && (x.freeUnpinned.frame e.frame).stalePin)) = [] := by
    refine List.filter_eq_nil_iff.mpr (fun e he => ?_)
    rw [freeUnpinned_refresh, taken.refresh] at he
    obtain ⟨inLru, stale, pinned⟩ := known e (List.mem_of_mem_filter (List.mem_of_mem_filter he))
    have there : e.frame ∈ x.freeUnpinned.cache.lru.filter (fun f => (x.freeUnpinned.frame f).stalePin) := by
      rw [order]
      exact List.mem_filter.mpr ⟨inLru, by simp [Frame.stalePin, stale, pinned]⟩
    obtain ⟨inLru, meets⟩ := List.mem_filter.mp there
    simp [inLru, meets]
  have clock : x.freeUnpinned.clock = s.clock := by
    rw [show x.freeUnpinned = { x with cache := x.freeUnpinned.cache, monitor := x.freeUnpinned.monitor } from
      (releaseAll_releases _ x).only]
    exact taken.clock
  rw [remount_of_same (by rw [taken.cart, same]), reenterStale_eq (by rw [lru]; exact (unlike.filter _).filter _)]
  simp only [leave, order, clock, List.nil_append]

/-- The last serial again in LOADING (R118, R122, R155). -/
theorem label_of_last {s : State} {d : DataField} {idx m : Nat} (h : LabelReading s d idx m) (l : Lines) (held : s.queue.held = [])
    (loading : s.cart.state = .loading) {serial : BitVec 32} (verdict : labelSerial (d.words.take 256) = some serial)
    (same : s.cart.lastSerial = some serial) (unlike : s.cache.lru.Nodup)
    (known : ∀ e ∈ s.cache.refresh, e.frame ∈ s.cache.lru ∧ (s.frame e.frame).state = .stale ∧ (s.frame e.frame).pinned = true) :
    ∃ t, exec (.dataFieldRead d l) s = .next t ∧ t.cart = { s.cart with state := .mounted }
      ∧ t.port.notices = s.port.notices ||| 0x0002#15
      ∧ (∀ f, (s.frame f).state = .valid → (s.frame f).pinned = false → s.hold f = 0 → t.frame f = Frame.free)
      ∧ (∀ f, (s.frame f).state = .valid ∨ (s.frame f).state = .stale → (s.frame f).pinned = true → t.frame f = s.frame f)
      ∧ t.cache.refresh = (s.cache.lru.filter (fun f => (s.frame f).stalePin)).map (fun f => { frame := f, entered := s.clock })
      ∧ t.queue = s.queue ∧ t.zones = s.zones ∧ LabelWords s m (d.words.take 256) t := by
  obtain ⟨x, run, taken, words⟩ := exec_labelRead h l
  have accepted := labelAccepted_of_loading (serial := serial) (by rw [taken.zones]; exact h.configured) (taken.cart ▸ loading)
  rw [labelVerdict_accepted verdict, accepted] at run
  have judged := remounted_judged taken words (remount_remounted x serial) { x.cart with state := .mounted, lastSerial := some serial }
    (x.port.notices ||| 0x0002#15)
  have after := selectionPoint_sameRecords judged.still judged.fresh (judged.queue ▸ held) rfl
  have again : x.cart.lastSerial = some serial := by rw [taken.cart, same]
  refine ⟨_, run, after.cart.trans (by rw [taken.cart, ← same]), by rw [after.port, taken.port], fun f valid unpinned z => ?_,
    fun f sector pinned => ?_, ?_, after.queue.trans judged.queue, after.zones.trans judged.zones,
    judged.words.same (by rw [after.cache]) (after.frame m)⟩
  · have stands := taken.sector h.lent (.inl valid)
    refine (after.frame f).trans ((remount_same_frame again f).trans ?_)
    rw [freeUnpinned_frame, if_pos (by rw [stands]; exact ⟨valid, unpinned⟩), taken.releasedRecord stands, State.releasedRecord, if_pos z]
  · have stands := taken.sector h.lent sector
    refine (after.frame f).trans ((remount_same_frame again f).trans ?_)
    rw [freeUnpinned_keeps (by rw [stands, pinned]; simp), stands]
  · rw [after.cache]
    exact remount_same_refresh taken h.lent same unlike known

end Sys2Proof.Machine
end

section
/-! PROOF. A label rejected with no request held, after a good read or at a header marked bad (R8, R156). -/

namespace Sys2Proof.Machine

theorem drain_of_none {s : State} (held : s.queue.held = []) (finished : s.queue.finished = []) (o : ReqOutcome) : s.drain o = s := by
  unfold State.drain
  rw [consultAll_of_none held]
  simp only [held, List.map_nil, List.foldl_nil, State.orderFinished, finished, List.length_nil, List.take_nil, List.drop_nil,
    List.insertionSort_nil, List.append_nil]
  rw [← finished, ← held]

/-- UNUSABLE entered from LOADING and announced, the drain apart (R156). -/
def State.rejectedLabel (x : State) : State :=
  { x with
    cart := { x.cart with state := .unusable, lastSerial := none }
    port := { x.port with notices := x.port.notices ||| 0x0004#15 } }

theorem Still.rejectedLabel {x : State} (h : Still x) : Still x.rejectedLabel :=
  h.of_frames rfl rfl rfl rfl rfl rfl rfl (fun _ => .inl rfl)

/-- UNUSABLE leaves no drive work (R79). -/
theorem rejectedLabel_noWork {x : State} (held : x.queue.held = []) : NoWork x.rejectedLabel :=
  ⟨held, fun hc => by simp [State.rejectedLabel] at hc, fun hc => by simp [State.rejectedLabel] at hc⟩

theorem labelRejected_eq {x : State} (configured : x.zones.configured = true) (loading : x.cart.state = .loading) :
    x.labelRejected = x.rejectedLabel.drain .noCartridge := by
  simp only [State.labelRejected, loading, State.enterUnusable]
  rw [raise_of_configured (by exact configured)]
  rfl

/-- Rejected in LOADING with no request held: UNUSABLE, announced by CARTRIDGE-REJECTED (R156). -/
theorem labelRejected_of_loading {x : State} (configured : x.zones.configured = true) (loading : x.cart.state = .loading)
    (held : x.queue.held = []) (finished : x.queue.finished = []) :
    x.labelRejected = x.rejectedLabel := by
  rw [labelRejected_eq configured loading, drain_of_none (by exact held) (by exact finished)]

/-- A verdict that no label stands behind is a rejection (R8, R156). -/
theorem labelVerdict_rejected {x : State} {ws : Option (List Word)} (h : ws.bind labelSerial = none) :
    x.labelVerdict ws = x.labelRejected := by
  simp only [State.labelVerdict, h]

/-- Rejected in LOADING after a good read (R156). -/
theorem label_rejected_of_loading {s : State} {d : DataField} {idx m : Nat} (h : LabelReading s d idx m) (l : Lines)
    (held : s.queue.held = []) (loading : s.cart.state = .loading) (verdict : labelSerial (d.words.take 256) = none) :
    ∃ t, exec (.dataFieldRead d l) s = .next t ∧ t.cart = { s.cart with state := .unusable, lastSerial := none }
      ∧ t.port.notices = s.port.notices ||| 0x0004#15 ∧ BackToIdle s t ∧ t.queue = s.queue ∧ t.faults = s.faults
      ∧ t.cache.refresh = s.cache.refresh.filter (fun e => e.frame != m) ∧ LabelWords s m (d.words.take 256) t := by
  obtain ⟨x, run, taken, words⟩ := exec_labelRead h l
  have rejected := labelRejected_of_loading (by rw [taken.zones]; exact h.configured) (taken.cart ▸ loading) (taken.queue ▸ held)
    taken.still.finished
  rw [labelVerdict_rejected (ws := some _) verdict, rejected] at run
  have judged : Judged s m (d.words.take 256) x.rejectedLabel :=
    ⟨taken.still.rejectedLabel, taken.seq, taken.zones, taken.queue, taken.faults,
      words.same rfl rfl⟩
  have rest := judged.rests (rejectedLabel_noWork (taken.queue ▸ held))
  refine ⟨_, run, rest.same.cart.trans (by rw [State.rejectedLabel, taken.cart]), by rw [rest.same.port, State.rejectedLabel, taken.port],
    rest.released, rest.queue, rest.faults,
    ?_, rest.words⟩
  rw [rest.same.cache]
  exact taken.refresh.trans (List.filter_congr (fun e _ => by by_cases he : e.frame = m <;> simp [he]))

/-! ### A header marked bad -/

theorem exec_headerRead {s : State} (power : s.powered = true) (h : HeaderField) (l : Lines) :
    exec (.headerRead h l) s = .next ((s.sample l).header h).settle :=
  live_of_powered power (fun t => ((t.sample l).header h).settle)

/-- A label read ends at a header marked bad, with its fault (R8, R99). -/
theorem header_label_markedBad {t : State} {h : HeaderField} {idx : Nat} (searching : t.seq.state = .searching)
    (visit : t.seq.visit = some idx) (work : t.seq.work = some .label) (configured : t.zones.configured = true)
    (marked : headerClass h (sectorAt t.seq.cyl idx) = .matchingBad) :
    t.header h = (((t.listFault (.sector (sectorAt t.seq.cyl idx)) .markedBad .own).seqIdle.freeLabelFrame.labelVerdict
      none).post.tidy).selectionPoint := by
  have solid : t.refreshVoid = false := by simp only [State.refreshVoid, work]
  have same : (t.listFault (.sector (sectorAt t.seq.cyl idx)) .markedBad .own).seq = t.seq := by
    rw [listFault_eq configured]
  have class_ : headerClass h (t.seq.sectorAddr idx) = .matchingBad := marked
  simp only [State.header, searching, visit, State.takeHeader, class_, solid, State.workFails]
  rw [if_neg (by decide)]
  simp only [Sequencer.sectorAddr, same, work]

/-- The first fault of an empty list stands listed (R103). -/
def State.withFirstFault (s : State) (a : SectorAddr) : State :=
  { s with
    faults := { s.faults with entries := [{ addr := .sector a, kind := .markedBad, origin := .own, firstTime := s.clock, repeats := 1 }] }
    port := { s.port with notices := s.port.notices ||| 0x0400#15 } }

theorem label_markedBad {s : State} {h : HeaderField} {idx : Nat} (l : Lines) (still : Still s) (configured : s.zones.configured = true)
    (searching : s.seq.state = .searching) (work : s.seq.work = some .label) (visit : s.seq.visit = some idx)
    (loading : s.cart.state = .loading) (held : s.queue.held = []) (none_ : s.faults.entries = [])
    (marked : headerClass h (sectorAt s.seq.cyl idx) = .matchingBad) :
    ∃ t, exec (.headerRead h l) s = .next t
      ∧ t.cart = { s.cart with state := .unusable, lastSerial := none } ∧ t.port.notices = s.port.notices ||| 0x0404#15
      ∧ t.faults.entries =
          [{ addr := .sector (sectorAt s.seq.cyl idx), kind := .markedBad, origin := .own, firstTime := s.clock, repeats := 1 }]
      ∧ (∀ m, s.labelFrame = some m → t.frame m = Frame.free) ∧ t.cache.store = s.cache.store
      ∧ t.seq = Sequencer.idle ∧ t.access.state = .idle ∧ t.lines.hold = false ∧ t.drive.enabled = false ∧ t.queue = s.queue := by
  let listed := (s.sample l).withFirstFault (sectorAt s.seq.cyl idx)
  have lists : (s.sample l).listFault (.sector (sectorAt s.seq.cyl idx)) .markedBad .own = listed :=
    listFault_of_empty (s := s.sample l) configured none_ _ _ _
  obtain ⟨taken, store⟩ := labelTaken (s := listed) (still.of_frames rfl rfl rfl rfl rfl rfl rfl (fun _ => .inl rfl)) work
  have rejected := labelRejected_of_loading (x := listed.seqIdle.freeLabelFrame) (by rw [taken.zones]; exact configured)
    (taken.cart ▸ loading) (taken.queue ▸ held) taken.still.finished
  have run := (exec_headerRead still.powered h l).trans
    (congrArg (fun t => Host.Outcome.next (State.settle t)) (header_label_markedBad (t := s.sample l) searching visit work configured marked))
  rw [show (s.sample l).seq.cyl = s.seq.cyl from rfl, lists, labelVerdict_rejected rfl, rejected] at run
  generalize listed.seqIdle.freeLabelFrame = x at run taken store
  obtain ⟨t, run, rest⟩ : ∃ t, exec (.headerRead h l) s = .next t ∧ ComesToRest x.rejectedLabel t := ⟨_, run, rests_of_noWork
    taken.still.rejectedLabel (fun f => by simp [State.refreshing, State.rejectedLabel, taken.seq, Sequencer.idle])
    (rejectedLabel_noWork ((congrArg WorkQueue.held taken.queue).trans held))⟩
  refine ⟨t, run, rest.cart.trans (by rw [State.rejectedLabel, taken.cart]; rfl), ?_, ?_, fun m lent => ?_, ?_,
    rest.seq.trans taken.seq, rest.access, rest.hold, rest.drivers, rest.queue.trans taken.queue⟩
  · rw [rest.port, State.rejectedLabel, taken.port]
    exact BitVec.or_assoc _ _ _
  · rw [rest.faults, State.rejectedLabel, taken.faults]
    rfl
  · have lent : listed.labelFrame = some m := lent
    refine (rest.toSameRecords.frame m).trans ((taken.frames m).trans ?_)
    rw [lent, if_pos rfl]
  · rw [rest.cache]
    exact store

end Sys2Proof.Machine
end

section
/-! PROOF. The end of the one request that is held: what leaves the port and the cache with it, and its posting (R54, R55, R157). -/

namespace Sys2Proof.Machine

/-! ### What leaves with a request -/

/-- On the way from `s` to `t` jobs, allocations and frames of request `id` have left, and the notices, the LATE counter, the held requests
and the free words may have moved; nothing else. -/
structure Sheds (id : Nat) (s t : State) : Prop where
  only       : t = { s with port := t.port, queue := t.queue, faults := t.faults, cache := t.cache, monitor := t.monitor,
                            freeDraws := t.freeDraws }
  fifo       : t.port.fifo = s.port.fifo
  notices    : ∀ i, s.port.notices.getLsbD i = true → t.port.notices.getLsbD i = true
  entries    : t.faults.entries = s.faults.entries
  hold       : s.delivering id = false → ∀ f, t.hold f = s.hold f
  delivering : s.delivering id = false → t.delivering id = false
  waits      : s.cache.waits = [] → t.cache.waits = []
  store      : t.cache.store = s.cache.store
  length     : t.cache.frames.length = s.cache.frames.length
  frames     : ∀ n, t.frame n = s.frame n ∨ ((s.frame n).unreadOf id = true ∧ t.frame n = Frame.free)
  refresh    : ∀ e ∈ t.cache.refresh, e ∈ s.cache.refresh

theorem Sheds.trans {id : Nat} {s t u : State} (h : Sheds id s t) (g : Sheds id t u) : Sheds id s u where
  only := by rw [g.only, h.only]
  fifo := g.fifo.trans h.fifo
  notices := fun i hi => g.notices i (h.notices i hi)
  entries := g.entries.trans h.entries
  hold := fun quiet f => (g.hold (h.delivering quiet) f).trans (h.hold quiet f)
  delivering := fun quiet => g.delivering (h.delivering quiet)
  waits := fun none_ => g.waits (h.waits none_)
  store := g.store.trans h.store
  length := g.length.trans h.length
  frames := fun n => by
    rcases g.frames n with same | ⟨unread, free⟩
    · rw [same]
      exact h.frames n
    · rcases h.frames n with same | ⟨before, -⟩
      · exact .inr ⟨same ▸ unread, free⟩
      · exact .inr ⟨before, free⟩
  refresh := fun e he => h.refresh e (g.refresh e he)

/-- A step that leaves the jobs and the cache. -/
theorem sheds_of_same {id : Nat} {s t : State}
    (only : t = { s with port := t.port, queue := t.queue, faults := t.faults, freeDraws := t.freeDraws }) (fifo : t.port.fifo = s.port.fifo)
    (jobs : t.port.jobs = s.port.jobs) (running : t.port.running = s.port.running)
    (notices : ∀ i, s.port.notices.getLsbD i = true → t.port.notices.getLsbD i = true) (entries : t.faults.entries = s.faults.entries) :
    Sheds id s t where
  only := by rw [only]
  fifo := fifo
  notices := notices
  entries := entries
  hold := fun _ f => hold_of_port running jobs f
  delivering := fun quiet => by simpa [State.delivering, State.allJobs, running, jobs] using quiet
  waits := fun none_ => by rw [only]; exact none_
  store := by rw [only]
  length := by rw [only]
  frames := fun n => .inl (by rw [only]; rfl)
  refresh := by rw [only]; exact fun _ he => he

theorem sheds_refl (id : Nat) (s : State) : Sheds id s s := sheds_of_same rfl rfl rfl rfl (fun _ hi => hi) rfl

theorem modify_sheds (s : State) (id n : Nat) (g : Request → Request) : Sheds id s (s.modify n g) :=
  sheds_of_same rfl rfl rfl rfl (fun _ hi => hi) rfl

theorem allJobs_filter (s : State) (keep : Job → Bool) :
    State.allJobs { s with port := { s.port with jobs := s.port.jobs.filter keep, running := s.port.running.filter keep } }
      = s.allJobs.filter keep := by
  cases h : s.port.running with
  | none => simp [State.allJobs, h]
  | some j => cases hj : keep j <;> simp [State.allJobs, h, hj, Option.filter]

/-- Jobs that leave: where none of the request's is a delivery, every delivery stays. -/
theorem jobs_sheds {id : Nat} (s : State) {keep : Job → Bool} (others : ∀ j, j.isFor id = false → keep j = true) :
    Sheds id s { s with port := { s.port with jobs := s.port.jobs.filter keep, running := s.port.running.filter keep } } := by
  have all := allJobs_filter s keep
  refine ⟨rfl, rfl, fun _ hi => hi, rfl, fun quiet f => ?_, fun quiet => ?_, fun none_ => none_, rfl, rfl, fun n => .inl rfl, fun _ he => he⟩
  · simp only [State.hold, all, List.filter_filter]
    congr 1
    refine List.filter_congr (fun j hj => ?_)
    by_cases mine : j.isFor id = true
    · have still : (j.isFor id && j.isDelivery) = false := by
        simp only [State.delivering, List.any_eq_false] at quiet
        simpa using quiet j hj
      rw [mine, Bool.true_and] at still
      have none_ : j.delivers f = false := by
        cases hk : j.kind <;> simp_all [Job.isDelivery, Job.delivers]
      simp [none_]
    · simp [others j (by simpa using mine)]
  · simp only [State.delivering, all, List.any_eq_false] at quiet ⊢
    exact fun j hj => quiet j (List.mem_of_mem_filter hj)

theorem dropStaging_sheds (s : State) (id : Nat) : Sheds id s (s.dropStaging id) :=
  jobs_sheds s (fun j hj => by simp [hj])

theorem dropJobs_sheds (s : State) (id : Nat) : Sheds id s (s.dropJobs id) :=
  jobs_sheds s (fun j hj => by simp [hj])

theorem dropWaits_sheds (s : State) (id : Nat) : Sheds id s (s.dropWaits id) :=
  ⟨rfl, rfl, fun _ hi => hi, rfl, fun _ _ => rfl, fun quiet => quiet, fun none_ => by simp [State.dropWaits, none_], rfl, rfl,
    fun _ => .inl rfl, fun _ he => he⟩

theorem freeFrame_sheds {s : State} {id f : Nat} (unread : (s.frame f).unreadOf id = true) : Sheds id s (s.freeFrame f) := by
  have freed := freeFrame_eq s f
  refine ⟨by rw [freed], by simp, fun i hi => by simpa using hi, by simp, fun _ n => ?_, fun quiet => ?_, fun none_ => ?_, by rw [freed]; rfl,
    by rw [freed]; simp [Cache.without], fun n => ?_, ?_⟩
  · exact hold_of_port (by simp) (by simp) n
  · simpa [State.delivering, State.allJobs] using quiet
  · rw [freed]
    exact none_
  · rw [freeFrame_frame]
    split
    · next e => exact .inr ⟨e ▸ unread, rfl⟩
    · exact .inl rfl
  · rw [freed]
    exact fun e he => List.mem_of_mem_filter he

theorem releaseOwned_sheds (s : State) (id : Nat) : Sheds id s (s.releaseOwned id) := by
  suffices any : ∀ (l : List Nat) (t : State), Sheds id s t →
      Sheds id s (l.foldl (fun t f => if (t.frame f).unreadOf id then t.freeFrame f else t) t) from any _ s (sheds_refl id s)
  intro l
  induction l with
  | nil => exact fun _ h => h
  | cons f l ih =>
    intro t h
    rw [List.foldl_cons]
    refine ih _ ?_
    split
    · next unread => exact h.trans (freeFrame_sheds unread)
    · exact h

/-- No STAGED or unread frame of the request is left. -/
theorem releaseOwned_clears (s : State) (id n : Nat) : ((s.releaseOwned id).frame n).unreadOf id = false := by
  have frames := (foldl_frames (g := fun t f => if (t.frame f).unreadOf id then t.freeFrame f else t)
    (φ := fun _ fr => if fr.unreadOf id then Frame.free else fr) (I := fun _ => True) (l := s.frameNumbers) List.nodup_range
    (fun t f _ _ => ⟨trivial, fun k => by
      by_cases unread : (t.frame f).unreadOf id = true
      · simp [unread, freeFrame_frame]
      · by_cases e : k = f <;> simp [unread, e]⟩) (s := s) trivial).2 n
  refine (congrArg (Frame.unreadOf · id) frames).trans ?_
  by_cases inside : n < s.cache.frames.length
  · have here : n ∈ s.frameNumbers := by simpa [State.frameNumbers] using inside
    by_cases unread : (s.frame n).unreadOf id = true
    · simp only [here, unread, if_true]
      rfl
    · simp [here, unread]
  · have free : s.frame n = Frame.free := frame_of_out (Nat.le_of_not_lt inside)
    rw [free]
    split
    · split <;> rfl
    · rfl

theorem countLate_sheds (s : State) (id : Nat) : Sheds id s s.countLate := by
  refine sheds_of_same ?_ ?_ ?_ ?_ (onward_countLate s).notices ?_
  all_goals
    unfold State.countLate State.raiseIf State.raise
    dsimp only
    repeat' split
  all_goals rfl

theorem failureWords_sheds (s : State) (id : Nat) (r : Request) (o : ReqOutcome) : Sheds id s (s.failureWords r o).2.2 := by
  rcases failureWords_state s r o with e | e <;> rw [e]
  · exact sheds_refl id s
  · exact sheds_of_same rfl rfl rfl rfl (fun _ hi => hi) rfl

/-! ### Its end and its posting -/

theorem request_of_alone {s : State} {r : Request} (alone : s.queue.held = [r]) : s.request r.id = some r := by
  simp [State.request, alone]

theorem modify_of_alone {s : State} {r : Request} (alone : s.queue.held = [r]) (g : Request → Request) :
    s.modify r.id g = { s with queue := { s.queue with held := [g r] } } := by
  simp [State.modify, alone]

/-- The one request held in `s` has entered FINISHED, its record `c` waiting to be posted (R54). -/
structure EndedAlone (s : State) (r : Request) (c : Completion) (t : State) : Prop where
  sheds    : Sheds r.id s t
  held     : ∃ q, t.queue.held = [q] ∧ q.id = r.id
  finished : t.queue.finished = [(r.id, c)]
  noJobs   : ∀ j ∈ t.allJobs, j.isFor r.id = false
  cleared  : ∀ n, (t.frame n).unreadOf r.id = false

/-- The held request as its end fixes it (R54, R67, R151). -/
def State.fixedRequest (s : State) (r : Request) (o : ReqOutcome) (a : Option SectorAddr) : Request :=
  r.fixed (r.endOutcome o) (r.endAddr o a) (if r.kind = .update || r.chain.isSome then s.unit.flags else CondFlags.clear)

/-- The record of a lone request that ends with the outcome (R54, R67, R68). -/
def State.endRecord (s : State) (r : Request) (o : ReqOutcome) (a : Option SectorAddr) : Completion :=
  let words := (s.fixOutcome r o a).failureWords (s.fixedRequest r o a) (r.endOutcome o)
  (s.fixedRequest r o a).record s.clock (r.endOutcome o) words.1 words.2.1

theorem countLate_allJobs (s : State) : s.countLate.allJobs = s.allJobs := by
  unfold State.countLate State.raiseIf State.raise
  dsimp only
  repeat' split
  all_goals rfl

theorem finished_endedAlone {s : State} {r : Request} (alone : s.queue.held = [r]) (none_ : s.queue.finished = []) (o : ReqOutcome) :
    EndedAlone s r (r.record s.clock o (s.failureWords r o).1 (s.failureWords r o).2.1) (s.finished r o) := by
  let u := ((s.failureWords r o).2.2.dropJobs r.id).dropWaits r.id
  have left : Sheds r.id s (u.releaseOwned r.id) :=
    (((failureWords_sheds s r.id r o).trans (dropJobs_sheds _ _)).trans (dropWaits_sheds _ _)).trans (releaseOwned_sheds _ _)
  have queue : (u.releaseOwned r.id).queue = s.queue := by simp [u, State.dropWaits]
  have there : (u.releaseOwned r.id).queue.held = [r] := by rw [queue, alone]
  have ends : s.finished r o = { u.releaseOwned r.id with queue := { s.queue with
      held := [r.finishedWith o]
      finished := [(r.id, r.record s.clock o (s.failureWords r o).1 (s.failureWords r o).2.1)] } } := by
    unfold State.finished
    simp only [modify_of_alone there, u] at *
    simp [none_]
  rw [ends]
  refine ⟨left.trans (sheds_of_same rfl rfl rfl rfl (fun _ hi => hi) rfl), ⟨_, rfl, rfl⟩, rfl, fun j hj => ?_, releaseOwned_clears u r.id⟩
  have mem : j ∈ ((s.failureWords r o).2.2.dropJobs r.id).allJobs := by
    simpa [State.allJobs, u, State.dropWaits] using hj
  rw [State.dropJobs, allJobs_filter] at mem
  simpa using (List.mem_filter.mp mem).2

/-- The end of a lone request that no delivery is under way for (R54). -/
theorem endRequest_endedAlone {s : State} {r : Request} (alone : s.queue.held = [r]) (none_ : s.queue.finished = [])
    (open_ : r.state ≠ .finished) (quiet : s.delivering r.id = false) (o : ReqOutcome) (a : Option SectorAddr) :
    EndedAlone s r (s.endRecord r o a) (s.endRequest r.id o a) := by
  rw [endRequest_eq (request_of_alone alone), if_neg (by simpa [State.delivering, State.allJobs, State.fixOutcome, State.modify] using quiet)]
  have held : (s.fixOutcome r o a).queue.held = [s.fixedRequest r o a] := congrArg (WorkQueue.held ∘ State.queue) (modify_of_alone alone _)
  have there : (s.fixOutcome r o a).request r.id = some (s.fixedRequest r o a) := request_of_alone held
  have sheds : Sheds r.id s (s.fixOutcome r o a) := modify_sheds s r.id r.id _
  have ended := finished_endedAlone held none_ (r.endOutcome o)
  rcases finish_of_open there open_ (r.endOutcome o) with e | e
  · rw [e]
    exact ⟨sheds.trans ended.sheds, ended.held, ended.finished, ended.noJobs, ended.cleared⟩
  · rw [e]
    refine ⟨(sheds.trans ended.sheds).trans (countLate_sheds _ r.id), by rw [State.countLate_queue]; exact ended.held,
      by rw [State.countLate_queue]; exact ended.finished, by rw [countLate_allJobs]; exact ended.noJobs, fun n => ?_⟩
    rw [State.frame, State.countLate_cache]
    exact ended.cleared n

/-- The one record that waits is posted where the FIFO has a place (R55). -/
theorem post_of_alone {s : State} {q : Request} {c : Completion} (held : s.queue.held = [q]) (waits : s.queue.finished = [(q.id, c)])
    (room : s.port.fifo.length < 16) :
    s.post = { s with port := { s.port with fifo := s.port.fifo ++ [c] }, queue := { s.queue with held := [], finished := [] } } := by
  have unblocked : s.blockedIds = [] := by
    simp [State.blockedIds, State.blocked, held, Request.blocks]
  have first : s.queue.finished.find? (fun p => s.postable p.1) = some (q.id, c) := by
    simp [waits, State.postable, request_of_alone held, held]
  have posted : s.postRecord q.id c =
      { s with port := { s.port with fifo := s.port.fifo ++ [c] }, queue := { s.queue with held := [], finished := [] } } := by
    unfold State.postRecord
    simp [unblocked, held, waits]
  unfold State.post
  rw [held, waits]
  have fits : s.port.fifo.length < Config.fifoPlaces := room
  simp only [List.length_singleton, State.postUpTo, fits, if_true, first, posted]
  simp

end Sys2Proof.Machine
end

section
/-! PROOF. A lone request's end and its posting together; the drain of a rejected label (R157). -/

namespace Sys2Proof.Machine

/-- The one request held in `s` has ended, its record `c` is in the FIFO, and nothing stands ready to be taken up (R54, R55). -/
structure PostedAlone (s : State) (r : Request) (c : Completion) (v : State) : Prop where
  still    : Still v
  only     : v = { s with port := v.port, queue := v.queue, faults := v.faults, cache := v.cache, monitor := v.monitor,
                          freeDraws := v.freeDraws }
  fifo     : v.port.fifo = s.port.fifo ++ [c]
  held     : v.queue.held = []
  notices  : ∀ i, s.port.notices.getLsbD i = true → v.port.notices.getLsbD i = true
  entries  : v.faults.entries = s.faults.entries
  noJobs   : ∀ j ∈ v.allJobs, j.isFor r.id = false
  cleared  : ∀ n, (v.frame n).unreadOf r.id = false
  store    : v.cache.store = s.cache.store
  frames   : ∀ n, v.frame n = s.frame n ∨ ((s.frame n).unreadOf r.id = true ∧ v.frame n = Frame.free)
  refresh  : ∀ e ∈ v.cache.refresh, e ∈ s.cache.refresh

theorem EndedAlone.posted {s t : State} {r : Request} {c : Completion} (h : EndedAlone s r c t) (still : Still s)
    (quiet : s.delivering r.id = false) (room : s.port.fifo.length < 16) : PostedAlone s r c t.post := by
  obtain ⟨sheds, ⟨q, held, same⟩, finished, noJobs, cleared⟩ := h
  rw [post_of_alone held (same ▸ finished) (by rw [sheds.fifo]; exact room)]
  refine ⟨⟨?_, sheds.waits still.waits, rfl, fun n hn => ?_⟩, by rw [sheds.only], by rw [sheds.fifo], rfl, sheds.notices, sheds.entries, noJobs,
    cleared, sheds.store, sheds.frames, sheds.refresh⟩
  · rw [sheds.only]
    exact still.powered
  · have before := still.spent n (by simpa [State.frameNumbers, sheds.length] using hn)
    have work : t.seq.work = s.seq.work := by rw [sheds.only]
    have hold := sheds.hold quiet n
    change t.spent n = false
    rcases sheds.frames n with e | ⟨-, e⟩
    · simpa [State.spent, State.refreshing, hold, e, work] using before
    · exact not_spent_of_frame (by simp [e, Frame.free]) (by simp [e, Frame.free, Frame.retiring])

/-- The one request held in `s` has ended with record `c`, and the station, with nothing else to do, is at rest (R36, R37, R54). -/
structure EndedAtRest (s : State) (r : Request) (c : Completion) (t : State) : Prop where
  idle    : BackToIdle s t
  wrd     : t.drive.wrd = s.drive.wrd
  unit    : t.unit = s.unit
  cart    : t.cart = s.cart
  fifo    : t.port.fifo = s.port.fifo ++ [c]
  held    : t.queue.held = []
  notices : ∀ i, s.port.notices.getLsbD i = true → t.port.notices.getLsbD i = true
  entries : t.faults.entries = s.faults.entries
  noJobs  : ∀ j ∈ t.allJobs, j.isFor r.id = false
  cleared : ∀ n, (t.frame n).unreadOf r.id = false
  store   : t.cache.store = s.cache.store
  frames  : ∀ n, t.frame n = s.frame n ∨ ((s.frame n).unreadOf r.id = true ∧ t.frame n = Frame.free)

theorem PostedAlone.rests {s v : State} {r : Request} {c : Completion} (h : PostedAlone s r c v) (idle : s.seq = Sequencer.idle)
    (fresh : s.cart.state = .mounted → s.cache.refresh = []) (label : s.cart.state ≠ .loading) :
    EndedAtRest s r c (v.tidy.selectionPoint).settle := by
  have seq : v.seq = Sequencer.idle := by rw [h.only]; exact idle
  have cart : v.cart = s.cart := by rw [h.only]
  have noWork : NoWork v := by
    refine ⟨h.held, fun hc => List.eq_nil_iff_forall_not_mem.mpr (fun e he => ?_), by rwa [cart]⟩
    have before := h.refresh e he
    rw [fresh (cart ▸ hc)] at before
    exact List.not_mem_nil before
  have rest := rests_of_noWork h.still (fun f => by simp [State.refreshing, seq, Sequencer.idle]) noWork
  rw [post_of_nil v h.still.finished] at rest
  have zones : v.zones = s.zones := by rw [h.only]
  have unit : v.unit = s.unit := by rw [h.only]
  have wrd : v.drive.wrd = s.drive.wrd := by rw [h.only]
  refine ⟨⟨rest.seq.trans seq, rest.access, rest.hold, rest.drivers, rest.zones.trans zones⟩, rest.wrd.trans wrd, rest.unit.trans unit,
    rest.cart.trans cart, ?_, ?_, ?_, ?_, fun j hj => ?_, fun n => ?_, ?_, fun n => ?_⟩
  · rw [rest.port]
    exact h.fifo
  · rw [rest.queue]
    exact h.held
  · rw [rest.port]
    exact h.notices
  · rw [rest.faults]
    exact h.entries
  · exact h.noJobs j (by simpa [State.allJobs, rest.port] using hj)
  · rw [rest.toSameRecords.frame]
    exact h.cleared n
  · rw [rest.cache]
    exact h.store
  · rw [rest.toSameRecords.frame]
    exact h.frames n

/-! ### The drain of one waiting request -/

theorem dirFrame_congr {s t : State} (length : t.cache.frames.length = s.cache.frames.length) {a : SectorAddr}
    (holds : ∀ n, (t.frame n).holds a = (s.frame n).holds a) : t.dirFrame a = s.dirFrame a := by
  have same : t.cache.frames.map (·.holds a) = s.cache.frames.map (·.holds a) := by
    refine List.ext_getElem (by simp [length]) (fun i hi hj => ?_)
    simp only [List.length_map] at hi hj
    have here := holds i
    simpa [State.frame, hi, hj] using here
  have mapped (u : State) : u.dirFrame a = (u.cache.frames.map (·.holds a)).findIdx? id := by
    rw [State.dirFrame, List.findIdx?_map]
    rfl
  rw [mapped, mapped, same]

/-- No sector left to do is held VALID: the consultation changes nothing (R79). -/
theorem consult_of_miss {s : State} {r : Request} (hr : s.request r.id = some r) (left : r.undone ≠ [])
    (miss : r.kind = .read ∨ r.kind = .pin → ∀ i ∈ r.undone, s.validFrame (sectorAt r.addr.cyl i) = none) : s.consult r.id = s := by
  unfold State.consult
  rw [hr]
  dsimp only
  split
  · next consults =>
    have kind : r.kind = .read ∨ r.kind = .pin := by
      simp only [State.consults, Bool.and_eq_true, Bool.or_eq_true, beq_iff_eq] at consults
      rcases consults.1.2 with pin | ⟨read, -⟩
      · exact .inr pin
      · exact .inl read
    have none_ : s.takeHits r = s := by
      suffices any : ∀ l : List Nat, (∀ i ∈ l, s.validFrame (sectorAt r.addr.cyl i) = none) → l.foldl (fun t idx =>
          match t.validFrame (sectorAt r.addr.cyl idx) with
          | some f => t.hit r idx f
          | none => t) s = s from any _ (miss kind)
      intro l
      induction l with
      | nil => exact fun _ => rfl
      | cons i l ih =>
        intro h
        rw [List.foldl_cons, h i (by simp)]
        exact ih (fun j hj => h j (by simp [hj]))
    rw [none_, if_neg (by simpa [State.allDone, hr] using left)]
  · rfl

/-- The drain of one drive request in STAGING or WAITING that no VALID frame serves (R157). -/
theorem drain_of_alone {s : State} {r : Request} (alone : s.queue.held = [r]) (none_ : s.queue.finished = [])
    (drive : r.kind.isDrive = true) (waiting : r.state = .staging ∨ r.state = .waiting) (quiet : s.delivering r.id = false)
    (left : r.undone ≠ []) (miss : r.kind = .read ∨ r.kind = .pin → ∀ i ∈ r.undone, s.validFrame (sectorAt r.addr.cyl i) = none)
    (o : ReqOutcome) :
    ∃ u : State, EndedAlone s r (u.endRecord { r with reserved := 0 } o none) (s.drain o) := by
  let u := (((s.dropStaging r.id).dropWaits r.id).releaseOwned r.id).modify r.id (fun q => { q with reserved := 0 })
  have cleared : Sheds r.id s u :=
    (((dropStaging_sheds s r.id).trans (dropWaits_sheds _ _)).trans (releaseOwned_sheds _ _)).trans (modify_sheds _ _ _ _)
  have queue : (((s.dropStaging r.id).dropWaits r.id).releaseOwned r.id).queue = s.queue := by
    simp [State.dropWaits, State.dropStaging]
  have there : u.queue = { s.queue with held := [{ r with reserved := 0 }] } := by
    simp only [u]
    rw [modify_of_alone (r := r) (by rw [queue, alone]), queue]
  have still_open : r.state ≠ .finished := by rcases waiting with e | e <;> simp [e]
  have ended := endRequest_endedAlone (s := u) (r := { r with reserved := 0 }) (by rw [there]) (by rw [there]; exact none_) still_open
    (cleared.delivering quiet) o none
  have one : s.drainOne o r.id = u.endRequest r.id o none := by
    unfold State.drainOne
    rw [request_of_alone alone]
    rcases waiting with e | e <;> simp [e, drive, u]
  have same : s.drain o = u.endRequest r.id o none := by
    have ordered (t : State) (c : Completion) (h : t.queue.finished = [(r.id, c)]) : t.orderFinished 0 = t := by
      unfold State.orderFinished
      rw [h]
      simp only [List.take_zero, List.drop_zero, List.insertionSort_cons, List.insertionSort_nil, List.orderedInsert_nil, List.nil_append]
      rw [← h]
    unfold State.drain
    have consulted : s.consultAll = s := by
      simp only [State.consultAll, alone, List.map_cons, List.map_nil, List.foldl_cons, List.foldl_nil]
      exact consult_of_miss (request_of_alone alone) left miss
    rw [consulted]
    simp only [alone, none_, List.map_cons, List.map_nil, List.foldl_cons, List.foldl_nil, List.length_nil, one]
    exact ordered _ _ ended.finished
  rw [same]
  exact ⟨u, cleared.trans ended.sheds, ended.held, ended.finished, ended.noJobs, ended.cleared⟩

end Sys2Proof.Machine
end

section
/-! PROOF. A label rejected while one drive request waits (R156, R157). -/

namespace Sys2Proof.Machine

/-- The record of a drive request that fails (R68). -/
theorem endRecord_of_failure {s : State} {r : Request} {o : ReqOutcome} (fails : o.isFailure = true) (not_ : o.isSuccess = false)
    (drive : r.kind.isDrive = true) (a : Option SectorAddr) :
    (s.endRecord r o a).tag = r.tag ∧ (s.endRecord r o a).kindCode = r.kind.code ∧ (s.endRecord r o a).outcome = o
      ∧ (s.endRecord r o a).sectors = r.done.length ∧ (s.endRecord r o a).wordA = (a.getD r.firstUndone).word := by
  have refused : r.refusal o = none := by simp [Request.refusal, not_]
  have outcome : r.endOutcome o = o := by simp [Request.endOutcome, refused]
  have addr : r.endAddr o a = a := by simp [Request.endAddr, refused]
  refine ⟨rfl, rfl, outcome, rfl, ?_⟩
  have drives : (s.fixedRequest r o a).kind.isDrive = true := drive
  simp only [State.endRecord, Request.record, State.failureWords, outcome, fails, drives, if_true]
  simp only [State.fixedRequest, Request.fixed, addr]
  rfl

/-- The lent frame held no sector: the directory serves after its return what it served before. -/
theorem LabelTaken.validFrame {s x : State} {m : Nat} (taken : LabelTaken s (some m) x) (lent : s.labelFrame = some m) {a : SectorAddr}
    (miss : s.validFrame a = none) : x.validFrame a = none := by
  have others (n : Nat) (hn : n ≠ m) : x.frame n = s.frame n := by rw [taken.frames, if_neg (by simpa using hn)]
  have out := (labelFrame_spec lent).2.2
  have same : x.dirFrame a = s.dirFrame a := by
    refine dirFrame_congr taken.length (fun n => ?_)
    by_cases e : n = m
    · subst e
      have free : x.frame n = Frame.free := by rw [taken.frames, if_pos rfl]
      simp [free, Frame.holds, Frame.free, out]
    · rw [others n e]
  unfold State.validFrame at *
  rw [same]
  cases h : s.dirFrame a with
  | none => rfl
  | some f =>
    have inside : f ≠ m := by
      rintro rfl
      simp [(dirFrame_spec h).2.1] at out
    simpa [h, others f inside] using miss

/-- One drive request waits in STAGING or WAITING: the drain ends it (R157). -/
theorem label_rejected_of_request {s : State} {d : DataField} {idx m : Nat} (h : LabelReading s d idx m) (l : Lines) {r : Request}
    (alone : s.queue.held = [r]) (loading : s.cart.state = .loading) (verdict : labelSerial (d.words.take 256) = none)
    (drive : r.kind.isDrive = true) (waiting : r.state = .staging ∨ r.state = .waiting) (quiet : s.delivering r.id = false)
    (left : r.undone ≠ []) (room : s.port.fifo.length < 16)
    (miss : r.kind = .read ∨ r.kind = .pin → ∀ i ∈ r.undone, s.validFrame (sectorAt r.addr.cyl i) = none) :
    ∃ t c, exec (.dataFieldRead d l) s = .next t
      ∧ t.cart = { s.cart with state := .unusable, lastSerial := none } ∧ t.port.notices.getLsbD 2 = true
      ∧ c.tag = r.tag ∧ c.kindCode = r.kind.code ∧ c.outcome = .noCartridge ∧ c.sectors = r.done.length
      ∧ c.wordA = r.firstUndone.word
      ∧ t.port.fifo = s.port.fifo ++ [c] ∧ t.queue.held = [] ∧ (∀ j ∈ t.allJobs, j.isFor r.id = false)
      ∧ (∀ g, (s.frame g).owner = some r.id → (s.frame g).state = .staged → t.frame g = Frame.free)
      ∧ BackToIdle s t ∧ t.faults.entries = s.faults.entries ∧ LabelWords s m (d.words.take 256) t := by
  obtain ⟨x, run, taken, words⟩ := exec_labelRead h l
  let z := x.rejectedLabel
  have still : Still z := taken.still.rejectedLabel
  have judged : x.labelVerdict (some (d.words.take 256)) = z.drain .noCartridge :=
    (labelVerdict_rejected (ws := some _) verdict).trans
      (labelRejected_eq (by rw [taken.zones]; exact h.configured) (taken.cart ▸ loading))
  have quietly : z.delivering r.id = false := by
    simpa [State.delivering, State.allJobs, z, State.rejectedLabel, taken.port] using quiet
  obtain ⟨u, ended⟩ := drain_of_alone (s := z) (by rw [← alone]; exact congrArg WorkQueue.held taken.queue) still.finished drive waiting
    quietly left (fun hk i hi => taken.validFrame h.lent (miss hk i hi)) .noCartridge
  obtain ⟨tag, kind, outcome, sectors, wordA⟩ := endRecord_of_failure (s := u) (r := { r with reserved := 0 }) (o := .noCartridge) rfl rfl
    drive none
  have port : z.port.fifo = s.port.fifo := by simp only [z, State.rejectedLabel, taken.port]
  have rest := (ended.posted still quietly (by rw [port]; exact room)).rests taken.seq (fun hc => by simp [z, State.rejectedLabel] at hc)
    (by simp [z, State.rejectedLabel])
  rw [judged] at run
  generalize u.endRecord { r with reserved := 0 } .noCartridge none = c at *
  generalize (z.drain .noCartridge).post.tidy.selectionPoint.settle = t at run rest
  refine ⟨t, c, run, rest.cart.trans (by simp [z, State.rejectedLabel, taken.cart]), rest.notices 2 (by simp [z, State.rejectedLabel]),
    tag, kind, outcome, sectors, wordA, rest.fifo.trans (by rw [port]), rest.held, rest.noJobs, fun g owner staged => ?_,
    ⟨rest.idle.seq, rest.idle.access, rest.idle.hold, rest.idle.drivers, rest.idle.zones.trans taken.zones⟩,
    rest.entries.trans (by simp only [z, State.rejectedLabel, taken.faults]), words.same rest.store ?_⟩
  · have stands : z.frame g = s.frame g := (taken.frames g).trans (if_neg (by
      rintro ⟨⟩
      simp [(labelFrame_spec h.lent).2.1] at staged))
    rcases rest.frames g with same | ⟨-, free⟩
    · have left := rest.cleared g
      simp [same, stands, Frame.unreadOf, owner, staged] at left
    · exact free
  · rcases rest.frames m with same | ⟨-, free⟩
    · exact same
    · exact free.trans words.free.symm

end Sys2Proof.Machine
end

section
/-! PROOF. An UPDATE's sector read good: its frame, its words, the update unit (R97, R112, R140, R141). -/

namespace Sys2Proof.Machine

/-! ### The sector read -/

/-- The record of the VALID unpinned directory frame of a sector. -/
def Frame.ofSector (a : SectorAddr) : Frame := { Frame.free with state := .valid, addr := some a, inDir := true }

/-- The cache with the words of sector `a` in frame `f`, the most recent (R106, R108, R112). -/
def Cache.withSector (c : Cache) (f : Nat) (a : SectorAddr) (ws : List Word) : Cache :=
  { c with store := writeFrame c.store f ws, frames := c.frames.set f (Frame.ofSector a), refresh := c.refresh.filter (·.frame != f)
           lru := c.lru.filter (· != f) ++ [f] }

/-- An UPDATE's sector enters the directory of a caching zone, where no other frame holds it (R112). -/
theorem settleRead_of_update {s : State} {r : Request} {f idx : Nat} {ws : List Word} (update : r.kind = .update)
    (caches : s.zones.caches r.addr.cyl = true) (only : ∀ g, s.dirFrame (sectorAt r.addr.cyl idx) = some g → g = f)
    (unpinned : (s.frame f).pinned = false) :
    s.settleRead r f (sectorAt r.addr.cyl idx) ws = { s with cache := s.cache.withSector f (sectorAt r.addr.cyl idx) ws } := by
  have prev : ((s.putWords f ws).dirFrame (sectorAt r.addr.cyl idx)).filter (· != f) = none := by
    change (s.dirFrame (sectorAt r.addr.cyl idx)).filter (· != f) = none
    cases h : s.dirFrame (sectorAt r.addr.cyl idx) with
    | none => rfl
    | some g => simp [Option.filter, only g h]
  have pinned : ((s.putWords f ws).frame f).pinned = false := unpinned
  have kept : (s.putWords f ws).zones.caches (sectorAt r.addr.cyl idx).cyl = true := caches
  unfold State.settleRead
  simp only [kept, if_true, State.enterDirectory, prev, pinned, update]
  rfl

/-- The request after its UPDATE's read: its sector done, its words noted (R141). -/
def Request.operated (r : Request) (idx : Nat) (old new : Word) : Request := { r.markDone idx .disk with oldWord := old, newWord := new }

/-- The station after an UPDATE's sector has been read good and the unit has operated (R97, R112, R140). -/
def State.updateRead (s : State) (r : Request) (idx f : Nat) (ws : List Word) (old : Word) : State :=
  let new := updateWord r.op r.opA r.opB old
  { s with
    cache := s.cache.withSector f (sectorAt r.addr.cyl idx) ws
    unit := { inProgress := some { op := r.op, opA := r.opA, opB := r.opB, old := old, new := new }
              flags := updateFlags r.op r.opA r.opB old }
    queue := { s.queue with held := s.queue.held.map (fun q => if q.id == r.id then q.operated idx old new else q) } }

theorem operated_id (q : Request) (idx : Nat) (old new : Word) : (q.operated idx old new).id = q.id := markDone_id q idx .disk

theorem requestReadGood_of_update {s : State} {r : Request} {f idx : Nat} {ws : List Word} (update : r.kind = .update)
    (caches : s.zones.caches r.addr.cyl = true) (only : ∀ g, s.dirFrame (sectorAt r.addr.cyl idx) = some g → g = f)
    (unpinned : (s.frame f).pinned = false) :
    let old := ws.getD r.offset 0
    let u := s.updateRead r idx f ws old
    s.requestReadGood r idx f ws =
      if updateWord r.op r.opA r.opB old = old then (u.recDone idx).continueRequest r.id
      else (u.closeGates.mapSeq (fun q => { q.setRec idx (fun x => { x with purpose := .write, again := false }) with
        state := .updating, visit := none, pass := [] })).tidy := by
  intro old u
  have settled := settleRead_of_update (s := s.modify r.id (fun q => q.markDone idx .disk)) (ws := ws) (idx := idx) update caches only unpinned
  have read : s.requestReadGood r idx f ws =
      ((s.modify r.id (fun q => q.markDone idx .disk)).settleRead r f (sectorAt r.addr.cyl idx) ws).operate r idx old := by
    simp only [State.requestReadGood, update]
    rfl
  rw [read, settled]
  have twice : (s.queue.held.map (fun q => if q.id == r.id then q.markDone idx .disk else q)).map
      (fun q => if q.id == r.id then { q with oldWord := old, newWord := updateWord r.op r.opA r.opB old } else q)
        = s.queue.held.map (fun q => if q.id == r.id then q.operated idx old (updateWord r.op r.opA r.opB old) else q) := by
    rw [List.map_map]
    refine List.map_congr_left (fun q _ => ?_)
    by_cases e : q.id = r.id <;> simp [e, markDone_id, Request.operated]
  unfold State.operate
  simp only [State.modify, twice]
  rfl

/-- The read good of an UPDATE's sector, from the command. -/
theorem fieldRead_update {t : State} {d : DataField} {r : Request} {idx f : Nat} (h : Visiting t .reading r idx)
    (frame : t.seq.frame = some f) (sync : d.sync = true) (good : fieldWordsGood d.words = true) :
    t.fieldRead d = t.requestReadGood r idx f (d.words.take 256) := by
  have fine : fieldClass d = .good := by simp [fieldClass, sync, good]
  have solid : t.refreshVoid = false := by simp only [State.refreshVoid, h.work]
  have read : t.readGood idx (fieldData d) = t.requestReadGood r idx f (fieldData d) := by
    simp only [State.readGood, h.work, h.held, frame, Option.getD_some]
  simp only [State.fieldRead, h.state, h.visit, State.stopOr, h.going, solid, fine]
  exact read

theorem updateRead_still {s : State} (still : Still s) (r : Request) (idx f : Nat) (ws : List Word) (old : Word) :
    Still (s.updateRead r idx f ws old) := by
  refine still.of_frames rfl rfl rfl rfl rfl rfl (by simp [State.updateRead, Cache.withSector]) (fun n => ?_)
  have frame := frame_of_set (s := s) (t := s.updateRead r idx f ws old) (f := f) (fr := Frame.ofSector (sectorAt r.addr.cyl idx)) rfl n
  split at frame
  · refine .inr (not_spent_of_frame ?_ ?_)
    all_goals rw [frame]
    · simp [Frame.ofSector]
    · simp [Frame.ofSector, Frame.retiring]
  · exact .inl frame

end Sys2Proof.Machine
end

section
/-! PROOF. The two ends of an UPDATE's read: UPDATING where the word changes, the request's end where it does not (R97, R99, R140). -/

namespace Sys2Proof.Machine

/-- The data field `d` of the UPDATE `r` has been read good into frame `f`, its zone a caching one (R97, R112). -/
structure UpdateReading (s : State) (d : DataField) (r : Request) (idx f : Nat) : Prop where
  still    : Still s
  wf       : StoreInv s
  visiting : Visiting s .reading r idx
  sync     : d.sync = true
  good     : fieldWordsGood d.words = true
  update   : r.kind = .update
  frame    : s.seq.frame = some f
  inStore  : f < 64
  frames   : s.cache.frames.length = 64
  caches   : s.zones.caches r.addr.cyl = true
  only     : ∀ g, s.dirFrame (sectorAt r.addr.cyl idx) = some g → g = f
  unpinned : (s.frame f).pinned = false
  inSector : r.offset < 256

/-- The sector stands in its frame as read (R97). -/
structure SectorRead (s : State) (f : Nat) (a : SectorAddr) (ws : List Word) (t : State) : Prop where
  here   : readFrame t.cache.store f = ws
  others : ∀ g, g ≠ f → readFrame t.cache.store g = readFrame s.cache.store g
  frame  : t.frame f = Frame.ofSector a

theorem SectorRead.same {s t u : State} {f : Nat} {a : SectorAddr} {ws : List Word} (h : SectorRead s f a ws t)
    (store : u.cache.store = t.cache.store) (frame : u.frame f = t.frame f) : SectorRead s f a ws u :=
  ⟨by rw [store]; exact h.here, fun g hg => by rw [store]; exact h.others g hg, frame.trans h.frame⟩

theorem getD_take_sector {ws : List Word} {i : Nat} (h : i < 256) : (ws.take 256).getD i 0 = ws.getD i 0 := by
  simp [List.getD_eq_getElem?_getD, h]

theorem updateRead_sectorRead {s : State} {d : DataField} {r : Request} {idx f : Nat} (h : UpdateReading s d r idx f) (l : Lines)
    (old : Word) :
    SectorRead s f (sectorAt r.addr.cyl idx) (d.words.take 256) ((s.sample l).updateRead r idx f (d.words.take 256) old) := by
  refine ⟨readFrame_writeFrame_same h.wf h.inStore (by simp [length_of_fieldWordsGood h.good]),
    fun g hg => readFrame_writeFrame_other h.wf h.inStore _ hg, ?_⟩
  have frame := frame_of_set (s := s) (t := (s.sample l).updateRead r idx f (d.words.take 256) old) (f := f)
    (fr := Frame.ofSector (sectorAt r.addr.cyl idx)) rfl f
  rwa [if_pos ⟨rfl, by rw [h.frames]; exact h.inStore⟩] at frame

/-- The end of an UPDATE's read (R97, R140). -/
theorem exec_updateRead {s : State} {d : DataField} {r : Request} {idx f : Nat} (h : UpdateReading s d r idx f) (l : Lines) :
    let old := d.words.getD r.offset 0
    let u := (s.sample l).updateRead r idx f (d.words.take 256) old
    exec (.dataFieldRead d l) s = .next (State.settle (
      if updateWord r.op r.opA r.opB old = old then (u.recDone idx).continueRequest r.id
      else (u.closeGates.mapSeq (fun q => { q.setRec idx (fun x => { x with purpose := .write, again := false }) with
        state := .updating, visit := none, pass := [] })).tidy)) := by
  intro old u
  have visiting : Visiting (s.sample l) .reading r idx :=
    ⟨h.visiting.state, h.visiting.work, h.visiting.held, h.visiting.visit, h.visiting.going, h.visiting.tenure⟩
  have read := requestReadGood_of_update (s := s.sample l) (ws := d.words.take 256) h.update h.caches h.only h.unpinned
  rw [getD_take_sector h.inSector] at read
  rw [exec_dataFieldRead h.still.powered, fieldRead_update visiting h.frame h.sync h.good, read]

/-- Where the new word differs the write is pending, the sequencer UPDATING (R97, R141). -/
theorem update_changes {s : State} {d : DataField} {r : Request} {idx f : Nat} (h : UpdateReading s d r idx f) (l : Lines)
    (differs : updateWord r.op r.opA r.opB (d.words.getD r.offset 0) ≠ d.words.getD r.offset 0) :
    let old := d.words.getD r.offset 0
    let new := updateWord r.op r.opA r.opB old
    ∃ t, exec (.dataFieldRead d l) s = .next t
      ∧ t.seq = { s.seq.setRec idx (fun x => { x with purpose := .write, again := false }) with
          state := .updating, visit := none, pass := [] }
      ∧ t.unit = { inProgress := some { op := r.op, opA := r.opA, opB := r.opB, old := old, new := new }
                   flags := updateFlags r.op r.opA r.opB old }
      ∧ t.queue.held = s.queue.held.map (fun q => if q.id == r.id then q.operated idx old new else q)
      ∧ SectorRead s f (sectorAt r.addr.cyl idx) (d.words.take 256) t
      ∧ t.drive = { s.drive with rdg := false, wrg := false } ∧ t.port = s.port ∧ t.faults = s.faults ∧ t.access = s.access := by
  intro old new
  let u := (s.sample l).updateRead r idx f (d.words.take 256) old
  let v := u.closeGates.mapSeq (fun q => { q.setRec idx (fun x => { x with purpose := .write, again := false }) with
        state := .updating, visit := none, pass := [] })
  have sampled : Still (s.sample l) := h.still.of_frames rfl rfl rfl rfl rfl rfl rfl (fun _ => .inl rfl)
  have still : Still v := (updateRead_still sampled r idx f (d.words.take 256) old).of_frames rfl rfl rfl rfl rfl rfl rfl (fun _ => .inl rfl)
  have run := exec_updateRead h l
  have rest : v.tidy.settle = v := by
    rw [tidy_of_still still, settle_of_still still, State.settleAccess, show v.access.state = .holding from h.visiting.tenure]
  dsimp only at run
  rw [if_neg differs] at run
  exact ⟨v, run.trans (congrArg Host.Outcome.next rest), rfl, rfl, rfl, (updateRead_sectorRead h l old).same rfl rfl, rfl, rfl, rfl, rfl⟩

end Sys2Proof.Machine
end

section
/-! PROOF. An UPDATE whose word stays the same ends at its read (R97, R99, R141). -/

namespace Sys2Proof.Machine

/-- A sector that becomes done leaves the pending ones. -/
theorem pendingIdx_recDone (s : State) (idx : Nat) : (s.recDone idx).seq.pendingIdx = s.seq.pendingIdx.filter (· != idx) := by
  have any : ∀ l : List SectorRec,
      (((l.map (fun r => if r.idx == idx then { r with purpose := .done, again := false } else r)).filter (·.purpose != .done)).map (·.idx))
        = ((l.filter (·.purpose != .done)).map (·.idx)).filter (· != idx) := by
    intro l
    induction l with
    | nil => rfl
    | cons r l ih =>
      by_cases mine : r.idx = idx
      · by_cases done : r.purpose = .done <;> simp_all
      · by_cases done : r.purpose = .done <;> simp_all
  exact any s.seq.recs

/-- The record of an UPDATE that succeeds: both words and the unit's flags (R67, R141). -/
theorem endRecord_of_update {s : State} {r : Request} {o : ReqOutcome} (ok : o = .done ∨ o = .doneRetried) (update : r.kind = .update)
    (accepted : r.refusedAt = none) (unwritten : r.written = false) :
    (s.endRecord r o none).tag = r.tag ∧ (s.endRecord r o none).kindCode = r.kind.code ∧ (s.endRecord r o none).outcome = o
      ∧ (s.endRecord r o none).written = false ∧ (s.endRecord r o none).wordA = r.oldWord ∧ (s.endRecord r o none).wordB = r.newWord
      ∧ (s.endRecord r o none).flags = s.unit.flags ∧ (s.endRecord r o none).sectors = r.done.length := by
  have refused : r.refusal o = none := by simp [Request.refusal, accepted]
  have outcome : r.endOutcome o = o := by simp [Request.endOutcome, refused]
  have kind : (s.fixedRequest r o none).kind = .update := update
  have success : o.isSuccess = true := by rcases ok with rfl | rfl <;> rfl
  have fails : o.isFailure = false := by rcases ok with rfl | rfl <;> rfl
  have not_ : o ≠ .skipped := by rcases ok with rfl | rfl <;> decide
  have words : (s.fixOutcome r o none).failureWords (s.fixedRequest r o none) o = (r.oldWord, r.newWord, s.fixOutcome r o none) := by
    simp only [State.failureWords, fails, kind, success, bne_iff_ne.mpr not_]
    rfl
  have flags : (s.fixedRequest r o none).flags = s.unit.flags := by
    simp [State.fixedRequest, Request.fixed, update]
  have clear : (s.fixedRequest r o none).written = false := unwritten
  refine ⟨rfl, rfl, outcome, ?_, ?_, ?_, ?_, rfl⟩
  · simp only [State.endRecord, Request.record, clear, Bool.false_and]
  · simp only [State.endRecord, Request.record, outcome, words]
  · simp only [State.endRecord, Request.record, outcome, words]
  · simp only [State.endRecord, Request.record, outcome, success, if_true, flags]

theorem Still.seqIdle {s : State} (still : Still s) (fresh : ∀ f, s.refreshing f = false) : Still s.seqIdle :=
  (seqIdle_sameRecords s).still still fresh

/-- The lone UPDATE's work has succeeded: its end, then the posting and the selection point (R99). -/
theorem continueRequest_of_alone {s : State} {r : Request} (alone : s.queue.held = [r]) (unchained : r.chain = none)
    (none_ : s.seq.pendingIdx = []) :
    s.continueRequest r.id =
      ((State.endRequest { s.seqIdle with unit := { inProgress := none, flags := s.unit.flags } } r.id
        (if s.seq.retried then .doneRetried else .done) none).post.tidy).selectionPoint := by
  have pending : s.seq.noPending = true := by simp [Sequencer.noPending, none_]
  have later : s.laterMembers r = [] := by simp [State.laterMembers, unchained]
  have flags : endFlags r (if s.seq.retried then .doneRetried else .done) s.unit.flags = s.unit.flags := by
    split <;> simp [endFlags, ReqOutcome.isSuccess, unchained]
  simp only [State.continueRequest, pending, if_true, request_of_alone alone, State.workSucceeds, State.requestSucceeds, later, State.runChain,
    State.requestDecided, flags]

theorem operated_chain (q : Request) (idx : Nat) (old new : Word) : (q.operated idx old new).chain = q.chain := by
  unfold Request.operated Request.markDone; split <;> rfl

/-- The UPDATE's sector done, the sequencer IDLE, the unit at rest with its flags (R99). -/
def State.updateDone (s : State) (idx : Nat) : State :=
  { (s.recDone idx).seqIdle with unit := { inProgress := none, flags := s.unit.flags } }

theorem Still.updateDone {s : State} (h : Still s) {id : Nat} (work : s.seq.work = some (.request id)) (idx : Nat) :
    Still (s.updateDone idx) := by
  have read : Still (s.recDone idx) := h.of_frames rfl rfl rfl rfl rfl rfl rfl (fun _ => .inl rfl)
  have idle := read.seqIdle (fun g => by simp [State.refreshing, show (s.recDone idx).seq.work = some (.request id) from work])
  exact idle.of_frames rfl rfl rfl rfl rfl rfl rfl (fun _ => .inl rfl)

/-- Where the new word is the old one the UPDATE ends at its read (R97, R99, R141). -/
theorem update_leaves {s : State} {d : DataField} {r : Request} {idx f : Nat} (h : UpdateReading s d r idx f) (l : Lines)
    (same : updateWord r.op r.opA r.opB (d.words.getD r.offset 0) = d.words.getD r.offset 0) (alone : s.queue.held = [r])
    (running : r.state = .running) (unchained : r.chain = none) (accepted : r.refusedAt = none) (unwritten : r.written = false)
    (undone : idx ∉ r.done) (quiet : s.delivering r.id = false) (last : s.seq.pendingIdx = [idx]) (mounted : s.cart.state = .mounted)
    (fresh : s.cache.refresh = []) (room : s.port.fifo.length < 16) :
    let old := d.words.getD r.offset 0
    let flags := updateFlags r.op r.opA r.opB old
    ∃ t c, exec (.dataFieldRead d l) s = .next t ∧ c.tag = r.tag ∧ c.kindCode = r.kind.code
      ∧ c.outcome = (if s.seq.retried = true then .doneRetried else .done) ∧ c.written = false ∧ c.wordA = old ∧ c.wordB = old
      ∧ c.flags = flags ∧ c.sectors = r.done.length + 1
      ∧ t.port.fifo = s.port.fifo ++ [c] ∧ t.queue.held = [] ∧ t.unit = { inProgress := none, flags := flags }
      ∧ SectorRead s f (sectorAt r.addr.cyl idx) (d.words.take 256) t
      ∧ t.drive.wrd = s.drive.wrd ∧ BackToIdle s t ∧ t.faults.entries = s.faults.entries ∧ t.cart = s.cart := by
  intro old flags
  let q := r.operated idx old (updateWord r.op r.opA r.opB old)
  let u := (s.sample l).updateRead r idx f (d.words.take 256) old
  let y := u.updateDone idx
  let o : ReqOutcome := if s.seq.retried then .doneRetried else .done
  have sampled : Still (s.sample l) := h.still.of_frames rfl rfl rfl rfl rfl rfl rfl (fun _ => .inl rfl)
  have still : Still y := (updateRead_still sampled r idx f (d.words.take 256) old).updateDone h.visiting.work idx
  have counted : q = { r with
      done := r.done ++ [idx]
      source := joinSource r.source .disk
      promised := r.promised.filter (· != idx)
      oldWord := old
      newWord := updateWord r.op r.opA r.opB old } := by
    simp [q, Request.operated, Request.markDone, undone]
  have id : q.id = r.id := operated_id r idx _ _
  have held : (u.recDone idx).queue.held = [q] := by
    change s.queue.held.map _ = [q]
    rw [alone]
    simp [q]
  have pending : (u.recDone idx).seq.pendingIdx = [] := by
    rw [pendingIdx_recDone]
    change s.seq.pendingIdx.filter (· != idx) = []
    simp [last]
  have ends := continueRequest_of_alone held ((operated_chain r idx _ _).trans unchained) pending
  have run := exec_updateRead h l
  dsimp only at run
  rw [if_pos same, ← id, ends] at run
  have quietly : y.delivering q.id = false := by rw [id]; exact quiet
  have ended := endRequest_endedAlone (s := y) (r := q) held still.finished (by simp [counted, running]) quietly o none
  have nothing : y.cache.refresh = [] := by
    change s.cache.refresh.filter _ = []
    rw [fresh, List.filter_nil]
  have rest := (ended.posted still quietly room).rests rfl (fun _ => nothing) (by
    change s.cart.state ≠ .loading
    rw [mounted]
    decide)
  obtain ⟨tag, kind, outcome, written, wordA, wordB, flag, sectors⟩ := endRecord_of_update (s := y) (r := q) (o := o)
    (by cases hr : s.seq.retried <;> simp [o, hr]) (by rw [counted]; exact h.update) (by rw [counted]; exact accepted)
    (by rw [counted]; exact unwritten)
  have run : exec (.dataFieldRead d l) s = .next ((y.endRequest q.id o none).post.tidy.selectionPoint).settle := run
  generalize y.endRecord q o none = c at *
  generalize (y.endRequest q.id o none).post.tidy.selectionPoint.settle = t at run rest
  have read : SectorRead s f (sectorAt r.addr.cyl idx) (d.words.take 256) y := (updateRead_sectorRead h l old).same rfl rfl
  refine ⟨t, c, run, by rw [tag, counted], by rw [kind, counted], outcome, written, by rw [wordA, counted], ?_, flag,
    by rw [sectors, counted, List.length_append]; rfl, rest.fifo, rest.held, rest.unit, read.same rest.store ?_, rest.wrd,
    ⟨rest.idle.seq, rest.idle.access, rest.idle.hold, rest.idle.drivers, rest.idle.zones⟩, rest.entries, rest.cart⟩
  · rw [wordB, counted]
    exact same
  · rcases rest.frames f with kept | ⟨unread, -⟩
    · exact kept
    · simp [read.frame, Frame.ofSector, Frame.unreadOf, Frame.free] at unread

end Sys2Proof.Machine
end

section
/-! PROOF. The word operation and the label verdict put together (O57). -/

namespace Sys2Proof.Proofs
open Sys2Proof.Machine

/-- Settles O57, by the ends of the two reads: the update unit's new word against the old one, the verdict on a label against the state of
cartridge control. -/
theorem updateOperatesAndLabelDecides : Obligations.UpdateOperatesAndLabelDecides := by
  unfold Obligations.UpdateOperatesAndLabelDecides
  refine ⟨?update, ?label, ?marked⟩
  case update =>
    intro s l d r idx f still wf visiting sync good kind frame inStore frames caches only unpinned inSector
    have h : UpdateReading s d r idx f :=
      ⟨still, wf, visiting, sync, good, kind, frame, inStore, frames, caches, only, unpinned, inSector⟩
    refine ⟨fun differs => ?_, fun same alone running unchained accepted unwritten undone quiet last mounted fresh room => ?_⟩
    · obtain ⟨t, run, seq, unit, held, read, drive, port, faults, access⟩ := update_changes h l differs
      refine ⟨t, run, seq, unit, ?_, ⟨read.here, read.others, read.frame⟩, drive, port, faults, access⟩
      simpa only [beq_iff_eq, Request.operated] using held
    · obtain ⟨t, c, run, tag, code, outcome, written, wordA, wordB, flags, sectors, fifo, held, unit, read, wrd, idle, entries, cart⟩ :=
        update_leaves h l same alone running unchained accepted unwritten undone quiet last mounted fresh room
      exact ⟨t, c, run, tag, code, outcome, written, wordA, wordB, flags, sectors, fifo, held, unit, ⟨read.here, read.others, read.frame⟩,
        wrd, idle.seq, idle.access, idle.hold, idle.drivers, entries, idle.zones, cart⟩
  case label =>
    intro s l d idx m still wf configured reading work visit frame lent inStore going holding sync good
    have h : LabelReading s d idx m := ⟨still, wf, configured, reading, work, visit, frame, lent, inStore, going, sync, good⟩
    refine ⟨?other, ?last, ?rejected, ?waiting, ?unloading, ?owed⟩
    case other =>
      intro held loading serial verdict other stale
      obtain ⟨t, run, cart, notices, empties, idle, queue, faults, words⟩ := label_of_other h l held loading verdict other stale
      exact ⟨t, run, cart, notices, ⟨empties.free, empties.retired, empties.refresh⟩,
        ⟨idle.seq, idle.access, idle.hold, idle.drivers, idle.zones⟩, queue, faults, words.here, words.others, words.free⟩
    case last =>
      intro held loading serial verdict same unlike known
      obtain ⟨t, run, cart, notices, freed, kept, refresh, queue, zones, words⟩ := label_of_last h l held loading verdict same unlike known
      exact ⟨t, run, cart, notices, freed, kept, refresh, queue, zones, words.here, words.others, words.free⟩
    case rejected =>
      intro held loading verdict
      obtain ⟨t, run, cart, notices, idle, queue, faults, refresh, words⟩ := label_rejected_of_loading h l held loading verdict
      exact ⟨t, run, cart, notices, ⟨idle.seq, idle.access, idle.hold, idle.drivers, idle.zones⟩, queue, faults, refresh,
        words.here, words.others, words.free⟩
    case waiting =>
      intro r alone loading verdict drive unchained waiting quiet left room miss
      obtain ⟨t, c, run, cart, notice, tag, code, outcome, sectors, wordA, fifo, held, jobs, freed, idle, entries, words⟩ :=
        label_rejected_of_request h l alone loading verdict drive waiting quiet left room miss
      have first : r.firstUndone = sectorAt r.addr.cyl (r.undone.headD 0) := by
        cases hu : r.undone with
        | nil => exact absurd hu left
        | cons i is => simp [Request.firstUndone, hu]
      exact ⟨t, c, run, cart, notice, tag, code, outcome, sectors, first ▸ wordA, fifo, held, jobs, freed,
        ⟨idle.seq, idle.access, idle.hold, idle.drivers, idle.zones⟩, entries, words.here, words.others, words.free⟩
    case unloading =>
      intro held unloading serial verdict
      obtain ⟨t, run, cart, notices, empties, idle, queue, faults, words⟩ := label_of_unloading h l held unloading verdict
      exact ⟨t, run, cart, notices, fun other stale => let e := empties other stale; ⟨e.free, e.retired, e.refresh⟩,
        ⟨idle.seq, idle.access, idle.hold, idle.drivers, idle.zones⟩, queue, faults, words.here, words.others, words.free⟩
    case owed =>
      intro held unloading verdict
      obtain ⟨t, run, cart, notices, idle, queue, faults, refresh, words⟩ := label_rejected_of_unloading h l held unloading verdict
      exact ⟨t, run, cart, notices, ⟨idle.seq, idle.access, idle.hold, idle.drivers, idle.zones⟩, queue, faults, refresh,
        words.here, words.others, words.free⟩
  case marked =>
    intro s l h idx still configured searching work visit _ _ loading held none_ marked
    exact label_markedBad l still configured searching work visit loading held none_ marked

end Sys2Proof.Proofs
end

section
/-! PROOF. The empty queue, the values at power-on, the counters (O2, O3, O4, O12, O19). -/

namespace Sys2Proof.Machine

/-- When a station has drive work (R24). -/
theorem hasWork_iff (s : State) :
    s.hasWork = true ↔ 1 ≤ s.bidUrgency ∧ (s.cart.state = .loading ∨ s.cart.state = .mounted) := by
  simp [State.hasWork, CartState.permits]

/-- With no command waiting a station with power finds a HOLD after its millisecond (R33, R70). -/
theorem step_of_empty {s : State} (empty : s.pending = []) (power : s.powered = true) :
    step s = .next (State.findHold { s with clock := s.clock + 1 }) := by
  simp [step, empty, State.tick, power]

/-- With no command waiting a station without power does nothing (R20). -/
theorem step_of_off {s : State} (empty : s.pending = []) (off : s.powered = false) : step s = .next s := by
  simp [step, empty, State.tick, off]

/-- Nothing is found where no HOLD stands untaken. -/
theorem findHold_of_taken {s : State} (h : s.holdUntaken = false) : s.findHold = s := by simp [State.findHold, h]

/-- A HOLD that stands untaken is taken as an unidentified holding (R33). -/
theorem findHold_of_untaken {s : State} (h : s.holdUntaken = true) : s.findHold = s.takeUnidentified := by simp [State.findHold, h]

/-- An IDLE station with drive work enters WAITING (R24). -/
theorem settleAccess_of_idle {s : State} (idle : s.access.state = .idle) :
    s.settleAccess = if s.hasWork then { s with access := { s.access with state := .waiting } } else s := by
  simp [State.settleAccess, idle]

/-- A WAITING station without drive work returns to IDLE and drops CALL (R24, R38). -/
theorem settleAccess_of_waiting {s : State} (waiting : s.access.state = .waiting) :
    s.settleAccess = if s.hasWork then s
      else { s with access := { s.access with state := .idle }, lines := { s.lines with call := false } } := by
  simp [State.settleAccess, waiting]

/-- A counter's notice is due at the multiples of its threshold (R166). -/
theorem thresholdHit_iff (code : BitVec 2) (v : BitVec 16) : thresholdHit code v = true ↔
    (code = 1 ∧ 16 ∣ v.toNat) ∨ (code = 2 ∧ 256 ∣ v.toNat) ∨ (code = 3 ∧ 4096 ∣ v.toNat) := by
  have codes : code = 0 ∨ code = 1 ∨ code = 2 ∨ code = 3 := by revert code; decide
  rcases codes with rfl | rfl | rfl | rfl <;> simp [thresholdHit, Nat.dvd_iff_mod_eq_zero]

/-- A configured station's notice under a condition. -/
theorem raiseIf_of_configured {s : State} (on : s.zones.configured = true) (c : Bool) (n : Notice) :
    s.raiseIf c n = { s with port := { s.port with notices := if c then setMark s.port.notices n else s.port.notices } } := by
  cases c
  · rfl
  · exact raise_of_configured on n

/-- The station right after power-on is one that power has come to, with every level found deasserted. -/
theorem reset_eq_poweredOn :
    State.reset = State.reset.poweredOn { ids := false, rdy := false, ulr := false, pres := false, hold := false } := rfl

end Sys2Proof.Machine

namespace Sys2Proof.Proofs
open Sys2Proof.Machine

/-- Settles O2: with power the millisecond is followed by the finding of a HOLD, which holds just where `found` says. -/
theorem emptyQueueTicks : Obligations.EmptyQueueTicks := by
  unfold Obligations.EmptyQueueTicks
  intro s empty found
  have untaken : State.holdUntaken { s with clock := s.clock + 1 } = true ↔ found := holdUntaken_iff _
  refine ⟨fun off => step_of_off empty off, fun power nothing => ?_, fun power stands => ?_⟩
  · rw [step_of_empty empty power, findHold_of_taken (by simpa using mt untaken.mp nothing)]
  · rw [step_of_empty empty power, findHold_of_untaken (untaken.mpr stands)]
    rfl

/-- Settles O3: the state at power-on, item by item. -/
theorem powerOnValues : Obligations.PowerOnValues := by
  unfold Obligations.PowerOnValues
  have frames : ∀ fr ∈ State.reset.cache.frames, fr.state = .free ∧ fr.pinned = false ∧ fr.inDir = false := by
    intro fr h
    rw [List.eq_of_mem_replicate h]
    exact ⟨rfl, rfl, rfl⟩
  have zones : ∀ e ∈ State.reset.zones.map, e.mode = .none ∧ e.noWrite = false := by
    intro e h
    rw [List.eq_of_mem_replicate h]
    exact ⟨rfl, rfl⟩
  have unguarded : ∀ c, State.reset.zones.guarded c = false := by
    intro c
    change (decide (1 ≤ c) && decide (c ≤ 0)) = false
    simpa using fun h : 1 ≤ c => Nat.pos_iff_ne_zero.mp h
  exact ⟨rfl, rfl, rfl, rfl, rfl, rfl, rfl, rfl, rfl, rfl, frames, rfl, rfl, rfl, rfl, rfl, rfl, rfl, rfl, rfl, rfl, rfl, zones, unguarded,
    rfl, rfl, rfl, rfl, rfl, rfl, rfl⟩

/-- Settles O4: the empty store, list, port and queue meet their invariants; the line's is kept by every power-on. -/
theorem invariantsAtPowerOn : Obligations.InvariantsAtPowerOn := by
  unfold Obligations.InvariantsAtPowerOn
  have store : StoreInv State.reset := ⟨List.Pairwise.nil, fun _ h => absurd h List.not_mem_nil⟩
  have faults : FaultInv State.reset := ⟨by decide, List.Pairwise.nil, fun _ h => absurd h List.not_mem_nil⟩
  have port : PortInv State.reset := ⟨by decide, by decide, fun _ => rfl, by decide, fun _ => rfl⟩
  have ids : IdInv State.reset := ⟨List.nodup_nil, fun _ h => absurd h List.not_mem_nil⟩
  exact ⟨store, faults, port, ids, reset_eq_poweredOn ▸ LineInv.poweredOn _ _⟩

/-- Settles O12: the five cases of the access state and the drive work. -/
theorem driveWorkMovesAccess : Obligations.DriveWorkMovesAccess := by
  unfold Obligations.DriveWorkMovesAccess
  intro s work
  have has : s.hasWork = true ↔ work := hasWork_iff s
  refine ⟨fun idle h => ?_, fun idle h => ?_, fun waiting h => ?_, fun waiting h => ?_, fun notIdle notWaiting => ?_⟩
  · rw [settleAccess_of_idle idle, if_pos (has.mpr h)]
  · rw [settleAccess_of_idle idle, if_neg (mt has.mp h)]
  · rw [settleAccess_of_waiting waiting, if_pos (has.mpr h)]
  · rw [settleAccess_of_waiting waiting, if_neg (mt has.mp h)]
  · exact settleAccess_of_steady ⟨notIdle, notWaiting⟩

/-- Settles O19: the multiples of the threshold, and each counter's step as a notice under that condition. -/
theorem countersAndThresholds : Obligations.CountersAndThresholds := by
  unfold Obligations.CountersAndThresholds
  refine ⟨thresholdHit_iff, fun s on => ⟨?retry, ?collide, ?capture, ?late⟩⟩
  case retry => exact raiseIf_of_configured (s := { s with faults := { s.faults with retry := s.faults.retry + 1 } }) on _ _
  case collide => exact raiseIf_of_configured (s := { s with faults := { s.faults with collide := s.faults.collide + 1 } }) on _ _
  case capture => exact raiseIf_of_configured (s := { s with faults := { s.faults with capture := s.faults.capture + 1 } }) on _ _
  case late => exact raiseIf_of_configured (s := { s with faults := { s.faults with late := s.faults.late + 1 } }) on _ _

end Sys2Proof.Proofs
end

section
/-! PROOF. The windows of a round, the end of a backoff, the yield call, LINE-HELD, the outcome observed (O50, O52, O53). -/

namespace Sys2Proof.Machine

/-! ### The access state settled -/

/-- The drive work does not hang on the access record nor on the lines the station drives (R24, R78). -/
theorem hasWork_of_line (s : State) (a : Access) (x : StationLines) : State.hasWork { s with access := a, lines := x } = s.hasWork := rfl

/-- The change between IDLE and WAITING leaves the rest of the access record. -/
theorem settleAccess_access (s : State) : s.settleAccess.access = { s.access with state := s.settleAccess.access.state } := by
  rcases settleAccess_cases s with e | ⟨-, -, e⟩ | ⟨-, -, e⟩ <;> rw [e]

/-- An access state once settled stays (R24). -/
theorem settleAccess_settled (s : State) : s.settleAccess.settleAccess = s.settleAccess := by
  rcases settleAccess_cases s with e | ⟨-, work, e⟩ | ⟨-, none_, e⟩
  · rw [e, e]
  · rw [e, settleAccess_of_waiting rfl]
    exact if_pos work
  · rw [e, settleAccess_of_idle rfl]
    exact if_neg (by rw [hasWork_of_line, none_]; simp)

/-- A station in IDLE or WAITING stays in one of them. -/
theorem settleAccess_resting {s : State} (h : s.access.state = .idle ∨ s.access.state = .waiting) :
    s.settleAccess.access.state = .idle ∨ s.settleAccess.access.state = .waiting := by
  rcases settleAccess_cases s with e | ⟨-, -, e⟩ | ⟨-, -, e⟩ <;> rw [e]
  · exact h
  · exact .inr rfl
  · exact .inl rfl

/-- A settled access state is not moved by a yield call. -/
theorem settleAccess_callIfUrgent {s : State} (h : s.settleAccess = s) : s.callIfUrgent.settleAccess = s.callIfUrgent := by
  unfold State.callIfUrgent
  split
  · next calls =>
    simp only [Bool.and_eq_true, decide_eq_true_eq] at calls
    have waiting := calls.1.1
    have work : s.hasWork = true := by
      by_contra none_
      rw [settleAccess_of_waiting waiting, if_neg none_] at h
      have idle := congrArg (fun t : State => t.access.state) h
      simp [waiting] at idle
    exact (settleAccess_of_waiting (s := { s with lines := { s.lines with call := true } }) waiting).trans (if_pos work)
  · exact h

/-! ### The commands of the line on a station with power -/

section Commands
variable {s : State} (power : s.powered = true)
include power

theorem exec_window1Ends (m : Bool) : exec (.window1Ends m) s =
    .next (State.windowEnds { s with pins := { s.pins with mark1 := m } } .window1 .window2 (·.endWindow1 m)) :=
  congrArg _ (if_pos power)

theorem exec_window2Ends (m : Bool) : exec (.window2Ends m) s =
    .next (State.windowEnds { s with pins := { s.pins with mark2 := m } } .window2 .tie (·.endWindow2 m)) :=
  congrArg _ (if_pos power)

theorem exec_tieWindowEnds (m : Bool) : exec (.tieWindowEnds m) s =
    .next (State.windowEnds { s with pins := { s.pins with mark1 := m } } .tie .check (·.endTie m)) :=
  congrArg _ (if_pos power)

theorem exec_identityCheckEnds (h m n : Bool) (l : Lines) : exec (.identityCheckEnds h m n l) s =
    .next ((s.sample l).checkEnds h m n).settle :=
  congrArg _ (if_pos power)

theorem exec_backoffTimerExpires : exec .backoffTimerExpires s = .next s.backoffEnds :=
  congrArg _ (if_pos power)

theorem exec_yieldCall (on : s.zones.configured = true) (l : Lines) : exec (.yieldCall l) s =
    .next (s.sample l).settleAccess.callIfUrgent :=
  congrArg _ ((if_pos power).trans (if_pos on))

theorem exec_lineHeld : exec .lineHeld s = .next s.lineIsHeld :=
  congrArg _ (if_pos power)

end Commands

/-! ### The windows -/

/-- The end of a window at a bidder in it. -/
theorem windowEnds_of_bidding {s : State} {w next : RoundWindow} (bidding : s.access.state = .bidding) (round : s.access.round = some w)
    (f : State → State) : s.windowEnds w next f = f { s with access := { s.access with round := some next } } := by
  simp [State.windowEnds, State.mapAccess, bidding, round]

/-! ### A holding measured -/

/-- LINE-HELD raised for a holding that is measured the first time (R41). -/
theorem raiseLineHeld_of_measured {s : State} (on : s.zones.configured = true) (holding : s.access.peerHolding.isSome = true)
    (pres : s.pins.pres = true) (other : s.access.state ≠ .holding) (first : s.access.lineHeldRaised = false) :
    s.raiseLineHeld = { s with
      access := { s.access with lineHeldRaised := true }
      port := { s.port with notices := s.port.notices ||| 0x0100#15 } } := by
  unfold State.raiseLineHeld
  rw [if_pos (by simp [holding, pres, other, first])]
  exact raise_of_configured (s := { s with access := { s.access with lineHeldRaised := true } }) on _

/-- Nothing is raised where there is nothing to measure (R41). -/
theorem raiseLineHeld_of_none {s : State} (h : s.access.peerHolding = none ∨ s.pins.pres = false ∨ s.access.state = .holding
    ∨ s.access.lineHeldRaised = true) : s.raiseLineHeld = s := by
  unfold State.raiseLineHeld
  rcases h with h | h | h | h <;> simp [h]

end Sys2Proof.Machine

namespace Sys2Proof.Proofs
open Sys2Proof.Machine

/-- Settles O50: each window's end at a bidder is its test, and either the withdrawal or what the survivor shows. -/
theorem bidWindows : Obligations.BidWindows := by
  unfold Obligations.BidWindows
  intro s m power bidding leave
  refine ⟨?first, ?second, ?tie⟩
  case first =>
    intro round p
    rw [exec_window1Ends power, windowEnds_of_bidding (s := p) bidding round]
    refine congrArg Host.Outcome.next ?_
    unfold State.endWindow1
    by_cases out : s.access.frozen = 1 ∧ m = true ∧ s.pins.pres = true
    · rw [if_pos (by simpa [State.seen, p] using out), if_pos out]
      rfl
    · rw [if_neg (by simpa [State.seen, p] using out), if_neg out]
      simp only [Bool.decide_or, beq_eq_decide]
      rfl
  case second =>
    intro round p
    rw [exec_window2Ends power, windowEnds_of_bidding (s := p) bidding round]
    refine congrArg Host.Outcome.next ?_
    unfold State.endWindow2
    by_cases out : s.access.frozen = 2 ∧ m = true ∧ s.pins.pres = true
    · rw [if_pos (by simpa [State.seen, p] using out), if_pos out]
      rfl
    · rw [if_neg (by simpa [State.seen, p] using out), if_neg out]
      simp only [beq_eq_decide]
      rfl
  case tie =>
    intro round p
    rw [exec_tieWindowEnds power, windowEnds_of_bidding (s := p) bidding round]
    refine congrArg Host.Outcome.next ?_
    unfold State.endTie
    by_cases out : s.identity ≠ s.access.turn ∧ m = true ∧ s.pins.pres = true
    · rw [if_pos (by simpa [State.seen, p] using out), if_pos out]
      rfl
    · rw [if_neg (by simpa [State.seen, p] using out), if_neg out]
      simp only [beq_eq_decide]
      rfl

/-- Settles O53: the resting state behind a backoff with a HOLD found or not, the yield call, and the three cases of LINE-HELD. -/
theorem backoffYieldCallLineHeld : Obligations.BackoffYieldCallLineHeld := by
  unfold Obligations.BackoffYieldCallLineHeld
  refine ⟨?backoff, ?yields, ?measured, ?found, ?nothing⟩
  case backoff =>
    intro s power backoff rest
    let t : State := { s with access := { s.access with backoff := none, state := rest } }
    have resting : s.restingState = rest := by
      simp only [State.restingState, hasWork_iff, rest]
    have run : exec .backoffTimerExpires s = .next t.findHold := by
      rw [exec_backoffTimerExpires power]
      simp [State.backoffEnds, backoff, State.mapAccess, resting, t]
    have untaken : t.holdUntaken = true ↔ s.pins.hold = true ∧ s.pins.pres = true ∧ s.access.peerHolding = none
        ∧ s.access.round ≠ some .check := by
      have state : rest = .idle ∨ rest = .waiting ∨ rest = .backoff := by
        simp only [rest]
        split
        · exact .inr (.inl rfl)
        · exact .inl rfl
      rw [holdUntaken_iff]
      simp only [t, state, and_true]
    rw [run]
    refine ⟨fun taken => congrArg _ (findHold_of_taken ?_), fun hold pres none_ round =>
      congrArg _ (findHold_of_untaken (untaken.mpr ⟨hold, pres, none_, round⟩))⟩
    rw [← Bool.not_eq_true, untaken]
    rintro ⟨hold, pres, none_, round⟩
    simp [hold, pres, none_, round] at taken
  case yields =>
    intro s l power on waiting observed mounted urgent
    have work : (s.sample l).hasWork = true := (hasWork_iff _).mpr ⟨by rw [urgent]; decide, .inr mounted⟩
    rw [exec_yieldCall power on, settleAccess_of_waiting (s := s.sample l) waiting, if_pos work, State.callIfUrgent,
      if_pos (by simp [waiting, State.peerTenure, observed, urgent])]
    rfl
  case measured =>
    intro s power on holding pres other first
    have none_ : s.findHold = s := findHold_of_taken (by
      rw [← Bool.not_eq_true, holdUntaken_iff]
      rintro ⟨-, -, none_, -⟩
      simp [none_] at holding)
    rw [exec_lineHeld power, State.lineIsHeld, none_, raiseLineHeld_of_measured on holding pres other first]
  case found =>
    intro s power on none_ hold pres round state
    have untaken : s.holdUntaken = true := (holdUntaken_iff s).mpr ⟨hold, pres, none_, round, state⟩
    rw [exec_lineHeld power, State.lineIsHeld, findHold_of_untaken untaken, raiseLineHeld_of_measured (s := s.takeUnidentified) on rfl pres
      (by rcases state with e | e | e <;> simp [State.takeUnidentified, e]) rfl]
    rfl
  case nothing =>
    intro s power h
    have none_ : s.findHold = s := findHold_of_taken (by
      rw [← Bool.not_eq_true, holdUntaken_iff]
      rintro ⟨hold, pres, none_, -, state⟩
      simp [hold, pres, none_] at h
      simp [h] at state)
    rw [exec_lineHeld power, State.lineIsHeld, none_, raiseLineHeld_of_none]
    rcases h with ⟨h, -⟩ | h | h | ⟨-, h⟩
    · exact .inl h
    · exact .inr (.inl h)
    · exact .inr (.inr (.inl h))
    · exact .inr (.inr (.inr h))

end Sys2Proof.Proofs
end

section
/-! PROOF. The edges of HOLD and of the peer's PRES, the outcome that an observer reads (O47, O48, O52). -/

namespace Sys2Proof.Machine

/-! ### The commands of the line on a configured station -/

section Commands
variable {s : State} (power : s.powered = true) (on : s.zones.configured = true)
include power on

theorem exec_holdFalls (pres : s.pins.pres = true) (cap : Option PeerField) : exec (.holdFalls cap) s =
    .next (State.holdEnds { s with pins := { s.pins with hold := false } } cap).settle :=
  congrArg _ ((if_pos power).trans ((if_pos on).trans (if_pos pres)))

theorem exec_holdRises (pres : s.pins.pres = true) : exec .holdRises s =
    .next (State.holdBegins { s with pins := { s.pins with hold := true } }).settle :=
  congrArg _ ((if_pos power).trans ((if_pos on).trans (if_pos pres)))

theorem exec_peerPresRises : exec .peerPresRises s = .next (State.peerArrives { s with pins := { s.pins with pres := true } }).settle :=
  congrArg _ ((if_pos power).trans (if_pos on))

theorem exec_peerPresFalls (cap : Option PeerField) : exec (.peerPresFalls cap) s =
    .next (State.peerLeaves { s with pins := { s.pins with pres := false } } cap).settle :=
  congrArg _ ((if_pos power).trans (if_pos on))

end Commands

/-! ### Stillness -/

/-- A station with the records of a still one is still. -/
theorem Still.of_records {s t : State} (h : Still s) (power : t.powered = s.powered := by rfl) (cache : t.cache = s.cache := by rfl)
    (queue : t.queue = s.queue := by rfl) (running : t.port.running = s.port.running := by rfl)
    (jobs : t.port.jobs = s.port.jobs := by rfl) (work : t.seq.work = s.seq.work := by rfl) : Still t :=
  h.of_frames power (by rw [cache]) (by rw [queue]) running jobs work (by rw [cache]) (fun f => .inl (by simp [State.frame, cache]))

/-- With no allocation and no finished request waiting, a sweep is all that precedes the access state. -/
theorem settle_of_empty {s : State} (waits : s.cache.waits = []) (finished : s.queue.finished = []) :
    s.settle = s.sweep.settleAccess := by
  have stays : s.sweep.cache.waits = [] := by
    refine foldl_keeps (fun t => t.cache.waits) _ (fun t f => ?_) s.frameNumbers s |>.trans waits
    split
    · rw [freeFrame_eq]
      rfl
    · rfl
  rw [State.settle, State.tidy, serveWaits_of_nil _ stays, post_of_nil _ (by simpa using finished)]

/-! ### The peer's holding ended -/

/-- The monitor and the holding after its end, with no capture in progress (R40, R125). -/
theorem holdingEnds_of_no_capture {s : State} (h : s.monitor.state ≠ .capturing) (cap : Option PeerField) :
    s.holdingEnds cap = { s with
      access := { s.access with peerHolding := none, lineHeldRaised := false }
      monitor := { s.monitor with state := if s.monitor.state = .watching then .idle else s.monitor.state } } := by
  have none_ : (if s.peerTenure then s.cutShort cap else s) = s := by simp [State.cutShort, h]
  unfold State.holdingEnds
  simp only [none_]

/-- What the report of a partial write may change: the cache, the monitor, and the fault list with its notices. -/
structure Reported (s t : State) : Prop where
  only    : t = { s with cache := t.cache, monitor := t.monitor, faults := t.faults, port := { s.port with notices := t.port.notices } }
  waits   : t.cache.waits = s.cache.waits
  collide : t.faults.collide = s.faults.collide

theorem Reported.refl (s : State) : Reported s s := ⟨rfl, rfl, rfl⟩

theorem Reported.trans {s t u : State} (h : Reported s t) (g : Reported t u) : Reported s u := by
  refine ⟨?_, g.waits.trans h.waits, g.collide.trans h.collide⟩
  rw [g.only, h.only]

theorem writtenWithoutGood_reported (s : State) (f : Nat) : Reported s (s.writtenWithoutGood f) := by
  have acted : Reported s (s.invalidate f) := by
    obtain ⟨only, waits, -, -⟩ := invalidate_onFrame s f
    refine ⟨?_, waits, ?_⟩
    · rw [only]
    · rw [only]
  unfold State.writtenWithoutGood
  dsimp only
  split
  · refine acted.trans ⟨rfl, rfl, rfl⟩
  · exact acted

theorem guardCheck_reported {s : State} (on : s.zones.configured = true) (a : SectorAddr) : Reported s (s.guardCheck a) := by
  have collide : (s.listFault (.sector a) .guardWritten .peer).faults.collide = s.faults.collide := by
    unfold State.listFault
    repeat' split
    · rfl
    · rw [raise_of_configured (s := { s with faults := _ }) (by exact on)]
    · rfl
  refine ⟨?_, by simp, ?_⟩
  · rw [guardCheck_eq on]
  · unfold State.guardCheck
    split
    · rw [raise_of_configured (by simpa using on)]
      exact collide
    · rfl

theorem reportPartial_reported {s : State} (on : s.zones.configured = true) : Reported s s.reportPartial := by
  unfold State.reportPartial
  split
  · exact .refl s
  · next head sec _ =>
    suffices any : ∀ (l : List Nat) (t : State), Reported s t → Reported s (l.foldl (fun t f =>
        let fr := t.frame f
        if fr.inDir && fr.addr.any (fun a => a.head == head && a.sec == sec) then t.writtenWithoutGood f else t) t) from
      any _ s (.refl s)
    intro l
    induction l with
    | nil => exact fun _ h => h
    | cons f l ih =>
      intro t h
      rw [List.foldl_cons]
      refine ih _ ?_
      dsimp only
      split
      · exact h.trans (writtenWithoutGood_reported t f)
      · exact h
  · next a _ =>
    refine (guardCheck_reported on a).trans ?_
    unfold State.peerWrite
    split
    · exact .refl _
    · exact writtenWithoutGood_reported _ _

theorem cutShort_reported {s : State} (on : s.zones.configured = true) (cap : Option PeerField) : Reported s (s.cutShort cap) := by
  have ends (t : State) : Reported t t.endUnreported := ⟨rfl, rfl, rfl⟩
  unfold State.cutShort
  dsimp only
  repeat' split
  · exact (reportPartial_reported on).trans (ends _)
  · exact ends s
  · exact .refl s

/-- The monitor watches no tenure, and none of the peer's is seen. -/
structure Unwatched (s : State) : Prop where
  tenure  : s.peerTenure = false
  monitor : s.monitor.state ≠ .watching

/-- A sweep leaves it so: a held capture that it drops leaves the monitor IDLE (R138). -/
theorem Unwatched.sweep {s : State} (h : Unwatched s) : Unwatched s.sweep := by
  suffices any : ∀ (l : List Nat) (t : State), Unwatched t → Unwatched (l.foldl (fun t f => if t.spent f then t.freeFrame f else t) t) from
    any _ s h
  intro l
  induction l with
  | nil => exact fun _ h => h
  | cons f l ih =>
    intro t h
    rw [List.foldl_cons]
    refine ih _ ?_
    split
    · refine ⟨by simpa [State.peerTenure] using h.tenure, ?_⟩
      rw [freeFrame_eq]
      change (t.dropHeld f).monitor.state ≠ .watching
      unfold State.dropHeld
      split
      · simp only [Monitor.unheld, h.tenure]
        split
        · exact nofun
        · exact h.monitor
      · exact h.monitor
    · exact h

/-- The end of the peer's holding, whatever was being captured: none is seen any more, the monitor no longer watches (R40, R125). -/
theorem holdingEnds_spec {s : State} (on : s.zones.configured = true) (cap : Option PeerField) :
    Unwatched (s.holdingEnds cap) ∧ ∃ t, Reported s t ∧ s.holdingEnds cap = { t with
      access := { s.access with peerHolding := none, lineHeldRaised := false }
      monitor := (s.holdingEnds cap).monitor } := by
  let t := if s.peerTenure then s.cutShort cap else s
  have reported : Reported s t := by
    simp only [t]
    split
    · exact cutShort_reported on cap
    · exact .refl s
  have access : t.access = s.access := by rw [reported.only]
  refine ⟨⟨rfl, ?_⟩, t, reported, ?_⟩
  · change (if t.monitor.state = .watching then MonState.idle else t.monitor.state) ≠ .watching
    split
    · exact nofun
    · assumption
  · rw [← access]
    rfl

/-! ### The peer's presence -/

/-- A change of the peer's PRES moves the turn mark, the round and, where a round of its own is abandoned, the lines (R21, R25). -/
structure PresChanged (s t : State) : Prop where
  only   : t = { s with access := t.access, lines := t.lines }
  access : t.access = { s.access with turn := .A, round := none, state := t.access.state }
  round  : s.access.state = .bidding ∨ s.access.state = .checking → (t.access.state = .idle ∨ t.access.state = .waiting)
    ∧ t.lines = { s.lines with hold := false, call := false, mark1 := false, mark2 := false }
  other  : s.access.state ≠ .bidding → s.access.state ≠ .checking → t.access.state = s.access.state ∧ t.lines = s.lines

theorem withdraw_spec (s : State) : s.withdraw = { s with
      access := { s.access with state := s.withdraw.access.state }
      lines := { s.lines with hold := false, call := false, mark1 := false, mark2 := false } }
    ∧ (s.withdraw.access.state = .idle ∨ s.withdraw.access.state = .waiting) := by
  have rests := settleAccess_resting (s := { s.dropRound with access := { s.dropRound.access with state := .waiting } }) (.inr rfl)
  refine ⟨?_, rests⟩
  unfold State.withdraw
  dsimp only
  rw [settleAccess_of_waiting rfl]
  split <;> rfl

theorem presChanged_spec (s : State) : PresChanged s s.presChanged := by
  have abandons (h : s.access.state = .bidding ∨ s.access.state = .checking) :
      s.presChanged = State.withdraw { s with access := { s.access with turn := .A, round := none } } := by
    unfold State.presChanged
    rcases h with h | h <;> simp [h]
  have stays (b : s.access.state ≠ .bidding) (c : s.access.state ≠ .checking) :
      s.presChanged = { s with access := { s.access with turn := .A, round := none } } := by
    unfold State.presChanged
    cases h : s.access.state <;> simp_all
  by_cases h : s.access.state = .bidding ∨ s.access.state = .checking
  · obtain ⟨eq, rests⟩ := withdraw_spec { s with access := { s.access with turn := .A, round := none } }
    rw [← abandons h] at eq rests
    refine ⟨?_, ?_, fun _ => ⟨rests, ?_⟩, fun b c => absurd h (by simp [b, c])⟩
    all_goals rw [eq]
  · simp only [not_or] at h
    rw [stays h.1 h.2]
    exact ⟨rfl, rfl, fun e => absurd e (by simp [h]), fun _ _ => ⟨rfl, rfl⟩⟩

end Sys2Proof.Machine
end

section
/-! PROOF. The edges of PRES and HOLD and the observed outcome, put together (O47, O48, O52). -/

namespace Sys2Proof.Machine

/-- A line that drops CALL anyhow is left by the settling of the access state. -/
theorem settleAccess_lines_of_no_call {s : State} (h : s.lines.call = false) : s.settleAccess.lines = s.lines := by
  rcases settleAccess_cases s with e | ⟨-, -, e⟩ | ⟨-, -, e⟩ <;> rw [e]
  rw [← h]

/-- The station after a change of the peer's PRES has been settled, as the peer's holding leaves it (R21, R25). -/
theorem PresChanged.settled {s u v : State} (h : PresChanged s u) (state : v.access.state = u.access.state) (lines : v.lines = u.lines) :
    (s.access.state = .bidding ∨ s.access.state = .checking →
        (v.settleAccess.access.state = .waiting ∨ v.settleAccess.access.state = .idle)
          ∧ v.settleAccess.lines = { s.lines with hold := false, call := false, mark1 := false, mark2 := false })
      ∧ (s.access.state = .holding ∨ s.access.state = .backoff →
        v.settleAccess.access.state = s.access.state ∧ v.settleAccess.lines = s.lines) := by
  refine ⟨fun round => ?_, fun other => ?_⟩
  · obtain ⟨rests, dropped⟩ := h.round round
    rw [settleAccess_lines_of_no_call (by rw [lines, dropped]), lines]
    exact ⟨(settleAccess_resting (state ▸ rests)).symm, dropped⟩
  · obtain ⟨same, kept⟩ := h.other (by rcases other with e | e <;> simp [e]) (by rcases other with e | e <;> simp [e])
    have steady : Steady v := by
      rw [Steady, state, same]
      rcases other with e | e <;> simp [e]
    rw [settleAccess_of_steady steady]
    exact ⟨state.trans same, lines.trans kept⟩

/-- The peer's PRES risen: the change, and a HOLD that stands then taken as an unidentified holding (R21, R33). -/
theorem peerArrives_eq {s : State} (on : s.zones.configured = true) :
    ∃ u, PresChanged { s with port := { s.port with notices := s.port.notices ||| 0x0020#15 } } u
      ∧ s.peerArrives = if s.pins.hold && u.access.state != .holding then u.takeUnidentified else u := by
  refine ⟨_, presChanged_spec _, ?_⟩
  have raised : s.raise .peerArrived = { s with port := { s.port with notices := s.port.notices ||| 0x0020#15 } } := raise_of_configured on _
  have pins : (State.presChanged { s with port := { s.port with notices := s.port.notices ||| 0x0020#15 } }).pins = s.pins := by
    rw [(presChanged_spec _).only]
  unfold State.peerArrives
  rw [raised]
  dsimp only
  rw [pins]

/-- The end of an identity check at a station that does not proceed (R31). -/
theorem checkEnds_of_observer {s : State} (state : s.access.state = .idle ∨ s.access.state = .waiting ∨ s.access.state = .backoff)
    (round : s.access.round = some .check) (h m n : Bool) :
    s.checkEnds h m n = State.readsOutcome { s with pins := { s.pins with hold := h, mark1 := m, mark2 := n } } h m n := by
  unfold State.checkEnds
  rw [if_pos round]
  exact if_neg (by rcases state with e | e | e <;> simp [e])

/-- The outcome read where the peer's mark stands alone with HOLD: a peer tenure (R31). -/
theorem readsOutcome_of_tenure {s : State} (pres : s.pins.pres = true) {m n : Bool} (peer : s.peerMark m n = true)
    (own : s.ownMark m n = false) : s.readsOutcome true m n =
      (State.peerTenureBegins { s with access := { s.access with round := none } }).settleAccess.callIfUrgent := by
  have marks : State.peerMark (s.mapAccess (fun a => { a with round := none })) m n = true
      ∧ State.ownMark (s.mapAccess (fun a => { a with round := none })) m n = false := ⟨peer, own⟩
  unfold State.readsOutcome
  dsimp only
  rw [marks.1, marks.2]
  exact if_pos (by simp [State.seen, pres])

/-- The other outcomes: no round, a collision observed, an unidentified holding (R31, R33, R125). -/
theorem readsOutcome_of_other {s : State} (pres : s.pins.pres = true) (none_ : s.access.peerHolding = none) {h m n : Bool}
    (other : ¬(h = true ∧ s.peerMark m n = true ∧ s.ownMark m n = false)) : s.readsOutcome h m n = { s with
      access :=
        if h = false then { s.access with round := none }
        else if s.peerMark m n = true then { s.access with round := none, turn := .A }
        else { s.access with round := none, peerHolding := some .unidentified, lineHeldRaised := false }
      monitor := if h = true ∧ s.peerMark m n = false then { s.monitor with arm := none } else s.monitor } := by
  have peer : State.peerMark (s.mapAccess (fun a => { a with round := none })) m n = s.peerMark m n := rfl
  have own : State.ownMark (s.mapAccess (fun a => { a with round := none })) m n = s.ownMark m n := rfl
  have seen : State.seen (s.mapAccess (fun a => { a with round := none })) h = h := by simp [State.seen, pres]
  unfold State.readsOutcome
  dsimp only
  rw [peer, own, seen]
  cases h
  · rfl
  · cases hp : s.peerMark m n
    · simp [none_, State.mapAccess, State.takeUnidentified]
    · cases ho : s.ownMark m n
      · exact absurd ⟨rfl, hp, ho⟩ other
      · simp [State.mapAccess]

/-- The marks beyond the station's own drive, by its identity (R31). -/
theorem marks_eq (s : State) (m n : Bool) :
    s.peerMark m n = (if s.identity = .A then n else m) ∧ s.ownMark m n = (if s.identity = .A then m else n) := by
  unfold State.peerMark State.ownMark
  cases s.identity <;> exact ⟨rfl, rfl⟩

end Sys2Proof.Machine

namespace Sys2Proof.Proofs
open Sys2Proof.Machine

/-- Settles O47: the rise by the change and the HOLD taken, the fall by the end of the peer's holding and the change. -/
theorem peerPresence : Obligations.PeerPresence := by
  unfold Obligations.PeerPresence
  intro s still on
  refine ⟨?rise, ?fall⟩
  case rise =>
    obtain ⟨u, changed, arrives⟩ := peerArrives_eq (s := { s with pins := { s.pins with pres := true } }) on
    have run := exec_peerPresRises still.powered on
    generalize State.peerArrives { s with pins := { s.pins with pres := true } } = v at arrives run
    have same : v = { u with
        access := { u.access with peerHolding := v.access.peerHolding, lineHeldRaised := v.access.lineHeldRaised }
        monitor := { u.monitor with arm := v.monitor.arm } } := by
      rw [arrives]
      split <;> rfl
    have taken : s.pins.hold = true → s.access.state ≠ .holding → v.access.peerHolding = some .unidentified ∧ v.monitor.arm = none := by
      intro hold other
      have still_other : u.access.state ≠ .holding := by
        by_cases round : s.access.state = .bidding ∨ s.access.state = .checking
        · rcases (changed.round round).1 with e | e <;> simp [e]
        · simp only [not_or] at round
          rw [(changed.other round.1 round.2).1]
          exact other
      rw [arrives, if_pos (by simp [hold, still_other])]
      exact ⟨rfl, rfl⟩
    have vstill : Still v := by
      refine still.of_records ?_ ?_ ?_ ?_ ?_ ?_
      all_goals rw [same, changed.only]
    obtain ⟨rounds, others⟩ := changed.settled (v := v) (by rw [same]) (by rw [same])
    refine ⟨_, run.trans (congrArg _ (settle_of_still vstill)), ?_⟩
    have access : v.settleAccess.access = { v.access with state := v.settleAccess.access.state } := settleAccess_access v
    refine ⟨?_, ?_, ?_, ?_, ?_, ?_, rounds, others, fun hold other => ?_, ?_⟩
    · rw [State.settleAccess_pins, same, changed.only]
    · rw [State.settleAccess_port, same, changed.only]
    iterate 4 rw [access, same, changed.access]
    · rw [access, State.settleAccess_monitor]
      exact taken hold other
    · simp only [State.settleAccess_queue, State.settleAccess_cache, State.settleAccess_faults, State.settleAccess_zones,
        State.settleAccess_cart, State.settleAccess_seq]
      rw [same, changed.only]
      exact ⟨rfl, rfl, rfl, rfl, rfl, rfl⟩
  case fall =>
    obtain ⟨unwatched, r, reported, ends⟩ := holdingEnds_spec (s := { s with pins := { s.pins with pres := false } }) on none
    have zones : (State.holdingEnds { s with pins := { s.pins with pres := false } } none).zones = s.zones := by
      rw [ends, reported.only]
    let w := State.raise (State.holdingEnds { s with pins := { s.pins with pres := false } } none) .peerLeft
    have raised : w = { State.holdingEnds { s with pins := { s.pins with pres := false } } none with
        port := { s.port with notices := setMark r.port.notices .peerLeft } } := by
      simp only [w]
      rw [raise_of_configured (by rw [zones]; exact on), ends, reported.only]
    have changed := presChanged_spec w
    let v := w.presChanged
    have waits : v.cache.waits = [] := by
      simp only [v]
      rw [changed.only, raised, ends]
      exact reported.waits.trans still.waits
    have finished : v.queue.finished = [] := by
      simp only [v]
      rw [changed.only, raised, ends, reported.only]
      exact still.finished
    have calm : Unwatched v.sweep := by
      refine Unwatched.sweep ⟨?_, ?_⟩
      · simp only [State.peerTenure, v]
        rw [changed.access, raised, ends]
        rfl
      · simp only [v]
        rw [changed.only, raised]
        exact unwatched.monitor
    have state : w.access.state = s.access.state := by rw [raised, ends]
    have lines : w.lines = s.lines := by rw [raised, ends, reported.only]
    obtain ⟨rounds, -⟩ := changed.settled (v := v.sweep) (by simp [v]) (by simp [v])
    rw [state, lines] at rounds
    have run : exec (.peerPresFalls none) s = .next v.sweep.settleAccess :=
      (exec_peerPresFalls still.powered on none).trans (congrArg _ (settle_of_empty waits finished))
    have access : v.sweep.settleAccess.access =
        { s.access with peerHolding := none, lineHeldRaised := false, turn := .A, round := none, state := v.sweep.settleAccess.access.state } := by
      rw [settleAccess_access, State.sweep_access, changed.access, raised, ends]
    have port : v.port.notices = setMark r.port.notices .peerLeft := by
      simp only [v]
      rw [changed.only, raised]
    refine ⟨_, run, ?_, ?_, ?_, ?_, ?_, ?_, ?_, ?_, rounds, ?_, ?_, ?_⟩
    · simp only [State.settleAccess_pins, State.sweep_pins, v]
      rw [changed.only, raised, ends, reported.only]
    iterate 5 rw [access]
    · simp only [State.settleAccess_faults, State.sweep_faults, v]
      rw [changed.only, raised, ends]
      exact reported.collide
    · simp [port, setMark, Notice.bit]
    · rw [State.settleAccess_monitor]
      exact calm.monitor
    · simp only [State.settleAccess_zones, State.sweep_zones, v]
      rw [changed.only, raised]
      exact zones
    · simp only [State.settleAccess_cart, State.sweep_cart, v]
      rw [changed.only, raised, ends, reported.only]

/-- Settles O48: the fall with no capture in progress, in BACKOFF and in IDLE or WAITING, and the rise that is a holding. -/
theorem holdEdges : Obligations.HoldEdges := by
  unfold Obligations.HoldEdges
  intro s still on pres
  have power := still.powered
  have falls (capturing : s.monitor.state ≠ .capturing) (state : s.access.state ≠ .bidding ∧ s.access.state ≠ .checking) :
      State.holdEnds { s with pins := { s.pins with hold := false } } none = { s with
        pins := { s.pins with hold := false }
        access := { s.access with peerHolding := none, lineHeldRaised := false, round := none }
        monitor := { s.monitor with state := if s.monitor.state = .watching then .idle else s.monitor.state } } := by
    unfold State.holdEnds
    rw [holdingEnds_of_no_capture (s := { s with pins := { s.pins with hold := false } }) capturing]
    unfold State.restartGap
    cases h : s.access.state <;> simp_all [State.mapAccess]
  refine ⟨fun backoff capturing => ?_, fun resting capturing => ?_, fun round other none_ => ?_⟩
  · rw [exec_holdFalls power on pres, falls capturing (by simp [backoff])]
    exact congrArg Host.Outcome.next (settle_of_steady still.of_records (by simp [Steady, backoff]))
  · refine ⟨_, exec_holdFalls power on pres none, ?_⟩
    rw [falls capturing (by rcases resting with e | e <;> simp [e]), settle_of_still still.of_records]
    rw [settleAccess_access]
    simp
  · have begins : State.holdBegins { s with pins := { s.pins with hold := true } } =
        State.takeUnidentified { s with pins := { s.pins with hold := true } } := by
      unfold State.holdBegins
      exact if_neg (by simp [round, other, none_])
    refine ⟨_, exec_holdRises power on pres, ?_⟩
    rw [begins, settle_of_still still.of_records]
    rw [settleAccess_access]
    simp [State.takeUnidentified]

/-- Settles O52: the four readings of HOLD and the marks, and the yield call of an observed tenure. -/
theorem observedOutcome : Obligations.ObservedOutcome := by
  unfold Obligations.ObservedOutcome
  intro s h m1 m2 l still state round pres none_ peer own read calls
  have run : exec (.identityCheckEnds h m1 m2 l) s = .next (State.readsOutcome { s.sample l with
      pins := { s.pins.sample l with hold := h, mark1 := m1, mark2 := m2 } } h m1 m2).settle := by
    rw [exec_identityCheckEnds still.powered, checkEnds_of_observer (s := s.sample l) state round]
    rfl
  obtain ⟨peerMark, ownMark⟩ := marks_eq s m1 m2
  let p : State := { s with pins := { s.pins.sample l with hold := h, mark1 := m1, mark2 := m2 } }
  have present : p.pins.pres = true := pres
  by_cases tenure : h = true ∧ peer = true ∧ own = false
  · obtain ⟨rfl, isPeer, notOwn⟩ := tenure
    have reads : read = (State.peerTenureBegins { p with access := { p.access with round := none } }).settleAccess := by
      simp [read, isPeer, notOwn, p, State.peerTenureBegins, Monitor.tenureBegins]
    have settled : read.settleAccess = read := reads ▸ settleAccess_settled _
    have observed : read.peerTenure = true := by
      rw [reads, State.peerTenure, settleAccess_access]
      rfl
    have ends : exec (.identityCheckEnds true m1 m2 l) s = .next read.callIfUrgent := by
      have taken := readsOutcome_of_tenure (s := p) present (peerMark.trans isPeer) (ownMark.trans notOwn)
      rw [← reads] at taken
      refine run.trans (congrArg _ ((congrArg State.settle taken).trans ?_))
      rw [settle_of_still (still.of_records (by simp [reads]; rfl) (by simp [reads]; rfl) (by simp [reads]; rfl) (by simp [reads]; rfl)
        (by simp [reads]; rfl) (by simp [reads]; rfl)), settleAccess_callIfUrgent settled]
    rw [ends]
    have called : calls ↔ (read.access.state = .waiting && read.peerTenure && read.bidUrgency == 3) = true := by
      simp [calls, isPeer, notOwn, observed]
    unfold State.callIfUrgent
    refine ⟨fun c => congrArg _ (if_pos (called.mp c)), fun c => congrArg _ (if_neg (mt called.mpr c))⟩
  · have silent : ¬calls := fun c => tenure ⟨c.1, c.2.1, c.2.2.1⟩
    refine ⟨fun c => absurd c silent, fun _ => run.trans (congrArg _ ?_)⟩
    have taken := readsOutcome_of_other (s := p) present none_ (h := h) (m := m1) (n := m2)
      (fun ⟨a, b, c⟩ => tenure ⟨a, peerMark.symm.trans b, ownMark.symm.trans c⟩)
    refine (congrArg State.settle taken).trans ((settle_of_still still.of_records).trans (congrArg State.settleAccess ?_))
    have mark : p.peerMark m1 m2 = peer := peerMark
    rw [mark]
    cases h
    · simp [p]
    · cases hp : peer
      · simp [p]
      · cases ho : own
        · exact absurd ⟨rfl, hp, ho⟩ tenure
        · simp [p]

end Sys2Proof.Proofs
end

section
/-! PROOF. The selection rule as a least element under keys (R81). -/

namespace Sys2Proof.Machine

/-! ### The first of the candidates that none comes before -/

/-- Where `before` keeps to a key, the pick has a least key (R81). -/
theorem pickFirst_least {K : Type} [LinearOrder K] (key : Candidate → K) {before : Candidate → Candidate → Bool}
    (keeps : ∀ d b, if before d b = true then key d ≤ key b else key b ≤ key d) {cs : List Candidate} {c : Candidate}
    (picked : pickFirst before cs = some c) : ∀ d ∈ cs, key c ≤ key d := by
  have run : ∀ (l : List Candidate) (b : Candidate),
      ∀ d ∈ b :: l, key (l.foldl (fun best x => if before x best then x else best) b) ≤ key d := by
    intro l
    induction l with
    | nil => simp
    | cons x l ih =>
      intro b d hd
      have order := keeps x b
      rw [List.foldl_cons]
      by_cases first : before x b = true
      · rw [if_pos first] at order ⊢
        rcases List.mem_cons.mp hd with rfl | hd
        · exact (ih x x (by simp)).trans order
        · exact ih x d hd
      · rw [if_neg first] at order ⊢
        rcases List.mem_cons.mp hd with rfl | hd
        · exact ih _ _ (by simp)
        · rcases List.mem_cons.mp hd with rfl | hd
          · exact (ih b b (by simp)).trans order
          · exact ih b d (by simp [hd])
  cases cs with
  | nil => cases picked
  | cons x l =>
    cases picked
    exact run l x

/-- Where `before` is the order of a key, the pick is the first of those with its key (R81). -/
theorem pickFirst_first {K : Type} [LinearOrder K] (key : Candidate → K) {before : Candidate → Candidate → Bool} {cs : List Candidate}
    (is : ∀ d ∈ cs, ∀ b ∈ cs, before d b = true ↔ key d < key b) {c : Candidate} (picked : pickFirst before cs = some c) :
    ∃ pre post, cs = pre ++ c :: post ∧ (∀ d ∈ pre, key c < key d) ∧ ∀ d ∈ post, key c ≤ key d := by
  have run : ∀ (l : List Candidate) (pre mid : List Candidate) (b : Candidate), cs = pre ++ b :: (mid ++ l) →
      (∀ d ∈ pre, key b < key d) → (∀ d ∈ mid, key b ≤ key d) → ∃ pre' post', cs = pre' ++
        l.foldl (fun best x => if before x best then x else best) b :: post'
        ∧ (∀ d ∈ pre', key (l.foldl (fun best x => if before x best then x else best) b) < key d)
        ∧ ∀ d ∈ post', key (l.foldl (fun best x => if before x best then x else best) b) ≤ key d := by
    intro l
    induction l with
    | nil => exact fun pre mid b split lt le => ⟨pre, mid, by simpa using split, lt, le⟩
    | cons x l ih =>
      intro pre mid b split lt le
      have order := is x (by simp [split]) b (by simp [split])
      rw [List.foldl_cons]
      by_cases first : before x b = true
      · have less := order.mp first
        simp only [first, if_true]
        refine ih (pre ++ b :: mid) [] x (by simp [split]) (fun d hd => ?_) (by simp)
        rcases List.mem_append.mp hd with hd | hd
        · exact less.trans (lt d hd)
        · rcases List.mem_cons.mp hd with rfl | hd
          · exact less
          · exact less.trans_le (le d hd)
      · have least : key b ≤ key x := not_lt.mp (mt order.mpr first)
        simp only [first, Bool.false_eq_true, if_false]
        refine ih pre (mid ++ [x]) b (by simp [split]) lt (fun d hd => ?_)
        rcases List.mem_append.mp hd with hd | hd
        · exact le d hd
        · rw [List.mem_singleton.mp hd]
          exact least
  cases cs with
  | nil => cases picked
  | cons x l =>
    cases picked
    exact run l [] [] x rfl (by simp) (by simp)

/-- The pick comes first of those with its key. -/
theorem pickFirst_idxOf {K : Type} [LinearOrder K] (key : Candidate → K) {before : Candidate → Candidate → Bool} {cs : List Candidate}
    (is : ∀ d ∈ cs, ∀ b ∈ cs, before d b = true ↔ key d < key b) {c : Candidate} (picked : pickFirst before cs = some c)
    {d : Candidate} (hd : d ∈ cs) : key c ≤ key d ∧ (key d = key c → cs.idxOf c ≤ cs.idxOf d) := by
  obtain ⟨pre, post, split, less, least⟩ := pickFirst_first key is picked
  have notIn (x : Candidate) (same : key x = key c) : x ∉ pre := fun h => (less x h).ne same.symm
  refine ⟨?_, fun same => ?_⟩
  · rw [split] at hd
    rcases List.mem_append.mp hd with h | h
    · exact (less d h).le
    · rcases List.mem_cons.mp h with rfl | h
      · exact le_refl _
      · exact least d h
  · rw [split, List.idxOf_append_of_notMem (notIn c rfl), List.idxOf_append_of_notMem (notIn d same)]
    simp

/-- A filter keeps the order of what it keeps. -/
theorem idxOf_le_of_filter {p : Candidate → Bool} {cs : List Candidate} {c d : Candidate} (hc : p c = true) (hd : p d = true)
    (h : (cs.filter p).idxOf c ≤ (cs.filter p).idxOf d) : cs.idxOf c ≤ cs.idxOf d := by
  induction cs with
  | nil => simp
  | cons x xs ih =>
    by_cases hx : p x = true
    · rw [List.filter_cons_of_pos hx] at h
      by_cases ec : x = c
      · simp [ec]
      · by_cases ed : x = d
        · rw [List.idxOf_cons_ne _ ec, ed, List.idxOf_cons_self] at h
          omega
        · rw [List.idxOf_cons_ne _ ec, List.idxOf_cons_ne _ ed] at h ⊢
          exact Nat.succ_le_succ (ih (Nat.le_of_succ_le_succ h))
    · rw [List.filter_cons_of_neg hx] at h
      have ec : x ≠ c := fun e => hx (e ▸ hc)
      have ed : x ≠ d := fun e => hx (e ▸ hd)
      rw [List.idxOf_cons_ne _ ec, List.idxOf_cons_ne _ ed]
      exact Nat.succ_le_succ (ih h)

/-! ### The keys of the rule -/

/-- Slack and cost, as the first step of the rule compares them (R81). -/
def Candidate.tightKey (c : Candidate) : Int ×ₗ Nat := toLex (c.slack.getD 0, c.cost)

/-- How early a candidate is, seen from `now`: the earlier, the less. -/
def Candidate.rank (now : Clock) (c : Candidate) : Int := -((now - c.age).toNat : Int)

/-- Cost, then age, seen from `now` (R81). -/
def Candidate.cheapAge (now : Clock) (c : Candidate) : Nat ×ₗ Int := toLex (c.cost, c.rank now)

/-- Slack, then cost, then age, seen from `now` (R81). -/
def Candidate.tightAge (now : Clock) (c : Candidate) : Int ×ₗ Nat ×ₗ Int := toLex (c.slack.getD 0, c.cheapAge now)

/-- The difference of two clock values that lie less than 2^30 before `now` (R70). -/
theorem clockDiff_of_recent {now x y : Clock} (hx : (now - x).toNat < 2 ^ 30) (hy : (now - y).toNat < 2 ^ 30) :
    clockDiff x y = ((now - y).toNat : Int) - (now - x).toNat := by
  have parts : x - y = (now - y) - (now - x) := by
    rw [BitVec.sub_eq_iff_eq_add]
    simp
  unfold clockDiff
  rw [parts, BitVec.toInt_eq_toNat_cond, BitVec.toNat_sub]
  generalize (now - x).toNat = a at *
  generalize (now - y).toNat = b at *
  split <;> omega

theorem clockBefore_iff {now x y : Clock} (hx : (now - x).toNat < 2 ^ 30) (hy : (now - y).toNat < 2 ^ 30) :
    clockBefore x y = true ↔ -((now - x).toNat : Int) < -((now - y).toNat : Int) := by
  rw [clockBefore, decide_eq_true_iff, clockDiff_of_recent hx hy]
  omega

theorem cheaper_keeps (d b : Candidate) : if d.cheaper b = true then d.cost ≤ b.cost else b.cost ≤ d.cost := by
  simp only [Candidate.cheaper, Bool.or_eq_true, Bool.and_eq_true, decide_eq_true_eq, beq_iff_eq]
  split <;> omega

theorem tighter_keeps (d b : Candidate) : if d.tighter b = true then d.tightKey ≤ b.tightKey else b.tightKey ≤ d.tightKey := by
  have order := cheaper_keeps d b
  simp only [Candidate.tighter, Candidate.tightKey, Prod.Lex.toLex_le_toLex, Bool.or_eq_true, Bool.and_eq_true, decide_eq_true_eq,
    beq_iff_eq]
  by_cases first : d.cheaper b = true
  · simp only [first, if_true, and_true] at order ⊢
    split <;> omega
  · simp only [first, Bool.false_eq_true, if_false, and_false, or_false] at order ⊢
    split <;> omega

section Ages
variable {now : Clock} {d b : Candidate} (hd : (now - d.age).toNat < 2 ^ 30) (hb : (now - b.age).toNat < 2 ^ 30)
include hd hb

theorem cheaper_iff : d.cheaper b = true ↔ d.cheapAge now < b.cheapAge now := by
  simp only [Candidate.cheaper, Candidate.cheapAge, Candidate.rank, Prod.Lex.toLex_lt_toLex, Bool.or_eq_true, Bool.and_eq_true,
    decide_eq_true_eq, beq_iff_eq, clockBefore_iff hd hb]

theorem tighter_iff : d.tighter b = true ↔ d.tightAge now < b.tightAge now := by
  simp only [Candidate.tighter, Candidate.tightAge, Prod.Lex.toLex_lt_toLex, Bool.or_eq_true, Bool.and_eq_true, decide_eq_true_eq,
    beq_iff_eq, cheaper_iff hd hb]

/-- Of two of one cost the lesser key is the earlier. -/
theorem age_of_cheapAge (cost : d.cost = b.cost) (le : b.cheapAge now ≤ d.cheapAge now) : 0 ≤ (d.age - b.age).toInt := by
  have diff := clockDiff_of_recent hd hb
  simp only [Candidate.cheapAge, Candidate.rank, Prod.Lex.toLex_le_toLex, cost] at le
  rw [clockDiff] at diff
  omega

end Ages

/-! ### The rule -/

theorem pressing_iff (c : Candidate) : c.pressing = true ↔ ∃ x, c.slack = some x ∧ x ≤ 100 := by
  simp [Candidate.pressing, Option.any_eq_true]

/-- The rule by its two steps: over the candidates that press, if any, else over all (R81). -/
theorem selectCandidate_cases {cs : List Candidate} {c : Candidate} (h : selectCandidate cs = some c) :
    (c.pressing = true ∧ pickFirst Candidate.tighter (cs.filter (·.pressing)) = some c)
      ∨ ((∀ d ∈ cs, d.pressing = false) ∧ pickFirst Candidate.cheaper cs = some c) := by
  unfold selectCandidate at h
  split at h
  · exact .inl ⟨by simpa using (List.mem_filter.mp (mem_of_pickFirst h)).2, h⟩
  · next none_ =>
    refine .inr ⟨fun d hd => ?_, h⟩
    simpa using fun p => none_ (List.any_eq_true.mpr ⟨d, hd, p⟩)

/-- Where some press, the selected one has least slack of them, and of those least cost (R81). -/
theorem selectCandidate_tight {cs : List Candidate} {c : Candidate} (h : selectCandidate cs = some c)
    (some_ : ∃ d ∈ cs, ∃ x, d.slack = some x ∧ x ≤ 100) :
    ∃ x, c.slack = some x ∧ x ≤ 100 ∧ ∀ d ∈ cs, ∀ y, d.slack = some y → y ≤ 100 → x < y ∨ (x = y ∧ c.cost ≤ d.cost) := by
  obtain ⟨d, hd, press⟩ := some_
  rcases selectCandidate_cases h with ⟨pressing, picked⟩ | ⟨none_, -⟩
  · obtain ⟨x, slack, le⟩ := (pressing_iff c).mp pressing
    refine ⟨x, slack, le, fun d hd y hy small => ?_⟩
    have least := pickFirst_least Candidate.tightKey tighter_keeps picked d
      (List.mem_filter.mpr ⟨hd, (pressing_iff d).mpr ⟨y, hy, small⟩⟩)
    simpa [Candidate.tightKey, Prod.Lex.toLex_le_toLex, slack, hy] using least
  · exact absurd ((pressing_iff d).mpr press) (by simp [none_ d hd])

/-- Where none presses, the selected one has least cost (R81). -/
theorem selectCandidate_cheap {cs : List Candidate} {c : Candidate} (h : selectCandidate cs = some c)
    (loose : ∀ d ∈ cs, ∀ x, d.slack = some x → 100 < x) : ∀ d ∈ cs, c.cost ≤ d.cost := by
  rcases selectCandidate_cases h with ⟨pressing, -⟩ | ⟨-, picked⟩
  · obtain ⟨x, slack, le⟩ := (pressing_iff c).mp pressing
    exact absurd (loose c (mem_of_selectCandidate h) x slack) (by omega)
  · exact pickFirst_least (·.cost) cheaper_keeps picked

/-- Of those still equal the selected one is the earliest, and of one millisecond the first (R81). -/
theorem selectCandidate_early {cs : List Candidate} {c : Candidate} (h : selectCandidate cs = some c) {now : Clock}
    (recent : ∀ d ∈ cs, (now - d.age).toNat < 2 ^ 30) {d : Candidate} (hd : d ∈ cs) (cost : d.cost = c.cost)
    (equal : d.slack = c.slack ∨ ∀ e ∈ cs, ∀ x, e.slack = some x → 100 < x) :
    0 ≤ (d.age - c.age).toInt ∧ (d.age = c.age → cs.idxOf c ≤ cs.idxOf d) := by
  have hc := mem_of_selectCandidate h
  rcases selectCandidate_cases h with ⟨pressing, picked⟩ | ⟨-, picked⟩
  · have slack : d.slack = c.slack := by
      obtain ⟨x, slack, le⟩ := (pressing_iff c).mp pressing
      exact equal.resolve_right (fun loose => by have := loose c hc x slack; omega)
    have presses : d.pressing = true := by rwa [Candidate.pressing, slack]
    obtain ⟨least, first⟩ := pickFirst_idxOf (Candidate.tightAge now)
      (fun d hd b hb => tighter_iff (recent d (List.mem_of_mem_filter hd)) (recent b (List.mem_of_mem_filter hb))) picked
      (List.mem_filter.mpr ⟨hd, presses⟩)
    refine ⟨age_of_cheapAge (recent d hd) (recent c hc) cost ?_, fun age => idxOf_le_of_filter pressing presses (first ?_)⟩
    · simpa [Candidate.tightAge, Prod.Lex.toLex_le_toLex, slack] using least
    · simp [Candidate.tightAge, Candidate.cheapAge, Candidate.rank, slack, cost, age]
  · obtain ⟨least, first⟩ := pickFirst_idxOf (Candidate.cheapAge now) (fun d hd b hb => cheaper_iff (recent d hd) (recent b hb)) picked hd
    refine ⟨age_of_cheapAge (recent d hd) (recent c hc) cost least, fun age => first ?_⟩
    simp [Candidate.cheapAge, Candidate.rank, cost, age]

end Sys2Proof.Machine
end

section
/-! PROOF. The candidate set, its bid urgency and the selection point (R78, R79, R80, R82); O18. -/

namespace Sys2Proof.Machine

/-! ### The candidate set -/

/-- The requests that are candidates in a mounted cartridge, in order of acceptance (R79). -/
def State.requestCandidates (s : State) : List Candidate := (s.queue.held.filter s.isCandidate).map s.requestCandidate

/-- The refreshes that are candidates in a mounted cartridge, in the order of the refresh set (R80). -/
def State.refreshCandidates (s : State) : List Candidate := s.cache.refresh.filterMap s.refreshCandidate

theorem candidates_of_mounted {s : State} (h : s.cart.state = .mounted) : s.candidates = s.requestCandidates ++ s.refreshCandidates := by
  simp [State.candidates, h, State.requestCandidates, State.refreshCandidates]

theorem candidates_of_loading {s : State} (h : s.cart.state = .loading) :
    s.candidates = if s.cache.labelReserved = true then [s.labelCandidate] else [] := by simp [State.candidates, h]

theorem candidates_of_other {s : State} (mounted : s.cart.state ≠ .mounted) (loading : s.cart.state ≠ .loading) : s.candidates = [] := by
  unfold State.candidates
  cases h : s.cart.state <;> simp_all

theorem isCandidate_iff (s : State) (r : Request) : s.isCandidate r = true ↔
    r.kind.isDrive = true ∧ r.state = .waiting ∧ (r.chain = none ∨ r.chain = some r.id) ∧ s.blocked r = false ∧ r.undone ≠ [] := by
  simp [State.isCandidate, and_assoc]

theorem mem_requestCandidates (s : State) (c : Candidate) : c ∈ s.requestCandidates ↔ ∃ r ∈ s.queue.held, r.kind.isDrive = true
    ∧ r.state = .waiting ∧ (r.chain = none ∨ r.chain = some r.id) ∧ s.blocked r = false ∧ r.undone ≠ [] ∧ c = s.requestCandidate r := by
  simp only [State.requestCandidates, List.mem_map, List.mem_filter, isCandidate_iff, and_assoc, eq_comm (a := c)]

theorem requestCandidates_works (s : State) :
    (s.requestCandidates.map (·.work)).Sublist (s.queue.held.map (fun r => Work.request r.id)) := by
  rw [State.requestCandidates, List.map_map]
  exact List.filter_sublist.map _

theorem writeHeld_iff (s : State) (a : SectorAddr) : s.writeHeld a = false ↔
    ∀ r ∈ s.queue.held, r.kind.isDrive = true → r.addr.cyl = a.cyl → a.index ∉ r.hazardWritten := by
  simp [State.writeHeld]

/-- When an entry of the refresh set is a candidate, and which (R80, R118). -/
theorem refreshCandidate_iff (s : State) (e : RefreshEntry) (c : Candidate) : s.refreshCandidate e = some c ↔
    ∃ a, (s.frame e.frame).addr = some a ∧ s.hold e.frame = 0 ∧ s.writeHeld a = false
      ∧ c = { work := .refresh e.frame, slack := none, cost := s.cost a.cyl a.index 1, age := e.entered, urgency := 1 } := by
  unfold State.refreshCandidate
  cases (s.frame e.frame).addr with
  | none => simp
  | some a => simp [and_assoc, eq_comm (a := c)]

theorem refreshCandidates_works (s : State) :
    (s.refreshCandidates.map (·.work)).Sublist (s.cache.refresh.map (fun e => Work.refresh e.frame)) := by
  unfold State.refreshCandidates
  induction s.cache.refresh with
  | nil => exact .slnil
  | cons e l ih =>
    cases h : s.refreshCandidate e with
    | none => simpa [List.filterMap_cons, h] using ih.cons _
    | some c =>
      obtain ⟨a, -, -, -, rfl⟩ := (refreshCandidate_iff s e c).mp h
      simpa [List.filterMap_cons, h] using ih

/-! ### The bid urgency -/

/-- An urgency that none of the set exceeds is the bid urgency (R78). -/
theorem bidUrgency_of_greatest {s : State} {c : Candidate} (hc : c ∈ s.candidates) (greatest : ∀ d ∈ s.candidates, d.urgency ≤ c.urgency) :
    s.bidUrgency = c.urgency := by
  have bound : ∀ (l : List Nat) (n b : Nat), l.foldl max n ≤ b ↔ n ≤ b ∧ ∀ x ∈ l, x ≤ b := by
    intro l
    induction l with
    | nil => simp
    | cons x l ih => simp [ih, and_assoc]
  refine le_antisymm ((bound _ _ _).mpr ⟨Nat.zero_le _, by simpa using greatest⟩) ?_
  exact ((bound _ _ _).mp (le_refl _)).2 _ (List.mem_map_of_mem hc)

/-- The less the slack, the more urgent (R78). -/
theorem urgencyOf_anti {x y : Int} (h : x ≤ y) : urgencyOf y ≤ urgencyOf x := by
  unfold urgencyOf
  repeat' split
  all_goals omega

theorem one_le_urgencyOf (x : Int) : 1 ≤ urgencyOf x := by
  unfold urgencyOf
  repeat' split
  all_goals omega

theorem urgencyOf_of_loose {x : Int} (h : 100 < x) : urgencyOf x = 1 := by
  unfold urgencyOf
  rw [if_neg (by omega), if_neg (by omega)]

/-- In a mounted cartridge a candidate has the urgency of its slack, and a refresh 1 (R78). -/
theorem urgency_of_mounted {s : State} (mounted : s.cart.state = .mounted) {c : Candidate} (hc : c ∈ s.candidates) :
    (∃ x, c.slack = some x ∧ c.urgency = urgencyOf x) ∨ (c.slack = none ∧ c.urgency = 1) := by
  rw [candidates_of_mounted mounted] at hc
  rcases List.mem_append.mp hc with h | h
  · obtain ⟨r, -, -, -, -, -, -, rfl⟩ := (mem_requestCandidates s c).mp h
    exact .inl ⟨_, rfl, rfl⟩
  · obtain ⟨e, -, he⟩ := List.mem_filterMap.mp h
    obtain ⟨a, -, -, -, rfl⟩ := (refreshCandidate_iff s e c).mp he
    exact .inr ⟨rfl, rfl⟩

/-- The selected candidate has the bid urgency (R78). -/
theorem urgency_of_selected {s : State} {c : Candidate} (h : selectCandidate s.candidates = some c) : c.urgency = s.bidUrgency := by
  have hc := mem_of_selectCandidate h
  refine (bidUrgency_of_greatest hc (fun d hd => ?_)).symm
  by_cases mounted : s.cart.state = .mounted
  · have tight := selectCandidate_tight h
    have urgent := urgency_of_mounted mounted hc
    by_cases some_ : ∃ d ∈ s.candidates, ∃ x, d.slack = some x ∧ x ≤ 100
    · obtain ⟨x, slack, -, least⟩ := tight some_
      have mine : c.urgency = urgencyOf x := by
        rcases urgent with ⟨y, hy, e⟩ | ⟨none_, -⟩
        · rw [slack] at hy
          cases hy
          exact e
        · simp [slack] at none_
      rcases urgency_of_mounted mounted hd with ⟨y, hy, e⟩ | ⟨-, e⟩
      · rw [e, mine]
        by_cases small : y ≤ 100
        · exact urgencyOf_anti (by have := least d hd y hy small; omega)
        · rw [urgencyOf_of_loose (by omega)]
          exact one_le_urgencyOf x
      · rw [e, mine]
        exact one_le_urgencyOf x
    · have loose (e : Candidate) (he : e ∈ s.candidates) : e.urgency = 1 := by
        rcases urgency_of_mounted mounted he with ⟨y, hy, u⟩ | ⟨-, u⟩
        · rw [u, urgencyOf_of_loose]
          by_contra small
          exact some_ ⟨e, he, y, hy, by omega⟩
        · exact u
      rw [loose d hd, loose c hc]
  · by_cases loading : s.cart.state = .loading
    · have only (e : Candidate) (he : e ∈ s.candidates) : e = s.labelCandidate := by
        rw [candidates_of_loading loading] at he
        split at he
        · simpa using he
        · cases he
      rw [only d hd, only c hc]
    · rw [candidates_of_other mounted loading] at hc
      cases hc

/-! ### The selection point -/

/-- When a tenure must release the line against a candidate (R36). -/
theorem mustRelease_iff (s : State) (c : Candidate) : s.mustRelease c = true ↔
    60 ≤ (s.clock - s.access.tenureStart).toInt ∨ (s.pins.pres = true ∧ s.pins.call = true ∧ c.urgency < 3)
      ∨ (s.cart.state ≠ .loading ∧ s.cart.state ≠ .mounted) := by
  simp [State.mustRelease, CartState.permits, clockDiff, Config.tenureBudget, or_assoc, and_assoc]

/-- A selection point that finds nothing releases the line (R82). -/
theorem selectionPoint_of_none {s : State} (h : selectCandidate s.prepare.candidates = none) :
    s.selectionPoint = s.prepare.releaseLine := by
  unfold State.selectionPoint
  simp only [h]

/-- A selection point with a candidate releases the line or starts its work (R36, R82). -/
theorem selectionPoint_of_some {s : State} {c : Candidate} (h : selectCandidate s.prepare.candidates = some c) :
    s.selectionPoint = if s.prepare.mustRelease c then s.prepare.releaseLine else s.prepare.startWork c := by
  unfold State.selectionPoint
  simp only [h]

end Sys2Proof.Machine

namespace Sys2Proof.Proofs
open Sys2Proof.Machine

/-- Settles O18: the rule by its keys, the urgency of the selected, the set by cartridge state, the selection point by its release
conditions. -/
theorem selectionTakesLeast : Obligations.SelectionTakesLeast := by
  unfold Obligations.SelectionTakesLeast
  refine ⟨?rule, fun s c h => urgency_of_selected h, ?set, ?point⟩
  case rule =>
    intro cs c h
    refine ⟨mem_of_selectCandidate h, fun some_ => ?_, selectCandidate_cheap h, fun now recent d hd cost equal =>
      selectCandidate_early h recent hd cost equal⟩
    obtain ⟨x, slack, -, least⟩ := selectCandidate_tight h some_
    exact ⟨x, slack, least⟩
  case set =>
    intro s cost
    refine ⟨fun mounted => ⟨_, _, candidates_of_mounted mounted, requestCandidates_works s, mem_requestCandidates s,
      refreshCandidates_works s, fun c => ?_⟩, candidates_of_loading, candidates_of_other⟩
    simp only [State.refreshCandidates, List.mem_filterMap, refreshCandidate_iff, writeHeld_iff]
    rfl
  case point =>
    intro s t
    refine ⟨selectionPoint_of_none, ?_⟩
    intro c h released
    refine ⟨fun r => ?_, fun r => ?_⟩
    · rw [selectionPoint_of_some h, if_pos ((mustRelease_iff t c).mpr r)]
    · rw [selectionPoint_of_some h, if_neg (mt (mustRelease_iff t c).mp r)]

end Sys2Proof.Proofs
end

section
/-! PROOF. The checks of a block that stands alone, and its way to being carried out (R47 to R51). -/

namespace Sys2Proof.Machine

/-! ### The checks -/

/-- No check fails where each passes. -/
theorem firstFailed_of_pass {l : List (Bool × ReqOutcome)} (h : ∀ p ∈ l, p.1 = false) : firstFailed l = none := by
  simpa [firstFailed] using fun a b hm => h (a, b) hm

/-- The condition code names a condition unless it is 3 (section 11.6). -/
theorem condOfCode_isSome {c : BitVec 2} (h : c ≠ 3) : (condOfCode c).isNone = false := by
  revert h; revert c; decide

/-- The operation codes up to 4 name an operation (section 11.6). -/
theorem opOfCode_isSome {c : BitVec 3} (h : c.toNat ≤ 4) : (opOfCode c).isNone = false := by
  revert h; revert c; decide

/-- Only the operation code 2 names TEST (section 11.6). -/
theorem opOfCode_test {c : BitVec 3} (h : c ≠ 2) : (opOfCode c != some .test) = true := by
  revert h; revert c; decide

/-- A range that meets check 3 (R48). -/
theorem InRange.passes {b : BlockBody} (h : InRange b) : (decide (399 < b.cyl.toNat) || decide (1 < b.head.toNat)
    || decide (19 < b.sector.toNat) || b.count == 0 || decide (40 < b.count.toNat) || decide (40 < blockIndex b + b.count.toNat)) = false := by
  obtain ⟨cylinder, head, sector, least, most⟩ := h
  have count : b.count ≠ 0 := by
    rintro e
    rw [e] at least
    exact absurd least (by decide)
  simp only [Bool.or_eq_false_iff, decide_eq_false_iff_not, beq_eq_false_iff_ne]
  simp only [blockIndex, Config.sectorsPerTrack]
  exact ⟨⟨⟨⟨⟨by omega, by omega⟩, by omega⟩, count⟩, by omega⟩, by omega⟩

section Drive
variable {s : State} {k : Kind} {b : BlockBody} (pass : Passes s k b)
include pass

/-- Check 3 of a drive block (R48). -/
theorem Passes.badAddress : badAddress k b false = false := by
  have range := pass.range.passes
  have deadline := pass.deadline
  have count : (k == .update && b.count != 1) = false := by
    by_cases update : k = .update
    · simp [(pass.operation update).2]
    · simp [update]
  unfold Sys2Proof.Machine.badAddress
  rw [range, count]
  simp [Config.maxDeadline, deadline]

/-- Check 4 of a drive block (R48). -/
theorem Passes.badMemory : badMemory k b = false := by
  have memory := pass.memory
  have drive := pass.drive
  unfold Sys2Proof.Machine.badMemory
  cases k <;> simp_all [Kind.isWrite, Kind.isDrive, Config.lastMemoryWord, Config.sectorWords]

/-- Check 7, NO-WRITE, of a drive block (R49). -/
theorem Passes.refusedNoWrite : s.refusedNoWrite k b = false := by
  unfold State.refusedNoWrite
  by_cases writes : k.isWrite = true ∨ (k = .update ∧ b.opCode ≠ 2)
  · have allowed : (blockIndices b).any (fun i => s.zones.refusesWrite (sectorAt b.cyl.toNat i)) = false := by
      simpa using pass.writing writes
    rw [allowed, Bool.and_false]
  · obtain ⟨plain, test⟩ := not_or.mp writes
    have quiet : writesForAdmission k b = false := by
      unfold writesForAdmission
      by_cases update : k = .update
      · have code : b.opCode = 2 := by
          by_contra other
          exact test ⟨update, other⟩
        rw [code]
        simp [update, Kind.isWrite]
        rfl
      · simpa [update] using plain
    rw [quiet, Bool.false_and]

end Drive

/-- A block's range as the indices of its request (R42). -/
theorem draft_indices (s : State) (k : Kind) (b : BlockBody) : (s.draft k b).indices = blockIndices b := rfl

/-- A drive block undergoes no test of the immediate kinds (R61, R63, R168). -/
theorem immediateVerdict_of_drive {s : State} {k : Kind} {b : BlockBody} (drive : k.isDrive = true) : s.immediateVerdict k b = none := by
  unfold State.immediateVerdict
  cases k <;> simp_all [Kind.isDrive]

/-- A drive block that stands alone and meets the conditions is not refused (R48 to R51). -/
theorem refusal_of_accepts {s : State} {k : Kind} {b : BlockBody} (accepts : Accepts s k b) (staged : s.stagedMembers = [])
    (alone : b.continues = false) : s.refusal { kindCode := k.code, body := b } = none := by
  have pass := accepts.toPasses
  have drive := pass.drive
  have permits : s.cart.state.permits = true := by simpa [CartState.permits] using accepts.cartridge
  have operation : (k == .update && (opOfCode b.opCode).isNone) = false := by
    by_cases update : k = .update
    · rw [opOfCode_isSome (pass.operation update).1, Bool.and_false]
    · simp [update]
  have tag : s.queue.held.any (fun r => r.tag == b.tag) = false := by simpa [freshTag] using pass.tag
  have cached : (k == .pin && !s.zones.caches b.cyl.toNat) = false := by
    by_cases pin : k = .pin
    · simp [Zones.caches, pass.cached pin]
    · simp [pin]
  have slot : decide (Config.maxHeld ≤ s.queue.held.length) = false := by
    simpa [Config.maxHeld] using accepts.slot
  have frames : s.canPromise (k.need b.count.toNat) = true := by simpa [State.canPromise] using accepts.frames
  have pins : (k == .pin && s.overPinLimit (s.draft k b)) = false := by
    by_cases pin : k = .pin
    · have few := accepts.pins pin
      rw [Bool.and_eq_false_iff, State.overPinLimit, decide_eq_false_iff_not]
      exact .inr (not_lt.mpr few)
    · simp [pin]
  have checks : firstFailed (s.checks k b) = none := by
    refine firstFailed_of_pass ?_
    simp [State.checks, staged, State.inChain, alone, pass.configured, operation, condOfCode_isSome pass.condition, pass.badAddress,
      pass.badMemory, tag, pass.refusedNoWrite, cached, permits, slot, frames, pins, Config.maxChain]
  unfold State.refusal
  rw [kindOfCode_code]
  dsimp only
  rw [checks, immediateVerdict_of_drive drive]
  rfl

/-- An immediate block that stands alone passes the checks (R48, R49). -/
theorem firstFailed_of_plain {s : State} {k : Kind} {b : BlockBody} (pass : PassesPlain s k b) (staged : s.stagedMembers = []) :
    firstFailed (s.checks k b) = none := by
  have immediate := pass.immediate
  have other (x : Kind) (hx : x.isDrive = true) : (k == x) = false := by
    rw [beq_eq_false_iff_ne]
    rintro rfl
    rw [hx] at immediate
    cases immediate
  have update := other .update rfl
  have pin := other .pin rfl
  have write : writesForAdmission k b = false := by
    unfold writesForAdmission
    rw [update]
    cases k <;> simp_all [Kind.isDrive, Kind.isWrite]
  have configured : (!s.zones.configured && k != .configure) = false := by
    rcases pass.configured with e | e <;> simp [e]
  have tag : s.queue.held.any (fun r => r.tag == b.tag) = false := by simpa [freshTag] using pass.tag
  have chain : s.inChain k b = false := by
    unfold State.inChain
    rw [staged]
    cases cont : b.continues with
    | false => rfl
    | true => rcases pass.alone cont with e | e <;> simp [e]
  have address : badAddress k b false = false := by
    unfold badAddress
    rw [immediate, update]
    by_cases range : k = .unpin ∨ k = .discard
    · rw [(pass.range range).passes]
      simp
    · obtain ⟨unpin, discard⟩ := not_or.mp range
      simp [unpin, discard]
  have memory : badMemory k b = false := by
    have report := pass.report
    have configure := pass.configure
    unfold badMemory
    cases k <;> simp_all [Kind.isDrive, Config.lastMemoryWord]
  have slot : (k == .report && decide (Config.maxHeld ≤ s.queue.held.length)) = false := by
    by_cases report : k = .report
    · simpa [report, Config.maxHeld] using (pass.report report).2
    · simp [report]
  refine firstFailed_of_pass ?_
  simp [State.checks, staged, configured, update, condOfCode_isSome pass.condition, address, memory, tag, chain, Config.maxChain,
    State.refusedNoWrite, write, pin, immediate, slot]

/-! ### The way to the carrying out -/

/-- A block that is accepted and needs no place in the FIFO is carried out (R47). -/
theorem process_of_accepted {s : State} {k : Kind} {b : BlockBody} (accepted : s.refusal { kindCode := k.code, body := b } = none)
    (places : s.placesOf k b = 0 ∨ (s.port.fifo.length + s.placesOf k b ≤ 16 ∧ s.queue.finished = [])) :
    s.process { kindCode := k.code, body := b } = (s.carryOut k { kindCode := k.code, body := b }).settle := by
  have needed : s.placesNeeded { kindCode := k.code, body := b } = s.placesOf k b := by
    unfold State.placesNeeded
    rw [accepted, kindOfCode_code]
  have enough : s.lacksPlaces { kindCode := k.code, body := b } = false := by
    unfold State.lacksPlaces
    rw [needed]
    rcases places with none_ | ⟨room, none_⟩
    · simp [none_]
    · simp [State.finishedWaiting, none_, Config.fifoPlaces, room]
  unfold State.process
  rw [enough, accepted, kindOfCode_code]
  rfl

/-- A block completed at an intake that is neither held nor occupied is processed (R47, R173). -/
theorem completeBlock_of_free {s : State} (waiting : s.port.waiting = none) (free : s.configureHeld = false) (blk : Block) :
    s.completeBlock blk = State.process { s with port := { s.port with partialBlock := [] } } blk := by
  unfold State.completeBlock
  exact (if_neg (by simp [waiting])).trans (if_neg (by simp [State.configureHeld] at free ⊢; exact free))

end Sys2Proof.Machine
end

section
/-! PROOF. A READ, CHECK, UPDATE or PIN accepted into WAITING (O30). -/

namespace Sys2Proof.Machine

/-- The draft of a block that stands alone is the record of its request (R42, R46, R52, R71). -/
theorem draft_of_alone {s : State} {k : Kind} {b : BlockBody} (staged : s.stagedMembers = []) (alone : b.continues = false) :
    s.draft k b = loneRequest s k b .waiting 0 := by
  have due : (s.clock + BitVec.ofNat 32 (if b.deadline = 0 then Config.implicitDeadline else b.deadline.toNat)) = dueOf s b := by
    unfold dueOf
    split <;> rfl
  unfold State.draft loneRequest
  simp only [staged, alone, List.head?_nil, Option.elim_none, Option.bind_none, Option.getD_none, Option.isSome_none, Bool.or_self,
    Bool.and_false, Bool.false_eq_true, if_false, due]
  rfl

/-- A request that the cache is not consulted for is left as it stands (R79). -/
theorem consult_of_unconsulted {s : State} {r : Request} (hr : s.request r.id = some r) (h : s.consults r = false) : s.consult r.id = s := by
  unfold State.consult
  rw [hr]
  exact if_neg (by simp [h])

/-- A request just inserted is found by its id (R52). -/
theorem request_of_insert {s : State} {r : Request} (fresh : ∀ q ∈ s.queue.held, q.id ≠ r.id) : (s.insert r).request r.id = some r := by
  have none_ : s.queue.held.find? (fun q => q.id == r.id) = none := by
    simpa using fresh
  simp [State.request, State.insert, List.find?_append, none_]

/-- A still station with one request more is still. -/
theorem Still.insert {s : State} (still : Still s) (r : Request) : Still (s.insert r) :=
  still.of_frames rfl rfl rfl rfl rfl rfl rfl (fun _ => .inl rfl)

/-- The sectors of a block with a count are not all VALID where none is (R50). -/
theorem allValid_of_miss {s : State} {r : Request} (some_ : r.indices ≠ [])
    (miss : ∀ i ∈ r.indices, s.validFrame (sectorAt r.addr.cyl i) = none) : s.allValid r = false := by
  obtain ⟨i, hi⟩ := List.exists_mem_of_ne_nil _ some_
  rw [State.allValid, List.all_eq_false]
  exact ⟨i, hi, by simp [miss i hi]⟩

/-- The frames that a READ, CHECK, UPDATE or PIN needs (R43). -/
theorem need_of_drive {k : Kind} (drive : k.isDrive = true) (plain : k.isWrite = false) (n : Nat) :
    k.need n = if k = .read ∨ k = .pin then n else 1 := by
  cases k <;> simp_all [Kind.isDrive, Kind.isWrite, Kind.need]

section Accepted
variable {s : State} {k : Kind} {b : BlockBody} (staged : s.stagedMembers = []) (alone : b.continues = false)
  (drive : k.isDrive = true) (plain : k.isWrite = false) (range : InRange b)
  (miss : (k = .read ∧ b.bypass = false) ∨ k = .pin → ∀ i ∈ blockIndices b, s.validFrame (blockSector b i) = none)

include range in
theorem blockIndices_ne_nil : blockIndices b ≠ [] := by
  have least := range.least
  rw [blockIndices, Ne, List.range'_eq_nil_iff]
  omega

include range miss in
/-- A READ or PIN that no VALID frame serves is not carried out from the cache (R50, R111). -/
theorem not_served : s.readServed k b = false ∧ s.pinServed k b = false := by
  have served (h : (k = .read ∧ b.bypass = false) ∨ k = .pin) : s.allValid (s.draft k b) = false :=
    allValid_of_miss (r := s.draft k b) (blockIndices_ne_nil range) (miss h)
  constructor
  · by_cases h : k = .read ∧ b.bypass = false
    · simp [State.readServed, served (.inl h)]
    · rw [State.readServed]
      by_cases read : k = .read
      · have bypass : b.bypass = true := by simpa using fun e => h ⟨read, e⟩
        simp [bypass]
      · simp [read]
  · by_cases h : k = .pin
    · simp [State.pinServed, served (.inr h)]
    · simp [State.pinServed, h]

/-- The record of an accepted READ, CHECK, UPDATE or PIN (R52, R107, R117). -/
def acceptedRequest (s : State) (k : Kind) (b : BlockBody) : Request :=
  { loneRequest s k b .waiting (if k = .read ∨ k = .pin then b.count.toNat else 1) with
    promised := if k = .pin then (blockIndices b).filter (fun i => !s.isPinned (blockSector b i)) else [] }

include range in
/-- The accepted request has all of its sectors to do. -/
theorem acceptedRequest_undone : (acceptedRequest s k b).undone = blockIndices b ∧ (acceptedRequest s k b).undone ≠ [] := by
  have all : (acceptedRequest s k b).undone = blockIndices b := List.filter_eq_self.mpr (fun _ _ => rfl)
  exact ⟨all, all ▸ blockIndices_ne_nil range⟩

include staged alone drive plain range miss in
/-- Its record joins the held requests, and the cache, consulted for it, gives it nothing (R52, R79). -/
theorem acceptDrive_of_miss (fresh : ∀ r ∈ s.queue.held, r.id < s.queue.nextId) (finished : s.queue.finished = []) :
    s.acceptDrive k b = s.insert (acceptedRequest s k b) := by
  obtain ⟨unread, -⟩ := not_served range miss
  let r := acceptedRequest s k b
  have accepted : s.acceptDrive k b = ((s.insert r).stage r).enterWaiting r.id := by
    unfold State.acceptDrive State.unpinnedSectors
    simp only [draft_of_alone staged alone, unread, plain, need_of_drive drive plain]
    rfl
  have unstaged : (s.insert r).stage r = s.insert r := if_neg (by simpa [r, acceptedRequest, loneRequest] using plain)
  have here : (s.insert r).request r.id = some r := request_of_insert (fun q hq => (fresh q hq).ne)
  obtain ⟨all, left⟩ := acceptedRequest_undone (s := s) (k := k) range
  have consulted : (s.insert r).consult r.id = s.insert r := by
    by_cases asks : (k = .read ∧ b.bypass = false) ∨ k = .pin
    · exact consult_of_miss here left (fun _ i hi => miss asks i (all ▸ hi))
    · refine consult_of_unconsulted here ?_
      have kind : r.kind = k := rfl
      have bypass : r.bypass = b.bypass := rfl
      obtain ⟨read, pin⟩ := not_or.mp asks
      by_cases isRead : k = .read
      · have around : b.bypass = true := by simpa using fun e => read ⟨isRead, e⟩
        simp [State.consults, kind, bypass, around, isRead]
      · simp [State.consults, kind, isRead, pin]
  rw [accepted, unstaged, State.enterWaiting, consulted]
  exact post_of_nil (s.insert r) finished

end Accepted

end Sys2Proof.Machine

namespace Sys2Proof.Proofs
open Sys2Proof.Machine

/-- Settles O30: the checks pass, no FIFO place is needed, and the record is all that is added. -/
theorem driveRequestAccepted : Obligations.DriveRequestAccepted := by
  unfold Obligations.DriveRequestAccepted
  intro s k b quiet fresh accepts plain alone miss
  let p : State := { s with port := { s.port with partialBlock := [] } }
  have pstill : Still p := quiet.toStill.of_records
  have staged : p.stagedMembers = [] := quiet.staged
  have drive := accepts.drive
  have paccepts : Accepts p k b := { accepts with }
  obtain ⟨-, unpinned⟩ := not_served (s := p) accepts.range miss
  have places : p.placesOf k b = 0 := by
    have unmarked : p.closesMarked b = false := by simp [State.closesMarked, staged]
    unfold State.placesOf
    cases k <;> simp_all [Kind.isDrive]
  have carried : p.carryOut k { kindCode := k.code, body := b } = p.acceptDrive k b := by
    unfold State.carryOut
    cases k <;> simp_all [Kind.isDrive, Kind.isWrite]
  rw [exec_blockCommand k b s quiet.powered, completeBlock_of_free quiet.intake quiet.free,
    process_of_accepted (s := p) (refusal_of_accepts paccepts staged alone) (.inl places), carried,
    acceptDrive_of_miss staged alone drive plain accepts.range miss fresh.held quiet.finished, settle_of_still (pstill.insert _)]
  rfl

end Sys2Proof.Proofs
end

section
/-! PROOF. The release of a cartridge and its drain (O37). -/

namespace Sys2Proof.Machine

/-! ### The FIFO on the way of the drain -/

theorem serveList_fifo (s : State) (l : List AllocWait) : (s.serveList l).port.fifo = s.port.fifo := by
  have given (t : State) (w : AllocWait) (f : Nat) : (t.giveFrame w f).port.fifo = t.port.fifo := by
    unfold State.giveFrame
    repeat' split
    all_goals rfl
  induction l generalizing s with
  | nil => rfl
  | cons w ws ih =>
    unfold State.serveList
    split
    · rfl
    · next f t found =>
      rw [ih, given]
      unfold State.allocate at found
      split at found
      · cases found
        rfl
      · obtain ⟨g, -, e⟩ := Option.map_eq_some_iff.mp found
        cases e
        simp

@[simp] theorem tidy_fifo (s : State) : s.tidy.port.fifo = s.port.fifo := by
  rw [State.tidy, State.serveWaits, serveList_fifo, State.sweep_port]

/-- What is taken up after a command leaves the records there are in front (R174). -/
theorem settle_fifo_prefix (s : State) : s.port.fifo <+: s.settle.port.fifo := by
  rw [State.settle, State.settleAccess_port]
  exact (tidy_fifo s) ▸ postUpTo_fifo_prefix s.tidy _

@[simp] theorem drainOne_fifo (s : State) (o : ReqOutcome) (id : Nat) : (s.drainOne o id).port.fifo = s.port.fifo := by
  have dropped : ((((s.dropStaging id).dropWaits id).releaseOwned id)).port.fifo = s.port.fifo := by
    rw [State.releaseOwned_port]
    rfl
  unfold State.drainOne
  repeat' split
  · rfl
  · rw [endRequest_fifo]
    exact dropped
  · rfl
  · rw [endRequest_fifo]
    exact dropped
  · rfl
  · exact dropped
  all_goals rfl

/-- A drain posts no record itself (R157). -/
@[simp] theorem drain_fifo (s : State) (o : ReqOutcome) : (s.drain o).port.fifo = s.port.fifo := by
  refine Eq.trans (b := s.consultAll.port.fifo) ?_ (foldl_keeps (fun t => t.port.fifo) _ (fun t id => consult_fifo t id) _ _)
  exact foldl_keeps (fun t => t.port.fifo) _ (fun t id => drainOne_fifo t o id) _ _

/-! ### Stillness kept by what leaves -/

/-- Where every delivery hold stands and each frame is as it was or not spent, a still station stays still. -/
theorem Still.of_hold {s t : State} (h : Still s) (power : t.powered = s.powered) (waits : t.cache.waits = [])
    (finished : t.queue.finished = s.queue.finished) (hold : ∀ f, t.hold f = s.hold f) (work : t.seq.work = s.seq.work)
    (length : t.cache.frames.length = s.cache.frames.length) (frames : ∀ n, t.frame n = s.frame n ∨ t.spent n = false) : Still t := by
  refine ⟨power.trans h.powered, waits, finished.trans h.finished, fun n hn => ?_⟩
  have before := h.spent n (by simpa [State.frameNumbers, length] using hn)
  rcases frames n with e | e
  · simpa [State.spent, State.refreshing, hold, e, work] using before
  · exact e

/-- A FREE frame is not spent. -/
theorem not_spent_of_free {s : State} {f : Nat} (h : s.frame f = Frame.free) : s.spent f = false :=
  not_spent_of_frame (by simp [h, Frame.free]) (by simp [h, Frame.free, Frame.retiring])

/-- No frame is spent and no allocation waits after a lone request's end: nothing is tidied. -/
theorem EndedAlone.tidy {s t : State} {r : Request} {c : Completion} (h : EndedAlone s r c t) (still : Still s)
    (quiet : s.delivering r.id = false) : t.tidy = t := by
  have waits := h.sheds.waits still.waits
  have sweeps : t.sweep = t := sweep_of_unspent t (fun n hn => by
    have before := still.spent n (by simpa [State.frameNumbers, h.sheds.length] using hn)
    have work : t.seq.work = s.seq.work := by rw [h.sheds.only]
    rcases h.sheds.frames n with e | ⟨-, e⟩
    · simpa [State.spent, State.refreshing, h.sheds.hold quiet n, e, work] using before
    · exact not_spent_of_free e)
  rw [State.tidy, sweeps, serveWaits_of_nil t waits]

/-- A notice raised behind a lone request's end. -/
theorem EndedAlone.raise {s t : State} {r : Request} {c : Completion} (h : EndedAlone s r c t) (on : t.zones.configured = true)
    (n : Notice) : EndedAlone s r c (t.raise n) := by
  have notices := (onward_raise t n).notices
  rw [raise_of_configured on] at notices ⊢
  exact ⟨h.sheds.trans (sheds_of_same rfl rfl rfl rfl notices rfl), h.held, h.finished, h.noJobs, h.cleared⟩

/-! ### The drain of a lone request -/

/-- What the drain of a lone request leaves is what O37 and its like say of it (R157). -/
theorem PostedAlone.drained {s t : State} {r : Request} {c : Completion} {o : ReqOutcome} (h : PostedAlone s r c t) (drains : Drainable s r)
    (u : State) (record : c = u.endRecord { r with reserved := 0 } o none) (fails : o.isFailure = true) (not_ : o.isSuccess = false) :
    Drained o s r c t := by
  obtain ⟨tag, kind, outcome, sectors, wordA⟩ := endRecord_of_failure (s := u) (r := { r with reserved := 0 }) fails not_ drains.drive none
  rw [← record] at tag kind outcome sectors wordA
  have first : r.firstUndone = sectorAt r.addr.cyl (r.undone.headD 0) := by
    obtain ⟨i, l, hl⟩ := List.exists_cons_of_ne_nil drains.undone
    simp [Request.firstUndone, hl]
  refine ⟨tag, kind, outcome, sectors, wordA.trans (congrArg SectorAddr.word first), h.held, h.noJobs, fun g owner staged => ?_⟩
  rcases h.frames g with same | ⟨-, free⟩
  · have left := h.cleared g
    simp [same, Frame.unreadOf, owner, staged] at left
  · exact free

/-- The drain of a lone request that no VALID frame serves: the request in FINISHED, its record to be posted (R157). -/
theorem Drainable.ended {s : State} {r : Request} (still : Still s) (h : Drainable s r) (o : ReqOutcome) :
    ∃ u c, c = State.endRecord u { r with reserved := 0 } o none ∧ EndedAlone s r c (s.drain o) := by
  obtain ⟨u, ended⟩ := drain_of_alone h.held still.finished h.drive h.state h.settled h.undone h.misses o
  exact ⟨u, _, rfl, ended⟩

/-- The taking up of work after a posted end moves the access state alone. -/
theorem PostedAlone.settle {s t : State} {r : Request} {c : Completion} (h : PostedAlone s r c t) : t.settle = t.settleAccess :=
  settle_of_still h.still

theorem settleAccess_frame (s : State) (f : Nat) : s.settleAccess.frame f = s.frame f := by
  simp [State.frame]

/-- The drained station with its access state settled. -/
theorem Drained.settleAccess {s t : State} {r : Request} {c : Completion} {o : ReqOutcome} (h : Drained o s r c t) :
    Drained o s r c t.settleAccess := by
  refine ⟨h.tag, h.kind, h.outcome, h.sectors, h.wordA, ?_, ?_, ?_⟩
  · rw [State.settleAccess_queue]
    exact h.held
  · rw [State.allJobs, State.settleAccess_port]
    exact h.jobs
  · intro g owner staged
    rw [settleAccess_frame]
    exact h.frames g owner staged

/-! ### The mark of an open chain's member -/

theorem dropStaging_hold (s : State) (id f : Nat) : (s.dropStaging id).hold f = s.hold f := by
  have all : (s.dropStaging id).allJobs = s.allJobs.filter (fun j => !(j.isFor id && j.isStaging)) := allJobs_filter s _
  rw [State.hold, State.hold, all, List.filter_filter]
  congr 1
  refine List.filter_congr (fun j _ => ?_)
  cases hk : j.kind <;> simp [Job.delivers, Job.isStaging, hk]

/-- The drain of the one member of an open chain marks it (R158). -/
theorem drain_of_member {s : State} {m : Request} (alone : s.queue.held = [m]) (open_ : m.state = .pendingChain)
    (none_ : s.queue.finished = []) (o : ReqOutcome) :
    s.drain o = (((s.dropStaging m.id).dropWaits m.id).releaseOwned m.id).modify m.id
      (fun q => { q with reserved := 0, mark := some (q.mark.getD o) }) := by
  have here := request_of_alone alone
  have consulted : s.consultAll = s := by
    simp only [State.consultAll, alone, List.map_cons, List.map_nil, List.foldl_cons, List.foldl_nil]
    exact consult_of_unconsulted here (by simp [State.consults, open_])
  have one : s.drainOne o m.id = (((s.dropStaging m.id).dropWaits m.id).releaseOwned m.id).modify m.id
      (fun q => { q with reserved := 0, mark := some (q.mark.getD o) }) := by
    simp only [State.drainOne, here, open_]
  have ordered (t : State) (h : t.queue.finished = []) : t.orderFinished 0 = t := by
    unfold State.orderFinished
    simp only [h, List.take_nil, List.drop_nil, List.insertionSort_nil, List.append_nil]
    rw [← h]
  unfold State.drain
  rw [consulted]
  simp only [alone, none_, List.map_cons, List.map_nil, List.foldl_cons, List.foldl_nil, List.length_nil, one]
  exact ordered _ (by simpa [State.dropStaging, State.dropWaits] using none_)

/-- The station with the member marked is still, and is as R158 has it. -/
theorem marked_of_member {s : State} (still : Still s) {m : Request} (alone : s.queue.held = [m]) (open_ : m.state = .pendingChain)
    (o : ReqOutcome) : Still (s.drain o) ∧ Marked o s m (s.drain o) := by
  rw [drain_of_member alone open_ still.finished]
  let u := ((s.dropStaging m.id).dropWaits m.id).releaseOwned m.id
  have queue : u.queue = s.queue := by simp [u, State.dropStaging, State.dropWaits]
  have port : u.port = (s.dropStaging m.id).port := by simp [u]
  have sheds : Sheds m.id (s.dropStaging m.id) u := (dropWaits_sheds _ _).trans (releaseOwned_sheds _ _)
  rw [modify_of_alone (s := u) (by rw [queue, alone])]
  refine ⟨still.of_hold ?_ (sheds.waits still.waits) ?_ (fun f => ?_) ?_ sheds.length (fun n => ?_), rfl, fun j hj mine => ?_, fun g owner staged => ?_, ?_⟩
  · simp [u, State.dropStaging, State.dropWaits]
  · exact (congrArg WorkQueue.finished queue : u.queue.finished = s.queue.finished)
  · refine Eq.trans ?_ (dropStaging_hold s m.id f)
    simp [State.hold, State.allJobs, port]
  · simp [u]
  · rcases sheds.frames n with e | ⟨-, e⟩
    · exact .inl e
    · exact .inr (not_spent_of_free e)
  · have left : j ∈ (s.dropStaging m.id).allJobs := by simpa [State.allJobs, port] using hj
    rw [State.dropStaging, allJobs_filter] at left
    simpa [mine] using (List.mem_filter.mp left).2
  · rcases sheds.frames g with same | ⟨-, free⟩
    · have cleared := releaseOwned_clears ((s.dropStaging m.id).dropWaits m.id) m.id g
      have unread : (s.frame g).unreadOf m.id = true := by simp [Frame.unreadOf, owner, staged]
      exact absurd ((congrArg (Frame.unreadOf · m.id) same).symm.trans cleared) (by simp only [Bool.not_eq_false]; exact unread)
    · exact free
  · exact (congrArg Port.fifo port : u.port.fifo = (s.dropStaging m.id).port.fifo)

theorem Marked.settleAccess {s t : State} {m : Request} {o : ReqOutcome} (h : Marked o s m t) : Marked o s m t.settleAccess := by
  refine ⟨?_, ?_, ?_, ?_⟩
  · rw [State.settleAccess_queue]
    exact h.held
  · rw [State.allJobs, State.settleAccess_port]
    exact h.jobs
  · intro g owner staged
    rw [settleAccess_frame]
    exact h.frames g owner staged
  · rw [State.settleAccess_port]
    exact h.fifo

/-! ### RELEASED entered -/

/-- What a drain posts stands behind the records already in the FIFO (R96). -/
theorem drained_fifo_prefix (s : State) (o : ReqOutcome) : s.port.fifo <+: (s.drain o).post.settle.port.fifo := by
  have posted : (s.drain o).port.fifo <+: (s.drain o).post.port.fifo := postUpTo_fifo_prefix (s.drain o) _
  rw [drain_fifo] at posted
  exact posted.trans (settle_fifo_prefix _)

theorem enterReleased_cart (s : State) : s.enterReleased.cart = { s.cart with state := .released, timer := none } := rfl

/-- After the drain of the release and what is taken up behind it no drive request awaits the drive (R157). -/
theorem Onward.none_awaits {s t : State} (unlike : (s.queue.held.map (·.id)).Nodup) {o : ReqOutcome} (h : Onward (s.drain o) t) :
    ∀ r ∈ t.queue.held, r.kind.isDrive = true → r.state ≠ .staging ∧ r.state ≠ .waiting := by
  intro r hr drive
  have none_ := h.awaitIn (drain_awaitIn unlike o) r hr
  exact ⟨fun e => List.not_mem_nil (none_ ⟨drive, .inl e⟩), fun e => List.not_mem_nil (none_ ⟨drive, .inr e⟩)⟩

/-- RELEASE-CARTRIDGE at processing in LEAVING (R63, R160). -/
theorem exec_releaseCartridge {s : State} {b : BlockBody} (quiet : Quiet s) (pass : PassesPlain s .releaseCartridge b)
    (room : s.port.fifo.length < 16) (leaving : s.cart.state = .leaving) :
    exec (.releaseCartridge b) s = .next ((State.enterReleased { s with port := { s.port with
      partialBlock := [], fifo := s.port.fifo ++ [plainRecord s .releaseCartridge b .done .disk 0] } }).drain .cartridgeRemoved).post.settle := by
  let p : State := { s with port := { s.port with partialBlock := [] } }
  have accepted : p.refusal { kindCode := Kind.releaseCartridge.code, body := b } = none := by
    have passes : PassesPlain p .releaseCartridge b := { pass with }
    have verdict : p.immediateVerdict .releaseCartridge b = none := if_pos leaving
    unfold State.refusal
    rw [kindOfCode_code]
    dsimp only
    rw [firstFailed_of_plain passes quiet.staged, verdict]
    rfl
  have places : p.placesOf .releaseCartridge b = 1 := rfl
  refine (exec_blockCommand .releaseCartridge b s quiet.powered).trans ?_
  rw [completeBlock_of_free quiet.intake quiet.free,
    process_of_accepted (s := p) accepted (.inr ⟨by rw [places]; exact room, quiet.finished⟩)]
  rfl

/-- The release timer's end in LEAVING (R160). -/
theorem exec_releaseTimerExpires {s : State} (power : s.powered = true) (leaving : s.cart.state = .leaving)
    (timer : s.cart.timer.isSome = true) : exec .releaseTimerExpires s =
    .next ((s.enterReleased.drain .cartridgeRemoved).raise .releaseTimeout).settle := by
  have run : s.releaseTimeout = (s.enterReleased.drain .cartridgeRemoved).raise .releaseTimeout := if_pos (by simp [leaving, timer])
  rw [← run]
  exact congrArg _ (if_pos power)

end Sys2Proof.Machine

namespace Sys2Proof.Proofs
open Sys2Proof.Machine

/-- Settles O37: both ways into RELEASED are the same entry and drain; a lone request is ended by it, an open chain's member marked. -/
theorem releaseEntersReleased : Obligations.ReleaseEntersReleased := by
  unfold Obligations.ReleaseEntersReleased
  refine ⟨?command, ?timer⟩
  case command =>
    intro s b quiet ids pass room leaving
    let z : State := State.enterReleased { s with port := { s.port with
      partialBlock := [], fifo := s.port.fifo ++ [plainRecord s .releaseCartridge b .done .disk 0] } }
    refine ⟨(z.drain .cartridgeRemoved).post.settle, exec_releaseCartridge quiet pass room leaving, ?_, ?_, ?_, ?_, fun r drains more => ?_, ?_, ?_, ?_⟩
    · exact drained_fifo_prefix z .cartridgeRemoved
    · simp [z, enterReleased_cart]
    · rw [settle_crel]
      simp [z, State.enterReleased]
    · exact Onward.none_awaits (s := z) ids.unlike ((postUpTo_onward _ _).trans (settle_onward _))
    · have zstill : Still z := quiet.toStill.of_records
      have zdrains : Drainable z r :=
        ⟨⟨drains.held, drains.drive, drains.chain, drains.settled, by
          change (s.port.fifo ++ [_]).length < 16
          rw [List.length_append]
          simp only [List.length_cons, List.length_nil]
          omega⟩, drains.state, drains.undone, drains.misses⟩
      obtain ⟨u, c, record, ended⟩ := zdrains.ended zstill .cartridgeRemoved
      have posted := ended.posted zstill zdrains.settled zdrains.place
      refine ⟨c, ?_, ?_⟩
      · rw [posted.settle]
        have drained := (posted.drained zdrains u record rfl rfl).settleAccess
        exact ⟨drained.tag, drained.kind, drained.outcome, drained.sectors, drained.wordA, drained.held, drained.jobs, drained.frames⟩
      · rw [posted.settle, State.settleAccess_port]
        exact posted.fifo.trans (by simp [z])
    all_goals simp [z]
  case timer =>
    intro s power on ids leaving timer
    let z := s.enterReleased
    refine ⟨_, exec_releaseTimerExpires power leaving timer, ?_, ?_, ?_, ?_, fun r still drains => ?_, fun m still alone open_ => ?_, ?_, ?_, ?_⟩
    · simp [enterReleased_cart]
    · rw [settle_crel]
      simp [State.enterReleased]
    · refine (settle_onward _).notices 4 ?_
      rw [raise_of_configured (by simpa using on)]
      simp [setMark, Notice.bit]
    · exact Onward.none_awaits (s := z) ids.unlike ((onward_raise _ _).trans (settle_onward _))
    · have zstill : Still z := still.of_records
      have zdrains : Drainable z r :=
        ⟨⟨drains.held, drains.drive, drains.chain, drains.settled, drains.place⟩, drains.state, drains.undone, drains.misses⟩
      obtain ⟨u, c, record, ended⟩ := zdrains.ended zstill .cartridgeRemoved
      have raised := ended.raise (by simpa [z] using on) .releaseTimeout
      have posted := raised.posted zstill zdrains.settled zdrains.place
      have settled : ((z.drain .cartridgeRemoved).raise .releaseTimeout).settle =
          ((z.drain .cartridgeRemoved).raise .releaseTimeout).post.settleAccess := by
        rw [State.settle, raised.tidy zstill zdrains.settled]
      refine ⟨c, ?_, ?_⟩
      · rw [settled]
        have drained := (posted.drained zdrains u record rfl rfl).settleAccess
        exact ⟨drained.tag, drained.kind, drained.outcome, drained.sectors, drained.wordA, drained.held, drained.jobs, drained.frames⟩
      · rw [settled, State.settleAccess_port]
        exact posted.fifo
    · have zstill : Still z := still.of_records
      obtain ⟨kept, marked⟩ := marked_of_member (s := z) zstill alone open_ .cartridgeRemoved
      have on' : (z.drain .cartridgeRemoved).zones.configured = true := by simpa [z] using on
      rw [raise_of_configured on', settle_of_still kept.of_records]
      exact Marked.settleAccess ⟨marked.held, marked.jobs, marked.frames, marked.fifo⟩
    all_goals simp

end Sys2Proof.Proofs
end

section
/-! PROOF. The way of a deadline between two moments at which no block is accepted: a request that is still in WAITING has the deadline it
had, and a delivery of its own that was outstanding still is (R54, R83). -/

namespace Sys2Proof.Machine

/-- What the expiry test reads of a request, the state apart (R83). -/
def Request.deadline (r : Request) : Nat × Kind × Bool × Bool × Option Clock := (r.id, r.kind, r.dropIfLate, r.explicit, r.due)

/-- Whoever is in WAITING in `t` was so in `s`, with the same deadline, and has its outstanding delivery still. -/
def Deadlines (s t : State) : Prop := ∀ r ∈ t.queue.held, r.state = .waiting →
  ∃ q ∈ s.queue.held, q.state = .waiting ∧ q.deadline = r.deadline ∧ (s.delivering r.id = true → t.delivering r.id = true)

theorem delivering_iff (s : State) (id : Nat) : s.delivering id = true ↔ ∃ j ∈ s.allJobs, j.isFor id = true ∧ j.isDelivery = true := by
  simp [State.delivering]

theorem delivering_mono {s t : State} (jobs : ∀ j ∈ s.allJobs, j ∈ t.allJobs) (id : Nat) (h : s.delivering id = true) :
    t.delivering id = true := by
  rw [delivering_iff] at h ⊢
  obtain ⟨j, hj, mine⟩ := h
  exact ⟨j, jobs j hj, mine⟩

theorem Deadlines.of_jobs {s t : State} (held : t.queue.held = s.queue.held) (jobs : ∀ j ∈ s.allJobs, j ∈ t.allJobs) : Deadlines s t :=
  fun r hr state => ⟨r, held ▸ hr, state, rfl, delivering_mono jobs r.id⟩

theorem Deadlines.of_port {s t : State} (port : t.port = s.port) (held : t.queue.held = s.queue.held) : Deadlines s t :=
  .of_jobs held (fun j hj => by simpa [State.allJobs, port] using hj)

theorem Deadlines.refl (s : State) : Deadlines s s := .of_port rfl rfl

theorem Deadlines.trans {s t u : State} (h : Deadlines s t) (g : Deadlines t u) : Deadlines s u := by
  intro r hr state
  obtain ⟨q, hq, stateq, same, jobs⟩ := g r hr state
  obtain ⟨p, hp, statep, same', jobs'⟩ := h q hq stateq
  have id : q.id = r.id := congrArg Prod.fst same
  exact ⟨p, hp, statep, same'.trans same, fun d => jobs (id ▸ jobs' (id.symm ▸ d))⟩

theorem Deadlines.foldl {α : Type} {g : State → α → State} (h : ∀ t x, Deadlines t (g t x)) (l : List α) (s : State) :
    Deadlines s (l.foldl g s) := by
  induction l generalizing s with
  | nil => exact .refl s
  | cons x xs ih => exact (h s x).trans (ih _)

/-- A held request changed: it keeps its deadline, and its state unless it leaves WAITING. -/
theorem deadlines_modify (s : State) (id : Nat) {g : Request → Request} (same : ∀ q, (g q).deadline = q.deadline)
    (state : ∀ q, (g q).state = .waiting → q.state = .waiting) : Deadlines s (s.modify id g) := by
  intro r hr waits
  rw [modify_held] at hr
  obtain ⟨q, hq, rfl⟩ := List.mem_map.mp hr
  split at waits
  · next mine =>
    rw [if_pos mine]
    exact ⟨q, hq, state q waits, (same q).symm, fun d => d⟩
  · next other =>
    rw [if_neg other]
    exact ⟨q, hq, waits, rfl, fun d => d⟩

/-- A request that enters FINISHED takes its own jobs with it, and no other's. -/
theorem deadlines_finished (s : State) (r : Request) (o : ReqOutcome) : Deadlines s (s.finished r o) := by
  intro p hp waits
  rw [finished_held] at hp
  obtain ⟨q, hq, rfl⟩ := List.mem_map.mp hp
  by_cases mine : (q.id == r.id) = true
  · rw [if_pos mine] at waits
    cases waits
  · rw [if_neg mine] at waits ⊢
    refine ⟨q, hq, waits, rfl, fun outstanding => ?_⟩
    rw [delivering_iff] at outstanding ⊢
    obtain ⟨j, hj, own, delivers⟩ := outstanding
    have jobs : (s.finished r o).allJobs = s.allJobs.filter (fun j => !j.isFor r.id) := by
      rw [← allJobs_filter]
      simp [State.allJobs, State.finished, State.dropJobs, State.dropWaits]
    refine ⟨j, ?_, own, delivers⟩
    rw [jobs, List.mem_filter]
    refine ⟨hj, ?_⟩
    have names : j.req = q.id := by simpa using (Bool.and_eq_true_iff.mp own).1
    simp [Job.isFor, names, mine]

theorem deadlines_countLate (s : State) : Deadlines s s.countLate :=
  .of_jobs (by simp) (fun j hj => by rwa [countLate_allJobs])

theorem deadlines_finish (s : State) (id : Nat) (o : ReqOutcome) : Deadlines s (s.finish id o) := by
  rcases finish_cases s id o with e | ⟨r, -, e | e⟩
  all_goals rw [e]
  · exact .refl s
  · exact deadlines_finished s r o
  · exact (deadlines_finished s r o).trans (deadlines_countLate _)

theorem deadlines_endRequest (s : State) (id : Nat) (o : ReqOutcome) (a : Option SectorAddr) : Deadlines s (s.endRequest id o a) := by
  cases hr : s.request id with
  | none =>
    simp only [State.endRequest, hr]
    exact .refl s
  | some r =>
    have fixed : Deadlines s (s.fixOutcome r o a) := deadlines_modify s r.id (fun _ => rfl) (fun _ h => h)
    rw [endRequest_eq hr]
    split
    · have dropped : Deadlines s (((s.fixOutcome r o a).dropWaits id).releaseOwned id) :=
        fixed.trans (.of_port (by simp [State.dropWaits]) (by simp [State.dropWaits]))
      exact dropped.trans (deadlines_modify _ id (fun _ => rfl) (fun _ h => by cases h))
    · exact fixed.trans (deadlines_finish _ _ _)

/-! ### The consultation, the posting, the frames -/

theorem queueJob_allJobs (s : State) (j : Job) : (s.queueJob j).allJobs = s.allJobs ++ [j] := by
  simp [State.queueJob, State.allJobs]

theorem deadlines_queueDelivery (s : State) (r : Request) (idx f : Nat) : Deadlines s (s.queueDelivery r idx f) := by
  unfold State.queueDelivery
  split
  · exact .refl s
  · exact .of_jobs rfl (fun j hj => by
      rw [queueJob_allJobs]
      exact List.mem_append_left _ hj)

theorem markDone_deadline (r : Request) (i : Nat) (x : Source) : (r.markDone i x).deadline = r.deadline := by
  unfold Request.markDone
  split <;> rfl

theorem deadlines_hit (s : State) (r : Request) (idx f : Nat) : Deadlines s (s.hit r idx f) := by
  have marked : Deadlines s (s.modify r.id (fun q => (q.markDone idx .cache).useReserved)) :=
    deadlines_modify s r.id (fun q => markDone_deadline q idx .cache) (fun q h => markDone_state q idx .cache ▸ h)
  unfold State.hit
  dsimp only
  split
  · exact marked.trans (.of_port rfl rfl)
  · exact (marked.trans (.of_port rfl rfl)).trans (deadlines_queueDelivery _ r idx f)

theorem deadlines_takeHits (s : State) (r : Request) : Deadlines s (s.takeHits r) := by
  refine Deadlines.foldl (fun t idx => ?_) _ s
  split
  · exact deadlines_hit t r idx _
  · exact .refl t

theorem deadlines_consult (s : State) (id : Nat) : Deadlines s (s.consult id) := by
  unfold State.consult
  dsimp only
  repeat' split
  · exact .refl s
  · exact (deadlines_takeHits s _).trans (deadlines_endRequest _ _ _ _)
  · exact deadlines_takeHits s _
  · exact .refl s

theorem deadlines_postRecord (s : State) (id : Nat) (c : Completion) : Deadlines s (s.postRecord id c) := by
  unfold State.postRecord
  refine Deadlines.trans ?_ (Deadlines.foldl deadlines_consult _ _)
  exact fun r hr waits => ⟨r, List.mem_of_mem_filter hr, waits, rfl, fun d => d⟩

theorem deadlines_postUpTo (s : State) (n : Nat) : Deadlines s (s.postUpTo n) := by
  induction n generalizing s with
  | zero => exact .refl s
  | succ n ih =>
    unfold State.postUpTo
    repeat' split
    · exact .refl s
    · exact (deadlines_postRecord s _ _).trans (ih _)
    · exact .refl s

theorem deadlines_giveFrame (s : State) (w : AllocWait) (f : Nat) : Deadlines s (s.giveFrame w f) := by
  have used (t : State) (id : Nat) : Deadlines t (t.modify id Request.useReserved) := deadlines_modify t id (fun _ => rfl) (fun _ h => h)
  unfold State.giveFrame
  repeat' split
  · exact .of_port rfl rfl
  · exact .refl s
  · next r _ _ =>
    have given : Deadlines s ((s.setFrame f { Frame.free with state := .staged, owner := some r.id, idx := some w.idx }).modify r.id
      Request.useReserved) := (Deadlines.of_port rfl rfl).trans (used _ _)
    exact given.trans (.of_jobs rfl (fun j hj => by
      rw [State.giveStaged, queueJob_allJobs]
      exact List.mem_append_left _ hj))
  · exact (Deadlines.of_port rfl rfl).trans (used _ _)

theorem deadlines_serveList (s : State) (l : List AllocWait) : Deadlines s (s.serveList l) := by
  induction l generalizing s with
  | nil => exact .of_port rfl rfl
  | cons w ws ih =>
    unfold State.serveList
    split
    · exact .of_port rfl rfl
    · next f t h =>
      have allocated : Deadlines s t := by
        unfold State.allocate at h
        split at h
        · cases h
          exact .refl s
        · obtain ⟨g, -, e⟩ := Option.map_eq_some_iff.mp h
          cases e
          exact .of_port (by simp) (by simp)
      exact (allocated.trans (deadlines_giveFrame _ _ _)).trans (ih _)

theorem deadlines_tidy (s : State) : Deadlines s s.tidy :=
  (Deadlines.of_port (by simp) (by simp)).trans (deadlines_serveList s.sweep _)

/-! ### The expiry -/

/-- The requests named in a run of ends are in WAITING no longer. -/
theorem finishAll_ends (l : List (Nat × ReqOutcome)) {s : State} (unlike : (s.queue.held.map (·.id)).Nodup) :
    ∀ r ∈ (s.finishAll l).queue.held, r.state = .waiting → r.id ∉ l.map Prod.fst := by
  induction l generalizing s with
  | nil => simp
  | cons p l ih =>
    obtain ⟨id, o⟩ := p
    have unlike' := (onward_finish s id o).ids.nodup unlike
    intro r hr waits named
    rcases List.mem_cons.mp named with here | later
    · obtain ⟨q, hq, stateq, same, -⟩ := Deadlines.foldl (fun t (p : Nat × ReqOutcome) => deadlines_finish t p.1 p.2) l
        (s.finish id o) r hr waits
      have mine : q.id = id := (congrArg Prod.fst same).trans here
      obtain ⟨x, hx, statex, same', -⟩ := deadlines_finish s id o q hq stateq
      have found : s.request id = some x := by
        rw [← ((congrArg Prod.fst same').trans mine : x.id = id)]
        exact request_of_mem unlike hx
      have ended := finish_decides found (by simp [statex]) o q hq mine
      rw [stateq] at ended
      cases ended
    · exact ih unlike' r hr waits later

theorem deadlines_finishAll (s : State) (l : List (Nat × ReqOutcome)) : Deadlines s (s.finishAll l) :=
  Deadlines.foldl (fun t (p : Nat × ReqOutcome) => deadlines_finish t p.1 p.2) l s

/-- After the expiry whoever waits past an explicit deadline under DROP-IF-LATE has a delivery outstanding (R83). -/
theorem expire_leaves {s : State} (unlike : (s.queue.held.map (·.id)).Nodup) :
    ∀ r ∈ s.expire.queue.held, r.kind.isDrive = true → r.dropIfLate = true → r.explicit = true → r.state = .waiting →
      (∃ d, r.due = some d ∧ 0 ≤ (s.clock - d).toInt) → s.expire.delivering r.id = true := by
  rintro r hr drive drop explicit waits ⟨d, due, past⟩
  let l := (s.queue.held.filter s.expires).map (fun r => (r.id, ReqOutcome.expired))
  obtain ⟨q, hq, stateq, same, outstanding⟩ := deadlines_postUpTo (s.finishAll l) _ r hr waits
  obtain ⟨p, hp, statep, same', outstanding'⟩ := deadlines_finishAll s l q hq stateq
  have both : p.deadline = r.deadline := same'.trans same
  have mine : q.id = r.id := congrArg Prod.fst same
  simp only [Request.deadline, Prod.mk.injEq] at both
  obtain ⟨id, kind, drop', explicit', due'⟩ := both
  by_cases delivers : s.delivering p.id = true
  · exact outstanding (mine ▸ outstanding' (by rwa [mine, ← id]))
  · have expires : s.expires p = true := by
      have late : clockBefore s.clock d = false := decide_eq_false (Int.not_lt.mpr past)
      simp [State.expires, kind, drive, drop', drop, explicit', explicit, statep, delivers, due', due, late]
    refine absurd ?_ (finishAll_ends l unlike q hq stateq)
    rw [mine, ← id]
    simp only [l, List.map_map]
    exact List.mem_map_of_mem (List.mem_filter.mpr ⟨hp, expires⟩)

end Sys2Proof.Machine
end

section
/-! PROOF. What a completed gap does before the round: the expiry, the consultation, the urgency frozen (R25, R26, R79, R83). -/

namespace Sys2Proof.Machine

theorem exec_gapCompletes {s : State} (power : s.powered = true) (on : s.zones.configured = true) (l : Lines) :
    exec (.gapCompletes l) s = .next (s.sample l).gapCompletes :=
  congrArg _ ((if_pos power).trans (if_pos on))

/-- A gap counts for a station away from the line, with no HOLD of a present peer (R25). -/
theorem gapCompletes_of_quiet {s : State} (line : s.pins.hold = false ∨ s.pins.pres = false)
    (away : s.access.state = .idle ∨ s.access.state = .waiting ∨ s.access.state = .backoff) :
    s.gapCompletes = s.prepare.settleAccess.joinRound := by
  refine if_pos ?_
  have unseen : s.seen s.pins.hold = false := by
    rcases line with h | h <;> simp [State.seen, h]
  rcases away with h | h | h <;> simp [State.gapCounts, unseen, h]

theorem joinRound_round (s : State) : s.joinRound.access.round = some .window1 := by
  unfold State.joinRound
  dsimp only
  split <;> rfl

/-- The round joined or not changes the station's own line records alone. -/
theorem joins_only (s : State) : s.settleAccess.joinRound =
    { s with access := s.settleAccess.joinRound.access, lines := s.settleAccess.joinRound.lines } := by
  unfold State.joinRound
  dsimp only
  rcases settleAccess_cases s with e | ⟨-, -, e⟩ | ⟨-, -, e⟩ <;> rw [e] <;> split <;> rfl

/-! ### Nothing expires, nothing is in the cache -/

/-- A consultation that finds no sector, or is not called for, changes nothing (R79). -/
theorem consult_of_none {s : State} (h : ∀ r ∈ s.queue.held, s.consults r = true →
    r.undone ≠ [] ∧ ∀ i ∈ r.undone, s.validFrame (sectorAt r.addr.cyl i) = none) (id : Nat) : s.consult id = s := by
  cases hr : s.request id with
  | none => rw [State.consult, hr]
  | some r =>
    obtain rfl := request_id hr
    by_cases asks : s.consults r = true
    · obtain ⟨left, miss⟩ := h r (List.mem_of_find?_eq_some hr) asks
      exact consult_of_miss hr left (fun _ => miss)
    · exact consult_of_unconsulted hr (by simpa using asks)

theorem consultAll_of_misses {s : State} (h : ∀ r ∈ s.queue.held, s.consults r = true →
    r.undone ≠ [] ∧ ∀ i ∈ r.undone, s.validFrame (sectorAt r.addr.cyl i) = none) : s.consultAll = s := by
  unfold State.consultAll
  generalize s.queue.held.map (·.id) = ids
  induction ids with
  | nil => rfl
  | cons id ids ih => rw [List.foldl_cons, consult_of_none h id, ih]

theorem expire_of_early {s : State} (finished : s.queue.finished = []) (h : ∀ r ∈ s.queue.held, s.expires r = false) : s.expire = s := by
  have early : s.queue.held.filter s.expires = [] := List.filter_eq_nil_iff.mpr (fun r hr => by simp [h r hr])
  rw [State.expire, early]
  exact post_of_nil s finished

theorem prepare_of_misses {s : State} (still : Still s) (h : ∀ r ∈ s.queue.held, s.expires r = false ∧ (s.consults r = true →
    r.undone ≠ [] ∧ ∀ i ∈ r.undone, s.validFrame (sectorAt r.addr.cyl i) = none)) : s.prepare = s := by
  rw [State.prepare, expire_of_early still.finished (fun r hr => (h r hr).1), consultAll_of_misses (fun r hr => (h r hr).2),
    post_of_nil s still.finished, tidy_of_still still]

theorem joinRound_of_not_waiting {s : State} (h : s.access.state ≠ .waiting) :
    s.joinRound = { s with
      access := { s.access with frozen := s.bidUrgency, round := some .window1 }, lines := { s.lines with call := false } } :=
  if_neg (by simp [h])

/-- A station with drive work joins the round with its urgency frozen (R26, R27). -/
theorem joins_of_work {s : State} (resting : s.access.state = .idle ∨ s.access.state = .waiting) (work : s.hasWork = true) :
    s.settleAccess.joinRound = { s with
      access := { s.access with state := .bidding, frozen := s.bidUrgency, round := some .window1 }
      lines := { s.lines with call := true, mark1 := decide (2 ≤ s.bidUrgency), mark2 := false } } := by
  have settled : s.settleAccess = { s with access := { s.access with state := .waiting } } := by
    rcases resting with idle | waiting
    · rw [settleAccess_of_idle idle]
      exact if_pos work
    · rw [settleAccess_of_waiting waiting, if_pos work, ← waiting]
  rw [settled]
  exact if_pos (by rw [hasWork_of_line, work]; rfl)

/-- A station without drive work is in IDLE, and a yield call falls (R24, R38). -/
theorem joins_of_no_work {s : State} (resting : s.access.state = .idle ∨ s.access.state = .waiting) (none_ : s.hasWork = false) :
    s.settleAccess.joinRound = { s with
      access := { s.access with state := .idle, frozen := s.bidUrgency, round := some .window1 }
      lines := { s.lines with call := false } } := by
  have settled : s.settleAccess.access.state = .idle := by
    rcases resting with idle | waiting
    · rw [settleAccess_of_idle idle, if_neg (by simp [none_]), idle]
    · rw [settleAccess_of_waiting waiting, if_neg (by simp [none_])]
  rw [joinRound_of_not_waiting (by simp [settled])]
  rcases resting with idle | waiting
  · rw [settleAccess_of_idle idle, if_neg (by simp [none_]), ← idle]
  · rw [settleAccess_of_waiting waiting, if_neg (by simp [none_])]
    rfl

/-- A station in BACKOFF does not join (R30, R38). -/
theorem joins_of_backoff {s : State} (backoff : s.access.state = .backoff) :
    s.settleAccess.joinRound = { s with
      access := { s.access with frozen := s.bidUrgency, round := some .window1 }, lines := { s.lines with call := false } } := by
  have settled : s.settleAccess = s := by rw [State.settleAccess, backoff]
  rw [settled]
  exact joinRound_of_not_waiting (by simp [backoff])

/-! ### The expiry -/

/-- Whoever is left in WAITING past an explicit deadline under DROP-IF-LATE has a delivery outstanding (R83). -/
theorem prepare_leaves {s : State} (unlike : (s.queue.held.map (·.id)).Nodup) :
    ∀ r ∈ s.prepare.queue.held, r.kind.isDrive = true → r.dropIfLate = true → r.explicit = true → r.state = .waiting →
      (∃ d, r.due = some d ∧ 0 ≤ (s.clock - d).toInt) → s.prepare.delivering r.id = true := by
  have after : Deadlines s.expire s.prepare := ((Deadlines.foldl deadlines_consult _ _).trans (deadlines_postUpTo _ _)).trans (deadlines_tidy _)
  intro r hr drive drop explicit waits past
  obtain ⟨q, hq, stateq, same, outstanding⟩ := after r hr waits
  have id : q.id = r.id := congrArg Prod.fst same
  simp only [Request.deadline, Prod.mk.injEq] at same
  obtain ⟨-, kind, drop', explicit', due⟩ := same
  exact outstanding (id ▸ expire_leaves unlike q hq (kind ▸ drive) (drop' ▸ drop) (explicit' ▸ explicit) stateq (due ▸ past))

/-- The expiry of a lone request: it enters FINISHED with EXPIRED, its record is posted and the LATE counter goes up (R83, R85). -/
theorem expire_of_alone {s : State} {r : Request} (alone : s.queue.held = [r]) (waits : r.state = .waiting) (expires : s.expires r = true) :
    s.expire = (s.finished r .expired).countLate.post := by
  have ended : s.finish r.id .expired = (s.finished r .expired).countLate := by
    unfold State.finish
    simp only [request_of_alone alone, waits]
    rw [if_neg (by decide), if_pos (by simp)]
    rfl
  rw [State.expire, alone, List.filter_cons_of_pos expires]
  exact congrArg State.post ended

theorem EndedAlone.countLate {s t : State} {r : Request} {c : Completion} (h : EndedAlone s r c t) : EndedAlone s r c t.countLate := by
  refine ⟨h.sheds.trans (countLate_sheds t r.id), ?_, ?_, ?_, fun n => ?_⟩
  · rw [State.countLate_queue]
    exact h.held
  · rw [State.countLate_queue]
    exact h.finished
  · rw [countLate_allJobs]
    exact h.noJobs
  · rw [State.frame, State.countLate_cache]
    exact h.cleared n

theorem countLate_off {s : State} (off : s.zones.thresholds.late = 0) :
    s.countLate = { s with faults := { s.faults with late := s.faults.late + 1 } } := by
  unfold State.countLate State.raiseIf
  rw [off]
  rfl

end Sys2Proof.Machine
end

section
/-! PROOF. The sectors that the cache holds of a lone READ or PIN, taken as done in index order (R43, R69, R110, R111). -/

namespace Sys2Proof.Machine

/-! ### The request -/

/-- The request with the sectors of the list taken from the cache, each with one frame of its reservation returned (R69, R110). -/
def Request.withHits (r : Request) (hits : List Nat) : Request := hits.foldl (fun q i => (q.markDone i .cache).useReserved) r

theorem withHits_append (r : Request) (hits : List Nat) (i : Nat) :
    r.withHits (hits ++ [i]) = ((r.withHits hits).markDone i .cache).useReserved := by
  simp [Request.withHits, List.foldl_append]

theorem markDone_of_left {r : Request} {i : Nat} (left : i ∉ r.done) (x : Source) : r.markDone i x = { r with
    done := r.done ++ [i], source := joinSource r.source x, promised := r.promised.filter (· != i) } :=
  if_neg (by simpa using left)

theorem markDone_only (r : Request) (i : Nat) (x : Source) :
    r.markDone i x = { r with done := (r.markDone i x).done, source := (r.markDone i x).source, promised := (r.markDone i x).promised } := by
  unfold Request.markDone
  split <;> rfl

theorem withHits_only (r : Request) (hits : List Nat) : r.withHits hits = { r with
    done := (r.withHits hits).done, source := (r.withHits hits).source, promised := (r.withHits hits).promised,
    reserved := (r.withHits hits).reserved } := by
  induction hits using List.reverseRecOn with
  | nil => rfl
  | append_singleton hits i ih => rw [withHits_append, markDone_only, ih]; rfl

theorem withHits_id (r : Request) (hits : List Nat) : (r.withHits hits).id = r.id := by rw [withHits_only]

theorem withHits_reserved (r : Request) (hits : List Nat) : (r.withHits hits).reserved = r.reserved - hits.length := by
  induction hits using List.reverseRecOn with
  | nil => rfl
  | append_singleton hits i ih =>
    rw [withHits_append, markDone_only, Request.useReserved, List.length_append]
    dsimp only
    rw [ih]
    simp
    omega

/-- Sectors not done before are done behind the others. -/
theorem withHits_done (r : Request) {hits : List Nat} (unlike : hits.Nodup) (left : ∀ i ∈ hits, i ∉ r.done) :
    (r.withHits hits).done = r.done ++ hits := by
  induction hits using List.reverseRecOn with
  | nil => simp [Request.withHits]
  | append_singleton hits i ih =>
    obtain ⟨before, -, apart⟩ := List.nodup_append.mp unlike
    have done := ih before (fun x hx => left x (by simp [hx]))
    have fresh : i ∉ (r.withHits hits).done := by
      rw [done, List.mem_append]
      rintro (old | new)
      · exact left i (by simp) old
      · exact apart i new i (by simp) rfl
    rw [withHits_append, markDone_of_left fresh]
    simp [Request.useReserved, done]

/-- The source that sectors of the cache leave (R69). -/
theorem withHits_source (r : Request) {hits : List Nat} (unlike : hits.Nodup) (left : ∀ i ∈ hits, i ∉ r.done) :
    (r.withHits hits).source =
      if hits = [] then r.source else if r.source = none ∨ r.source = some .cache then some .cache else some .mixed := by
  induction hits using List.reverseRecOn with
  | nil => rfl
  | append_singleton hits i ih =>
    obtain ⟨before, -, apart⟩ := List.nodup_append.mp unlike
    have left' : ∀ x ∈ hits, x ∉ r.done := fun x hx => left x (by simp [hx])
    have fresh : i ∉ (r.withHits hits).done := by
      rw [withHits_done r before left', List.mem_append]
      rintro (old | new)
      · exact left i (by simp) old
      · exact apart i new i (by simp) rfl
    have joined : (r.withHits (hits ++ [i])).source = joinSource (r.withHits hits).source .cache := by
      rw [withHits_append, markDone_of_left fresh]
      rfl
    rw [joined, ih before left', if_neg (by simp : hits ++ [i] ≠ [])]
    by_cases none_ : hits = []
    · rw [if_pos none_]
      cases h : r.source with
      | none => rfl
      | some x => cases x <;> rfl
    · rw [if_neg none_]
      split <;> rfl

theorem undone_nodup (r : Request) : r.undone.Nodup := List.Nodup.filter _ List.nodup_range'

theorem undone_not_done {r : Request} {i : Nat} (h : i ∈ r.undone) : i ∉ r.done := by
  have := (List.mem_filter.mp h).2
  simpa using this

/-- What is left once some of the sectors have been taken. -/
theorem withHits_undone (r : Request) {p : Nat → Bool} :
    (r.withHits (r.undone.filter p)).undone = [] ↔ r.undone.filter p = r.undone := by
  have done := withHits_done r (List.Nodup.filter p (undone_nodup r)) (fun i hi => undone_not_done (List.mem_of_mem_filter hi))
  have indices : (r.withHits (r.undone.filter p)).indices = r.indices := by rw [withHits_only]; rfl
  rw [Request.undone, indices, done, List.filter_eq_nil_iff, List.filter_eq_self]
  constructor
  · intro all i hi
    have taken := all i (List.mem_of_mem_filter hi)
    simp only [Bool.not_eq_true', Bool.not_eq_false, List.contains_iff_mem, List.mem_append] at taken
    rcases taken with old | new
    · exact absurd old (undone_not_done hi)
    · exact (List.mem_filter.mp new).2
  · intro all i hi
    simp only [Bool.not_eq_true', Bool.not_eq_false, List.contains_iff_mem, List.mem_append]
    by_cases old : i ∈ r.done
    · exact .inl old
    · have mem : i ∈ r.undone := List.mem_filter.mpr ⟨hi, by simpa using old⟩
      exact .inr (List.mem_filter.mpr ⟨mem, all i mem⟩)

/-! ### A READ -/

/-- The delivery job of a sector that the cache holds (R110, R178). -/
def State.hitJob (s : State) (r : Request) (i : Nat) : Job :=
  { req := r.id, orphan := false, kind := .delivery ((s.validFrame (sectorAt r.addr.cyl i)).getD 0) i, base := r.sectorBase i }

/-- The station with the sectors of the list taken for its one READ, the LRU order as given. -/
def State.withHits (s : State) (r : Request) (hits lru : List Nat) : State :=
  { s with queue := { s.queue with held := [r.withHits hits] }
           port := { s.port with jobs := s.port.jobs ++ hits.map (s.hitJob r) }
           cache := { s.cache with lru := lru } }

theorem hit_withHits {s : State} {r : Request} (read : r.kind = .read) (going : r.refusedAt = none) {i f : Nat}
    (here : s.validFrame (sectorAt r.addr.cyl i) = some f) (hits lru : List Nat) :
    (s.withHits r hits lru).hit r i f = s.withHits r (hits ++ [i]) (lru.filter (· != f) ++ [f]) := by
  have job : s.hitJob r i = { req := r.id, orphan := false, kind := .delivery f i, base := r.sectorBase i } := by
    simp [State.hitJob, here]
  have marked : (s.withHits r hits lru).modify r.id (fun q => (q.markDone i .cache).useReserved) =
      { s.withHits r hits lru with queue := { s.queue with held := [r.withHits (hits ++ [i])] } } := by
    have h := modify_of_alone (s := s.withHits r hits lru) (r := r.withHits hits) rfl (fun q => (q.markDone i .cache).useReserved)
    rw [withHits_id] at h
    rw [h, withHits_append]
    rfl
  unfold State.hit
  rw [marked]
  dsimp only
  rw [if_neg (by simp [read]), State.queueDelivery, going, if_neg (by simp)]
  simp [State.withHits, State.queueJob, State.touch, job]

/-- A READ takes the sectors that VALID frames hold, in index order (R110). -/
theorem takeHits_read {s : State} {r : Request} (alone : s.queue.held = [r]) (read : r.kind = .read) (going : r.refusedAt = none) :
    ∃ lru, s.takeHits r = s.withHits r (r.undone.filter (fun i => (s.validFrame (sectorAt r.addr.cyl i)).isSome)) lru := by
  have start : s = s.withHits r [] s.cache.lru := by
    simp only [State.withHits, Request.withHits, List.foldl_nil, List.map_nil, List.append_nil, ← alone]
  have run : ∀ (l hits lru : List Nat), ∃ lru', l.foldl (fun t idx =>
      match t.validFrame (sectorAt r.addr.cyl idx) with
      | some f => t.hit r idx f
      | none => t) (s.withHits r hits lru)
        = s.withHits r (hits ++ l.filter (fun i => (s.validFrame (sectorAt r.addr.cyl i)).isSome)) lru' := by
    intro l
    induction l with
    | nil => exact fun hits lru => ⟨lru, by simp⟩
    | cons i l ih =>
      intro hits lru
      have same : (s.withHits r hits lru).validFrame (sectorAt r.addr.cyl i) = s.validFrame (sectorAt r.addr.cyl i) := rfl
      rw [List.foldl_cons, same]
      cases h : s.validFrame (sectorAt r.addr.cyl i) with
      | none => simpa [h] using ih hits lru
      | some f =>
        dsimp only
        rw [hit_withHits read going h]
        simpa [h] using ih (hits ++ [i]) (lru.filter (· != f) ++ [f])
  obtain ⟨lru, h⟩ := run r.undone [] s.cache.lru
  rw [← start] at h
  exact ⟨lru, h⟩

/-- More deliveries leave no frame unread. -/
theorem Still.withHits {s : State} (still : Still s) (r : Request) (hits lru : List Nat) : Still (s.withHits r hits lru) := by
  refine ⟨still.powered, still.waits, still.finished, fun f hf => ?_⟩
  by_cases read : (s.withHits r hits lru).hold f = 0
  · have jobs : (s.withHits r hits lru).allJobs = s.allJobs ++ hits.map (s.hitJob r) := by simp [State.allJobs, State.withHits]
    have unread : s.hold f = 0 := by
      rw [State.hold, jobs, List.filter_append, List.length_append] at read
      exact Nat.eq_zero_of_add_eq_zero_right read
    have before := still.spent f hf
    simp only [State.spent, unread] at before
    simp only [State.spent, read]
    exact before
  · exact not_spent_of_hold read

end Sys2Proof.Machine
end

section
/-! PROOF. The lone PIN that the cache serves, and what a consultation leaves of a lone READ or PIN (R79, R110, R111). -/

namespace Sys2Proof.Machine

/-! ### A PIN -/

/-- The sectors of the list taken for the one PIN held, each frame `g i` pinned (R111). -/
structure PinnedHits (s : State) (r : Request) (g : Nat → Nat) (hits : List Nat) (t : State) : Prop where
  only   : t = { s with queue := { s.queue with held := [r.withHits hits] }
                        cache := { s.cache with lru := t.cache.lru, frames := t.cache.frames } }
  length : t.cache.frames.length = s.cache.frames.length
  frames : ∀ f, t.frame f = if f ∈ hits.map g then { s.frame f with pinned := true } else s.frame f

section Pinned
variable {s t : State} {r : Request} {g : Nat → Nat} {hits : List Nat} (h : PinnedHits s r g hits t)
include h

theorem PinnedHits.port : t.port = s.port := by rw [h.only]

theorem PinnedHits.store : t.cache.store = s.cache.store := by rw [h.only]

/-- A pin changes no other field of a frame. -/
theorem PinnedHits.frame_eq (f : Nat) : ∃ p, t.frame f = { s.frame f with pinned := p } := by
  rw [h.frames f]
  split
  · exact ⟨true, rfl⟩
  · exact ⟨_, rfl⟩

theorem PinnedHits.validFrame (a : SectorAddr) : t.validFrame a = s.validFrame a := by
  have holds (n : Nat) : (t.frame n).holds a = (s.frame n).holds a := by
    obtain ⟨p, e⟩ := h.frame_eq n
    rw [e, Frame.holds, Frame.holds]
  have state (n : Nat) : (t.frame n).state = (s.frame n).state := by
    obtain ⟨p, e⟩ := h.frame_eq n
    rw [e]
  rw [State.validFrame, State.validFrame, dirFrame_congr h.length holds]
  simp only [state]

theorem PinnedHits.hit (pin : r.kind = .pin) {i : Nat} (here : s.validFrame (sectorAt r.addr.cyl i) = some (g i)) :
    PinnedHits s r g (hits ++ [i]) (t.hit r i (g i)) := by
  have inside : g i < t.cache.frames.length := by
    rw [h.length]
    exact (dirFrame_spec (Option.mem_filter_iff.mp (here : g i ∈ s.validFrame _)).1).1
  have marked : t.modify r.id (fun q => (q.markDone i .cache).useReserved) =
      { t with queue := { t.queue with held := [r.withHits (hits ++ [i])] } } := by
    have held : t.queue.held = [r.withHits hits] := by rw [h.only]
    have changed := modify_of_alone held (fun q => (q.markDone i .cache).useReserved)
    rw [withHits_id] at changed
    rw [changed, withHits_append]
  have run : t.hit r i (g i) = { t with
      queue := { t.queue with held := [r.withHits (hits ++ [i])] }
      cache := { t.cache with lru := t.cache.lru.filter (· != g i) ++ [g i]
                              frames := t.cache.frames.set (g i) { t.frame (g i) with pinned := true } } } := by
    unfold State.hit
    rw [marked]
    exact if_pos pin
  rw [run]
  refine ⟨by rw [h.only], by simp [h.length], fun f => ?_⟩
  rw [frame_of_set (s := t) rfl, h.frames f, List.map_append, List.map_cons, List.map_nil]
  by_cases e : f = g i
  · subst e
    rw [if_pos ⟨rfl, inside⟩, h.frames]
    split <;> simp
  · rw [if_neg (fun both => e both.1)]
    simp [e]

/-- A pin leaves no frame that nothing reads. -/
theorem PinnedHits.still (still : Still s) : Still t := by
  have hold (f : Nat) : t.hold f = s.hold f := hold_of_port (by rw [h.only]) (by rw [h.only]) f
  refine ⟨by rw [h.only]; exact still.powered, by rw [h.only]; exact still.waits, by rw [h.only]; exact still.finished, fun f hf => ?_⟩
  obtain ⟨p, e⟩ := h.frame_eq f
  have before := still.spent f (by simpa [State.frameNumbers, h.length] using hf)
  have work : t.seq.work = s.seq.work := by rw [h.only]
  simpa [State.spent, State.refreshing, Frame.retiring, hold, e, work] using before

end Pinned

/-- A PIN all of whose sectors are VALID pins their frames (R111). -/
theorem takeHits_pin {s : State} {r : Request} {g : Nat → Nat} (alone : s.queue.held = [r]) (pin : r.kind = .pin)
    (valid : ∀ i ∈ r.undone, s.validFrame (sectorAt r.addr.cyl i) = some (g i)) : PinnedHits s r g r.undone (s.takeHits r) := by
  have start : PinnedHits s r g [] s := by
    refine ⟨?_, rfl, fun f => by simp⟩
    rw [Request.withHits, List.foldl_nil, ← alone]
  have run : ∀ (l hits : List Nat) (t : State), (∀ i ∈ l, s.validFrame (sectorAt r.addr.cyl i) = some (g i)) → PinnedHits s r g hits t →
      PinnedHits s r g (hits ++ l) (l.foldl (fun t idx =>
        match t.validFrame (sectorAt r.addr.cyl idx) with
        | some f => t.hit r idx f
        | none => t) t) := by
    intro l
    induction l with
    | nil => exact fun hits t _ h => by simpa using h
    | cons i l ih =>
      intro hits t each h
      have here := each i (by simp)
      rw [List.foldl_cons, h.validFrame, here]
      simpa using ih (hits ++ [i]) _ (fun x hx => each x (by simp [hx])) (h.hit pin here)
  exact run r.undone [] s valid start

/-! ### The consultation -/

theorem frame_unowned {s : State} {id : Nat} (h : ∀ fr ∈ s.cache.frames, fr.owner ≠ some id) (f : Nat) : (s.frame f).owner ≠ some id := by
  by_cases inside : f < s.cache.frames.length
  · exact h _ (by simp [State.frame, inside])
  · simp [frame_of_out (Nat.le_of_not_lt inside), Frame.free]

/-- A request that owns no frame has none to release (R113). -/
theorem releaseOwned_of_none {s : State} {id : Nat} (h : ∀ fr ∈ s.cache.frames, fr.owner ≠ some id) : s.releaseOwned id = s := by
  have unowned (f : Nat) : (s.frame f).unreadOf id = false := by simp [Frame.unreadOf, frame_unowned h f]
  unfold State.releaseOwned
  induction s.frameNumbers with
  | nil => rfl
  | cons f l ih => rw [List.foldl_cons, if_neg (by simp [unowned f]), ih]

/-- The cache is consulted for a lone request in WAITING: a READ without BYPASS or a PIN (R79). -/
theorem consults_of_alone {s : State} {r : Request} (alone : s.queue.held = [r]) (waits : r.state = .waiting) (chain : r.chain = none)
    (kind : r.kind = .pin ∨ (r.kind = .read ∧ r.bypass = false)) : s.consults r = true := by
  have unblocked : s.blocked r = false := by simp [State.blocked, alone, Request.blocks]
  rcases kind with pin | ⟨read, bypass⟩
  · simp [State.consults, waits, chain, unblocked, pin]
  · simp [State.consults, waits, chain, unblocked, read, bypass]

theorem prepare_of_consulted {s : State} {r : Request} (finished : s.queue.finished = []) (alone : s.queue.held = [r])
    (early : s.expires r = false) (consults : s.consults r = true) :
    s.prepare = State.tidy (State.post (if (s.takeHits r).allDone r.id then (s.takeHits r).endRequest r.id .done none else s.takeHits r)) := by
  have consulted : s.consultAll = s.consult r.id := by simp [State.consultAll, alone]
  rw [State.prepare, expire_of_early finished (fun q hq => by
      obtain rfl := List.mem_singleton.mp (alone ▸ hq : q ∈ [r])
      exact early), consulted]
  simp only [State.consult, request_of_alone alone, consults, if_true]

theorem allDone_of_alone {t : State} {q : Request} (alone : t.queue.held = [q]) : t.allDone q.id = q.undone.isEmpty := by
  simp [State.allDone, request_of_alone alone]

/-- The station with the one request as given. -/
def State.holdsOnly (s : State) (q : Request) : State := { s with queue := { s.queue with held := [q] } }

theorem dropWaits_of_none {s : State} (waits : s.cache.waits = []) (id : Nat) : s.dropWaits id = s := by
  rw [State.dropWaits, waits, List.filter_nil, ← waits]

/-- A lone request with a delivery outstanding awaits it, its outcome fixed (R54). -/
theorem endRequest_of_outstanding {t : State} {q : Request} (alone : t.queue.held = [q]) (waits : t.cache.waits = [])
    (unowned : ∀ fr ∈ t.cache.frames, fr.owner ≠ some q.id) (going : q.refusedAt = none) (outstanding : t.delivering q.id = true) :
    ∃ a flags, t.endRequest q.id .done none = t.holdsOnly { q.fixed .done a flags with state := .delivering } := by
  have outcome : q.endOutcome .done = .done := by simp [Request.endOutcome, Request.refusal, going]
  have fixed : t.fixOutcome q .done none = t.holdsOnly (q.fixed .done (q.endAddr .done none)
      (if q.kind = .update || q.chain.isSome then t.unit.flags else CondFlags.clear)) := by
    rw [State.fixOutcome, outcome]
    exact modify_of_alone alone _
  have still_ (x : Request) : (t.holdsOnly x).delivering q.id = true := outstanding
  have kept (x : Request) : ((t.holdsOnly x).dropWaits q.id).releaseOwned q.id = t.holdsOnly x := by
    rw [dropWaits_of_none (s := t.holdsOnly x) waits, releaseOwned_of_none (s := t.holdsOnly x) unowned]
  rw [endRequest_eq (request_of_alone alone), fixed, if_pos (still_ _), kept]
  exact ⟨_, _, modify_of_alone (s := t.holdsOnly _) (r := q.fixed .done _ _) rfl _⟩

/-! ### The READ that is served in part or whole -/

section Read
variable {s : State} {r : Request} (still : Still s) (alone : s.queue.held = [r]) (early : s.expires r = false) (waits : r.state = .waiting)
  (chain : r.chain = none) (read : r.kind = .read) (bypass : r.bypass = false) (going : r.refusedAt = none)
include still alone early waits chain read bypass going

/-- A READ with a sector left to do stays in WAITING (R110). -/
theorem prepare_of_partial_read (left : r.undone.filter (fun i => (s.validFrame (sectorAt r.addr.cyl i)).isSome) ≠ r.undone) :
    ∃ lru, s.prepare = s.withHits r (r.undone.filter (fun i => (s.validFrame (sectorAt r.addr.cyl i)).isSome)) lru := by
  obtain ⟨lru, taken⟩ := takeHits_read alone read going
  have undone := mt (withHits_undone r).mp left
  rw [prepare_of_consulted still.finished alone early (consults_of_alone alone waits chain (.inr ⟨read, bypass⟩)), taken]
  have open_ := allDone_of_alone (t := s.withHits r (r.undone.filter (fun i => (s.validFrame (sectorAt r.addr.cyl i)).isSome)) lru) rfl
  rw [withHits_id] at open_
  rw [open_, if_neg (by simpa using undone)]
  have kept := still.withHits r (r.undone.filter (fun i => (s.validFrame (sectorAt r.addr.cyl i)).isSome)) lru
  rw [post_of_nil _ kept.finished, tidy_of_still kept]
  exact ⟨lru, rfl⟩

/-- A READ with none left awaits its deliveries (R54, R110). -/
theorem prepare_of_whole_read (some_ : r.undone ≠ []) (unowned : ∀ fr ∈ s.cache.frames, fr.owner ≠ some r.id)
    (all : r.undone.filter (fun i => (s.validFrame (sectorAt r.addr.cyl i)).isSome) = r.undone) :
    ∃ lru a flags, s.prepare =
      (s.withHits r r.undone lru).holdsOnly { (r.withHits r.undone).fixed .done a flags with state := .delivering } := by
  obtain ⟨lru, taken⟩ := takeHits_read alone read going
  rw [all] at taken
  have id : (r.withHits r.undone).id = r.id := withHits_id r _
  have kept := still.withHits r r.undone lru
  have done : (s.withHits r r.undone lru).allDone r.id = true := by
    rw [← id, allDone_of_alone (t := s.withHits r r.undone lru) rfl]
    have none_ := (withHits_undone r (p := fun i => (s.validFrame (sectorAt r.addr.cyl i)).isSome)).mpr all
    rw [all] at none_
    simp [none_]
  have outstanding : (s.withHits r r.undone lru).delivering r.id = true := by
    obtain ⟨i, hi⟩ := List.exists_mem_of_ne_nil _ some_
    rw [delivering_iff]
    exact ⟨s.hitJob r i, by simpa [State.withHits, State.allJobs] using .inr (.inr ⟨i, hi, rfl⟩), by simp [State.hitJob, Job.isFor], rfl⟩
  obtain ⟨a, flags, ends⟩ := endRequest_of_outstanding (t := s.withHits r r.undone lru) rfl still.waits (by rw [id]; exact unowned)
    (by rw [withHits_only]; exact going) (by rw [id]; exact outstanding)
  have kept' (x : Request) : Still ((s.withHits r r.undone lru).holdsOnly x) := ⟨kept.powered, kept.waits, kept.finished, kept.spent⟩
  rw [prepare_of_consulted still.finished alone early (consults_of_alone alone waits chain (.inr ⟨read, bypass⟩)), taken, if_pos done, ← id,
    ends, post_of_nil _ (kept' _).finished, tidy_of_still (kept' _)]
  exact ⟨lru, a, flags, rfl⟩

end Read

/-! ### The PIN that is served -/

/-- A lone PIN all of whose sectors are VALID is DONE from CACHE (R54, R67, R111). -/
theorem prepare_of_served_pin {s : State} {r : Request} {g : Nat → Nat} (still : Still s) (alone : s.queue.held = [r])
    (early : s.expires r = false) (waits : r.state = .waiting) (chain : r.chain = none) (pin : r.kind = .pin)
    (quiet : s.delivering r.id = false) (room : s.port.fifo.length < 16)
    (valid : ∀ i ∈ r.undone, s.validFrame (sectorAt r.addr.cyl i) = some (g i)) :
    PinnedHits s r g r.undone (s.takeHits r)
      ∧ PostedAlone (s.takeHits r) (r.withHits r.undone) ((s.takeHits r).endRecord (r.withHits r.undone) .done none) s.prepare := by
  have taken := takeHits_pin alone pin valid
  have id : (r.withHits r.undone).id = r.id := withHits_id r _
  have held : (s.takeHits r).queue.held = [r.withHits r.undone] := by rw [taken.only]
  have kept := taken.still still
  have settled : (s.takeHits r).delivering r.id = false := by
    rw [taken.only]
    exact quiet
  have done : (s.takeHits r).allDone r.id = true := by
    rw [← id, allDone_of_alone held]
    have none_ := (withHits_undone r (p := fun _ => true)).mpr (by simp)
    simpa using none_
  have open_ : (r.withHits r.undone).state ≠ .finished := by
    rw [withHits_only]
    simp [waits]
  have ended := endRequest_endedAlone held kept.finished open_ (by rw [id]; exact settled) .done none
  have posted := ended.posted kept (by rw [id]; exact settled) (by rw [taken.only]; exact room)
  refine ⟨taken, ?_⟩
  rw [prepare_of_consulted still.finished alone early (consults_of_alone alone waits chain (.inl pin)), if_pos done, ← id,
    tidy_of_still posted.still]
  exact posted

end Sys2Proof.Machine
end

section
/-! PROOF. The completed gap (O49). -/

namespace Sys2Proof.Machine

/-! ### The record of a lone request that expires -/

/-- The record EXPIRED (R68, R83). -/
def State.expiredRecord (s : State) (r : Request) : Completion :=
  r.record s.clock .expired (s.failureWords r .expired).1 (s.failureWords r .expired).2.1

section Expired
variable {s : State} {r : Request} (still : Still s) (lone : Lone s r) (waits : r.state = .waiting) (expires : s.expires r = true)
include still lone waits expires

theorem expired_posted : PostedAlone s r (s.expiredRecord r) s.expire := by
  rw [expire_of_alone lone.held waits expires]
  exact (finished_endedAlone lone.held still.finished .expired).countLate.posted still lone.settled lone.place

/-- With the one request gone nothing is consulted nor taken up. -/
theorem prepare_of_expired : s.prepare = s.expire := by
  have posted := expired_posted still lone waits expires
  rw [State.prepare, consultAll_of_none posted.held, post_of_nil _ posted.still.finished, tidy_of_still posted.still]

/-- The LATE counter goes up, and with its threshold OFF no notice is raised (R85, R166). -/
theorem expire_counts (off : s.zones.thresholds.late = 0) :
    s.expire.faults = { s.faults with late := s.faults.late + 1 } ∧ s.expire.port.notices = s.port.notices := by
  have ended := finished_endedAlone lone.held still.finished (r := r) .expired
  have counted := ended.countLate
  have off' : (s.finished r .expired).zones.thresholds.late = 0 := by
    rw [ended.sheds.only]
    exact off
  obtain ⟨q, held, same⟩ := counted.held
  have words : (s.failureWords r .expired).2.2 = s := by simp [State.failureWords, ReqOutcome.isFailure, lone.drive]
  have faults : (s.finished r .expired).faults = s.faults := by simp [State.finished, words, State.dropJobs, State.dropWaits]
  have notices : (s.finished r .expired).port.notices = s.port.notices := by simp [State.finished, words, State.dropJobs, State.dropWaits]
  rw [expire_of_alone lone.held waits expires, post_of_alone held (same ▸ counted.finished) (by rw [counted.sheds.fifo]; exact lone.place),
    countLate_off off']
  exact ⟨by rw [faults], notices⟩

end Expired

/-- The STAGED frames of a lone request that ended are FREE, and every other request's stand (R53, R109). -/
theorem PostedAlone.owned {s v : State} {r : Request} {c : Completion} (h : PostedAlone s r c v) :
    (∀ f, (s.frame f).owner = some r.id → (s.frame f).state = .staged → v.frame f = Frame.free)
      ∧ ∀ f, (s.frame f).owner ≠ some r.id → v.frame f = s.frame f := by
  refine ⟨fun f owner staged => ?_, fun f other => ?_⟩
  · rcases h.frames f with same | ⟨-, free⟩
    · have cleared := h.cleared f
      simp [same, Frame.unreadOf, owner, staged] at cleared
    · exact free
  · rcases h.frames f with same | ⟨unread, -⟩
    · exact same
    · simp [Frame.unreadOf, other] at unread

theorem joins_queue (s : State) : s.settleAccess.joinRound.queue = s.queue := by rw [joins_only]

theorem joins_delivering (s : State) (id : Nat) : s.settleAccess.joinRound.delivering id = s.delivering id := by
  rw [joins_only]
  rfl

/-- The record of a PIN that ends DONE (R67 to R69). -/
theorem endRecord_of_pin {s : State} {q : Request} (pin : q.kind = .pin) (going : q.refusedAt = none) :
    let c := s.endRecord q .done none
    c.tag = q.tag ∧ c.kindCode = q.kind.code ∧ c.outcome = .done ∧ c.source = q.source.getD .disk ∧ c.sectors = q.done.length
      ∧ c.wordA = 0 ∧ c.wordB = 0 := by
  have outcome : q.endOutcome .done = .done := by simp [Request.endOutcome, Request.refusal, going]
  intro c
  have words (t : State) (x : Request) (same : x.kind = .pin) : t.failureWords x .done = (0, 0, t) := by
    simp [State.failureWords, ReqOutcome.isFailure, same]
  have record : c = (s.fixedRequest q .done none).record s.clock .done 0 0 := by
    simp only [c, State.endRecord, outcome]
    rw [words _ _ (show (s.fixedRequest q .done none).kind = .pin from pin)]
  rw [record]
  refine ⟨rfl, rfl, rfl, ?_, rfl, rfl, rfl⟩
  show (s.fixedRequest q .done none).recordSource = _
  rw [Request.recordSource, show (s.fixedRequest q .done none).kind = .pin from pin]
  rfl

end Sys2Proof.Machine

namespace Sys2Proof.Proofs
open Sys2Proof.Machine

/-- Settles O49: what expires and what the cache holds is settled before the round, and a station left with drive work joins it. -/
theorem gapCompletes : Obligations.GapCompletes := by
  unfold Obligations.GapCompletes
  refine ⟨?leaves, ?expires, ?joins, ?consults⟩
  case leaves =>
    intro s l power on ids line away
    refine ⟨_, exec_gapCompletes power on l, ?_⟩
    rw [gapCompletes_of_quiet (s := s.sample l) line away]
    refine ⟨joinRound_round _, ?_⟩
    rw [joins_queue]
    intro r hr drive drop explicit waits past
    rw [joins_delivering]
    exact prepare_leaves (s := s.sample l) ids.unlike r hr drive drop explicit waits past
  case expires =>
    intro s l r d still on line away lone waits drop explicit due past slack failAt off
    let z := s.sample l
    have zstill : Still z := still.of_records
    have zlone : Lone z r := ⟨lone.held, lone.drive, lone.chain, lone.settled, lone.place⟩
    have late : clockBefore z.clock d = false := decide_eq_false (Int.not_lt.mpr past)
    have quiet : z.delivering r.id = false := lone.settled
    have expires : z.expires r = true := by simp [State.expires, lone.drive, drop, explicit, waits, quiet, due, late]
    have posted := expired_posted zstill zlone waits expires
    obtain ⟨faults, notices⟩ := expire_counts zstill zlone waits expires off
    obtain ⟨staged, others⟩ := posted.owned
    have words : z.failureWords r .expired = ((r.failAt.getD r.firstUndone).word, r.failSlack z.clock, z) := by
      simp [State.failureWords, ReqOutcome.isFailure, lone.drive]
    refine ⟨_, z.expiredRecord r, exec_gapCompletes still.powered on l, ?_⟩
    rw [gapCompletes_of_quiet (s := z) line away, joins_only, prepare_of_expired zstill zlone waits expires]
    refine ⟨posted.held, posted.fifo, notices, rfl, rfl, rfl, ?_, rfl, ?_, ?_, faults, staged, others, posted.store⟩
    · simp [State.expiredRecord, Request.record, Request.isLate]
    · rw [State.expiredRecord, words, failAt]
      rfl
    · rw [State.expiredRecord, words]
      simp only [Request.record, Request.failSlack, slack, due]
      rfl
  case joins =>
    intro s l still on line none_
    let z := s.sample l
    have run (away : z.access.state = .idle ∨ z.access.state = .waiting ∨ z.access.state = .backoff) :
        exec (.gapCompletes l) s = .next z.settleAccess.joinRound := by
      rw [exec_gapCompletes still.powered on l, gapCompletes_of_quiet (s := z) line away, prepare_of_misses (s := z) still.of_records none_]
    have away (resting : z.access.state = .idle ∨ z.access.state = .waiting) :
        z.access.state = .idle ∨ z.access.state = .waiting ∨ z.access.state = .backoff := resting.imp_right .inl
    refine ⟨fun resting work => ?_, fun resting idle => ?_, fun backoff => ?_⟩
    · rw [run (away resting), joins_of_work (s := z) resting work]
      rfl
    · rw [run (away resting), joins_of_no_work (s := z) resting idle]
      rfl
    · rw [run (.inr (.inr backoff)), joins_of_backoff (s := z) backoff]
      rfl
  case consults =>
    intro s l r still on line away alone early waits chain some_ unowned
    let z := s.sample l
    have zstill : Still z := still.of_records
    refine ⟨fun read bypass going => ?read, fun g pin going fresh source quiet room valid => ?pin⟩
    case read =>
      intro hits
      have unlike : hits.Nodup := List.Nodup.filter _ (undone_nodup r)
      have left : ∀ i ∈ hits, i ∉ r.done := fun i hi => undone_not_done (List.mem_of_mem_filter hi)
      by_cases all : hits = r.undone
      · obtain ⟨lru, a, flags, ready⟩ := prepare_of_whole_read (s := z) zstill alone early waits chain read bypass going some_ unowned all
        refine ⟨_, { (r.withHits hits).fixed .done a flags with state := .delivering }, exec_gapCompletes still.powered on l, ?_⟩
        rw [gapCompletes_of_quiet (s := z) line away, joins_only, ready, ← all]
        exact ⟨rfl, withHits_id r hits, withHits_done r unlike left, withHits_reserved r hits, withHits_source r unlike left, rfl, rfl, rfl,
          rfl, rfl, fun _ => ⟨rfl, rfl⟩, fun not_ => absurd rfl not_⟩
      · obtain ⟨lru, ready⟩ := prepare_of_partial_read (s := z) zstill alone early waits chain read bypass going all
        refine ⟨_, r.withHits hits, exec_gapCompletes still.powered on l, ?_⟩
        rw [gapCompletes_of_quiet (s := z) line away, joins_only, ready]
        exact ⟨rfl, withHits_id r hits, withHits_done r unlike left, withHits_reserved r hits, withHits_source r unlike left, rfl, rfl, rfl,
          rfl, rfl, fun same => absurd same all, fun _ => by rw [withHits_only]; exact waits⟩
    case pin =>
      obtain ⟨taken, posted⟩ := prepare_of_served_pin (s := z) zstill alone early waits chain pin quiet room valid
      have left : ∀ i ∈ r.undone, i ∉ r.done := fun i hi => undone_not_done hi
      have whole : r.undone.length = r.count := by simp [Request.undone, Request.indices, fresh]
      obtain ⟨tag, kind, outcome, from_, sectors, wordA, wordB⟩ := endRecord_of_pin (s := z.takeHits r) (q := r.withHits r.undone)
        (by rw [withHits_only]; exact pin) (by rw [withHits_only]; exact going)
      have kept (f : Nat) : z.prepare.frame f = (z.takeHits r).frame f := by
        refine posted.owned.2 f ?_
        obtain ⟨p, e⟩ := taken.frame_eq f
        rw [e, withHits_id]
        exact frame_unowned (s := z) unowned f
      refine ⟨_, (z.takeHits r).endRecord (r.withHits r.undone) .done none, exec_gapCompletes still.powered on l, ?_⟩
      rw [gapCompletes_of_quiet (s := z) line away, joins_only]
      generalize z.prepare = v at posted kept ⊢
      refine ⟨posted.held, posted.fifo.trans (by rw [taken.port]; rfl), tag.trans (by rw [withHits_only]), kind.trans (by rw [withHits_only]),
        outcome, ?_, ?_, wordA, wordB, fun i hi => ?_, fun f none_ => ?_, posted.store.trans taken.store⟩
      · rw [from_, withHits_source r (undone_nodup r) left, if_neg some_, source]
        rfl
      · rw [sectors, withHits_done r (undone_nodup r) left, fresh, List.nil_append, whole]
      · refine (kept (g i)).trans ((taken.frames (g i)).trans (if_pos ?_))
        exact List.mem_map_of_mem hi
      · refine (kept f).trans ((taken.frames f).trans (if_neg ?_))
        simpa using none_

end Sys2Proof.Proofs
end

section
/-! PROOF. Three statements that fail (O42, O51, O60). Each leaves out a fact about the work and the jobs that the station keeps, though no
premise says it, and each is refuted by a state that meets its premises: a frame that retires there (R116) loses what kept it, a job or
the sequencer's work, by the command, and becomes FREE where the statement has it stand. -/

namespace Sys2Proof.Machine

/-- What a command makes of a state, one that refuses it being left as it is. -/
def stateAfter (i : Instr) (s : State) : State :=
  match exec i s with
  | .next t => t
  | _ => s

theorem stateAfter_of_next {i : Instr} {s t : State} (h : exec i s = .next t) : stateAfter i s = t := by
  rw [stateAfter, h]

/-- A configured station in IDLE with a cartridge MOUNTED and no peer; frame 0 retires (R116), every other frame is FREE. -/
def retiringStation : State :=
  { State.reset with
    zones := { Zones.powerOn with configured := true }
    lines := { StationLines.none with pres := true }
    access := { Access.powerOn with state := .idle }
    cache := { State.reset.cache with frames := { Frame.free with state := .stale } :: List.replicate 63 Frame.free }
    cart := { Cartridge.powerOn with state := .mounted, lastSerial := some 7 } }

/-- A request of one sector, held under id 0. -/
def oneSector (k : Kind) (st : ReqState) : Request :=
  loneRequest State.reset k
    { tag := 5, opCode := 0, cyl := 3, head := 0, sector := 2, count := 1, offset := 0, mem := 1000, bypass := false, dropIfLate := false,
      continues := false, condCode := 0, deadline := 0, opA := 0, opB := 0 } st 0

/-- A job of request 0. -/
def jobOfFirst (k : JobKind) : Job := { req := 0, orphan := false, kind := k, base := 1000 }

/-- The drive's levels at the command, sector 0 under the heads. -/
def atSectorZero : Lines := { snum := 0, wpt := false, skc := true, skf := false, call := false, crel := false }

/-- A CONFIGURE whose record is being read while a delivery job that names the same request reads the retiring frame. -/
def configuredOverDelivery : State :=
  { retiringStation with
    queue := { held := [oneSector .configure .running], finished := [], nextId := 1 }
    port := { retiringStation.port with running := some (jobOfFirst .configure), jobs := [jobOfFirst (.delivery 0 2)] } }

/-- A record whose first zone has the mode code that names no mode. -/
def badRecord : List Word := 3 :: List.replicate 19 0

theorem configuredOverDelivery_still : Still configuredOverDelivery := ⟨rfl, rfl, rfl, by decide⟩

theorem configuredOverDelivery_line : LineInv configuredOverDelivery := by
  constructor <;> decide

/-- The end of the request takes its jobs away, the delivery job among them, and nothing holds the frame. -/
theorem configuredOverDelivery_freed :
    ((stateAfter (.dmaJobEnds badRecord) configuredOverDelivery).frame 0).state = .free := by decide +kernel

/-- A station before its identity check, a WRITE in WAITING, whose idle sequencer still names a refresh of the retiring frame. -/
def checkingOverRefresh : State :=
  { retiringStation with
    access := { retiringStation.access with state := .checking, round := some .check }
    lines := { retiringStation.lines with hold := true }
    queue := { held := [oneSector .write .waiting], finished := [], nextId := 1 }
    seq := { Sequencer.idle with work := some (.refresh 0) } }

theorem checkingOverRefresh_still : Still checkingOverRefresh := ⟨rfl, rfl, rfl, by decide⟩

/-- The work of the tenure takes the place of the refresh, and nothing keeps the frame. -/
theorem checkingOverRefresh_freed :
    ((stateAfter (.identityCheckEnds false false false atSectorZero) checkingOverRefresh).frame 0).state = .free := by decide +kernel

/-- A sequencer stopping for a port reset that sends frame 1 while its work is a refresh of the retiring frame. -/
def writingUnderRefresh : State :=
  { retiringStation with
    access := { retiringStation.access with state := .holding }
    lines := { retiringStation.lines with hold := true }
    drive := { DriveLines.off with enabled := true }
    seq := { Sequencer.idle with
      state := .writing, work := some (.refresh 0), visit := some 2, stopping := true
      sending := some { frame := 1, addr := { cyl := 3, head := 0, sec := 2 }, patch := none } } }

theorem writingUnderRefresh_still : Still writingUnderRefresh := ⟨rfl, rfl, rfl, by decide⟩

/-- The sequencer stops at the end of the field, and nothing keeps the frame. -/
theorem writingUnderRefresh_freed :
    ((stateAfter (.dataFieldWritten atSectorZero) writingUnderRefresh).frame 0).state = .free := by decide +kernel

end Sys2Proof.Machine

namespace Sys2Proof.Proofs
open Sys2Proof.Machine

/-- Refutes O42: with a delivery job queued under the id of the CONFIGURE, which no premise shuts out, a record refused BAD-CONFIG changes
the cache: the job leaves with the request, and the frame that retires for it becomes FREE. -/
theorem not_configurationJudged : ¬Obligations.ConfigurationJudged := by
  unfold Obligations.ConfigurationJudged
  intro holds
  obtain ⟨refused, -⟩ := holds configuredOverDelivery (jobOfFirst .configure) (oneSector .configure .running) badRecord
    configuredOverDelivery_still configuredOverDelivery_line rfl rfl rfl rfl rfl rfl rfl rfl (by decide) (by decide) rfl
  obtain ⟨t, c, ran, -, -, -, -, -, -, -, cache, -⟩ := refused (.inl ⟨0, by decide, by decide⟩)
  have freed := configuredOverDelivery_freed
  rw [stateAfter_of_next ran, State.frame, cache] at freed
  exact absurd freed (by decide)

/-- Refutes O51: a sequencer in IDLE whose record still names a refresh, which no premise shuts out, keeps a retiring frame of it; the
start of a WRITE, which takes no frame, frees it. -/
theorem not_ownIdentityCheck : ¬Obligations.OwnIdentityCheck := by
  unfold Obligations.OwnIdentityCheck
  rintro ⟨-, tenure⟩
  obtain ⟨t, ran, -, -, -, -, -, -, -, lone⟩ := tenure checkingOverRefresh false false false atSectorZero checkingOverRefresh_still rfl rfl rfl
    (.inl rfl)
  obtain ⟨-, started⟩ := lone (oneSector .write .waiting) rfl rfl rfl rfl rfl rfl (by decide) rfl (by decide) (by decide)
  obtain ⟨-, -, -, -, ⟨fs, taken, -, -, others, -⟩, -⟩ := started (.inl rfl) (by decide)
  have kept : t.frame 0 = checkingOverRefresh.frame 0 := others 0 (by
    rw [List.eq_nil_of_length_eq_zero taken]
    exact List.not_mem_nil)
  have freed := checkingOverRefresh_freed
  rw [stateAfter_of_next ran, kept] at freed
  exact absurd freed (by decide)

/-- Refutes O60: when a field written during a refresh ends, which no premise shuts out, the stop frees the retiring frame of the refresh,
though another frame was sent. -/
theorem not_portReset : ¬Obligations.PortReset := by
  unfold Obligations.PortReset
  rintro ⟨-, stops⟩
  obtain ⟨-, -, -, -, written, -⟩ := stops writingUnderRefresh atSectorZero (.dataFieldWritten atSectorZero) writingUnderRefresh_still rfl
  obtain ⟨t, ran, -, -, -, -, others, -⟩ := written { frame := 1, addr := { cyl := 3, head := 0, sec := 2 }, patch := none } rfl rfl
    (by decide) rfl rfl (by decide) rfl (by decide) rfl
  have freed := writingUnderRefresh_freed
  rw [stateAfter_of_next ran, others 0 (by decide)] at freed
  exact absurd freed (by decide)

end Sys2Proof.Proofs
end

section
/-! PROOF. The held requests' ids (R52, R55): the operations of the cache and of the held requests keep them their own and below the next
one. -/

namespace Sys2Proof.Machine

/-! ### Operations that add no request -/

/-- The held requests stand under ids they had, or fewer of them do. -/
theorem IdInv.of_sublist {s t : State} (h : IdInv s) (ids : (t.queue.held.map (·.id)).Sublist (s.queue.held.map (·.id)))
    (next : t.queue.nextId = s.queue.nextId) : IdInv t := by
  refine ⟨h.unlike.sublist ids, fun r hr => ?_⟩
  obtain ⟨q, hq, e⟩ := List.mem_map.mp (ids.subset (List.mem_map_of_mem hr))
  rw [next, ← e]
  exact h.below q hq

theorem IdInv.of_queue {s t : State} (h : IdInv s) (same : t.queue = s.queue) : IdInv t :=
  h.of_sublist (by rw [same]) (by rw [same])

theorem IdInv.foldl {α : Type} {g : State → α → State} (keeps : ∀ t x, IdInv t → IdInv (g t x)) (l : List α) {s : State}
    (h : IdInv s) : IdInv (l.foldl g s) := by
  induction l generalizing s with
  | nil => exact h
  | cons x xs ih => exact ih (keeps s x h)

theorem IdInv.modify {s : State} (h : IdInv s) (id : Nat) {g : Request → Request} (same : ∀ q, (g q).id = q.id) :
    IdInv (s.modify id g) :=
  h.of_sublist (by rw [modify_ids s id g same]) rfl

theorem IdInv.markDone {s : State} (h : IdInv s) (id i : Nat) (x : Source) : IdInv (s.modify id (·.markDone i x)) :=
  h.modify id (fun q => markDone_id q i x)

/-! ### The end of a request -/

theorem IdInv.finish {s : State} (h : IdInv s) (id : Nat) (o : ReqOutcome) : IdInv (s.finish id o) := by
  have next (r : Request) : (s.finished r o).queue.nextId = s.queue.nextId := by simp [State.finished, State.modify]
  refine h.of_sublist (onward_finish s id o).ids ?_
  rcases finish_cases s id o with e | ⟨r, -, e | e⟩ <;> simp [e, next]

theorem IdInv.finishAll {s : State} (h : IdInv s) (l : List (Nat × ReqOutcome)) : IdInv (s.finishAll l) :=
  h.foldl (fun _ p ht => ht.finish p.1 p.2) l

theorem IdInv.endRequest {s : State} (h : IdInv s) (id : Nat) (o : ReqOutcome) (a : Option SectorAddr) : IdInv (s.endRequest id o a) := by
  cases hr : s.request id with
  | none => simpa only [State.endRequest, hr] using h
  | some r =>
    have fixed : IdInv (s.fixOutcome r o a) := h.modify r.id (by exact fun _ => rfl)
    rw [endRequest_eq hr]
    split
    · exact (fixed.of_queue (t := ((s.fixOutcome r o a).dropWaits id).releaseOwned id) (by simp)).modify id (by exact fun _ => rfl)
    · exact fixed.finish id _

theorem IdInv.deliveryEnded {s : State} (h : IdInv s) (id : Nat) : IdInv (s.deliveryEnded id) := by
  unfold State.deliveryEnded
  repeat' split
  · exact h
  · exact h.finish id _
  · exact h

theorem IdInv.stagingEnded {s : State} (h : IdInv s) (id : Nat) : IdInv (s.stagingEnded id) := by
  unfold State.stagingEnded
  repeat' split
  · exact h
  · exact h.foldl (fun _ i ht => ht.modify i (by exact fun _ => rfl)) _
  · exact h

/-! ### The consultation of the cache, the posting -/

theorem IdInv.hit {s : State} (h : IdInv s) (r : Request) (i f : Nat) : IdInv (s.hit r i f) := by
  have taken : IdInv (s.modify r.id (fun q => (q.markDone i .cache).useReserved)) := h.modify r.id (fun q => markDone_id q i .cache)
  unfold State.hit
  dsimp only
  split
  · exact taken.of_queue (by simp)
  · exact taken.of_queue (by simp)

theorem IdInv.takeHits {s : State} (h : IdInv s) (r : Request) : IdInv (s.takeHits r) :=
  h.foldl (fun t i ht => by split; exacts [ht.hit r i _, ht]) _

theorem IdInv.consult {s : State} (h : IdInv s) (id : Nat) : IdInv (s.consult id) := by
  unfold State.consult
  dsimp only
  repeat' split
  · exact h
  · exact (h.takeHits _).endRequest id _ _
  · exact h.takeHits _
  · exact h

theorem IdInv.consultAll {s : State} (h : IdInv s) : IdInv s.consultAll := h.foldl (fun _ id ht => ht.consult id) _

theorem IdInv.postRecord {s : State} (h : IdInv s) (id : Nat) (c : Completion) : IdInv (s.postRecord id c) :=
  IdInv.foldl (fun _ i ht => ht.consult i) _ (h.of_sublist (List.filter_sublist.map _) rfl)

theorem IdInv.postUpTo {s : State} (h : IdInv s) (n : Nat) : IdInv (s.postUpTo n) := by
  induction n generalizing s with
  | zero => exact h
  | succ n ih =>
    unfold State.postUpTo
    repeat' split
    · exact h
    · exact ih (h.postRecord _ _)
    · exact h

theorem IdInv.post {s : State} (h : IdInv s) : IdInv s.post := h.postUpTo _

theorem IdInv.expire {s : State} (h : IdInv s) : IdInv s.expire := (h.finishAll _).post

/-! ### Allocations served -/

theorem IdInv.giveFrame {s : State} (h : IdInv s) (w : AllocWait) (f : Nat) : IdInv (s.giveFrame w f) := by
  have used {t : State} (same : t.queue = s.queue) (r : Request) : IdInv (t.modify r.id Request.useReserved) :=
    (h.of_queue same).modify r.id (by exact fun _ => rfl)
  unfold State.giveFrame
  repeat' split
  · exact h.of_queue (by simp)
  · exact h
  · exact (used rfl _).of_queue (by rfl)
  · exact used (t := s.setFrame f _) rfl _

theorem allocate_queue {s t : State} {f : Nat} (h : s.allocate = some (f, t)) : t.queue = s.queue := by
  unfold State.allocate at h
  split at h
  · cases h
    rfl
  · obtain ⟨g, -, e⟩ := Option.map_eq_some_iff.mp h
    cases e
    simp

theorem IdInv.serveList {s : State} (h : IdInv s) (l : List AllocWait) : IdInv (s.serveList l) := by
  induction l generalizing s with
  | nil => exact h.of_queue (by rfl)
  | cons w ws ih =>
    unfold State.serveList
    split
    · exact h.of_queue (by rfl)
    · next f t e => exact ih ((h.of_queue (allocate_queue e)).giveFrame w f)

theorem IdInv.allocOrWait {s : State} (h : IdInv s) (w : AllocWait) : IdInv (s.allocOrWait w) := h.serveList _

theorem IdInv.sweep {s : State} (h : IdInv s) : IdInv s.sweep := h.of_queue (by simp)

theorem IdInv.tidy {s : State} (h : IdInv s) : IdInv s.tidy := h.sweep.serveList _

theorem IdInv.prepare {s : State} (h : IdInv s) : IdInv s.prepare := h.expire.consultAll.post.tidy

theorem IdInv.settle {s : State} (h : IdInv s) : IdInv s.settle := h.tidy.post.of_queue (settleAccess_sameRecords _).queue

/-! ### Cartridge control -/

theorem IdInv.drainOne {s : State} (h : IdInv s) (o : ReqOutcome) (id : Nat) : IdInv (s.drainOne o id) := by
  have cleared : IdInv (((s.dropStaging id).dropWaits id).releaseOwned id) := h.of_queue (by simp)
  unfold State.drainOne
  repeat' split
  · exact h
  · exact (cleared.modify id (by exact fun _ => rfl)).endRequest id o none
  · exact h
  · exact (cleared.modify id (by exact fun _ => rfl)).endRequest id o none
  · exact h
  · exact cleared.modify id (by exact fun _ => rfl)
  all_goals exact h

theorem IdInv.orderFinished {s : State} (h : IdInv s) (n : Nat) : IdInv (s.orderFinished n) := h.of_sublist (.refl _) rfl

theorem IdInv.drain {s : State} (h : IdInv s) (o : ReqOutcome) : IdInv (s.drain o) :=
  (h.consultAll.foldl (fun _ id ht => ht.drainOne o id) _).orderFinished _

theorem IdInv.labelRejected {s : State} (h : IdInv s) : IdInv s.labelRejected := by
  unfold State.labelRejected
  split
  · exact (h.of_queue (by simp)).drain .noCartridge
  all_goals exact h.of_queue (by rfl)

theorem labelAccepted_queue (s : State) (serial : BitVec 32) : (s.labelAccepted serial).queue = s.queue := by
  unfold State.labelAccepted
  split <;> simp

theorem IdInv.labelVerdict {s : State} (h : IdInv s) (ws : Option (List Word)) : IdInv (s.labelVerdict ws) := by
  unfold State.labelVerdict
  split
  · exact h.of_queue (labelAccepted_queue s _)
  · exact h.labelRejected

end Sys2Proof.Machine
end

section
/-! PROOF. The held requests' ids: the sequencer's work, its headers, visits and fields. -/

namespace Sys2Proof.Machine

/-! ### Work started, and its end -/

theorem IdInv.position {s : State} (h : IdInv s) : IdInv s.position := h.of_queue (position_sameRecords s).queue

theorem IdInv.startMember {s : State} (h : IdInv s) (r : Request) : IdInv (s.startMember r) :=
  (IdInv.foldl (fun _ _ ht => ht.allocOrWait _) (Request.fillIdx r) (h.of_queue (by rfl))).position

theorem IdInv.startWork {s : State} (h : IdInv s) (c : Candidate) : IdInv (s.startWork c) := by
  unfold State.startWork
  repeat' split
  · exact h
  · next r _ =>
    have running := h.foldl (g := fun u i => u.modify i (fun q => { q with state := .running, slack := c.slack }))
      (fun _ i ht => ht.modify i (by exact fun _ => rfl)) (s.groupIds r)
    exact IdInv.startMember (running.of_queue (by rfl)) _
  · exact IdInv.position (h.of_queue (by rfl))
  · exact ((h.of_queue (by rfl)).allocOrWait _).position

theorem IdInv.selectionPoint {s : State} (h : IdInv s) : IdInv s.selectionPoint := by
  unfold State.selectionPoint
  dsimp only
  repeat' split
  · exact h.prepare.of_queue (by simp)
  · exact h.prepare.of_queue (by simp)
  · exact h.prepare.startWork _

theorem IdInv.runChain {s : State} (h : IdInv s) (ids : List Nat) : IdInv (s.runChain ids).1 := by
  induction ids generalizing s with
  | nil => exact h
  | cons id ids ih =>
    unfold State.runChain
    repeat' split
    · exact ih h
    · exact h.startMember _
    · exact ih (h.endRequest id _ _)

theorem IdInv.requestDecided {s : State} (h : IdInv s) (r : Request) (o : ReqOutcome) (a : Option SectorAddr) :
    IdInv (s.requestDecided r o a) := IdInv.endRequest (h.of_queue (by rfl)) r.id o a

theorem IdInv.requestFails {s : State} (h : IdInv s) (r : Request) (o : ReqOutcome) (a : SectorAddr) : IdInv (s.requestFails r o a) :=
  (h.requestDecided r o _).finishAll _

theorem IdInv.workSucceeds {s : State} (h : IdInv s) (r : Request) : IdInv (s.workSucceeds r) := by
  have ran := ((h.requestDecided r (if s.seq.retried then .doneRetried else .done) none).runChain (s.laterMembers r)).post
  unfold State.workSucceeds State.requestSucceeds
  dsimp only
  split
  · next e =>
    obtain ⟨rfl, -⟩ := Prod.mk.inj e
    exact ran.tidy
  · next e =>
    obtain ⟨rfl, -⟩ := Prod.mk.inj e
    exact ran.tidy.selectionPoint

theorem IdInv.continueRequest {s : State} (h : IdInv s) (id : Nat) : IdInv (s.continueRequest id) := by
  unfold State.continueRequest
  repeat' split
  · exact h.of_queue (by simp)
  · exact h.workSucceeds _
  · exact (h.of_queue (by rfl)).tidy

theorem settleFailedWrite_queue (s : State) (o : ReqOutcome) : (s.settleFailedWrite o).queue = s.queue :=
  foldl_keeps (·.queue) _ (fun t i => by simp) _ s

theorem freeLabelFrame_queue (s : State) : s.freeLabelFrame.queue = s.queue := by
  unfold State.freeLabelFrame
  dsimp only
  split <;> simp

theorem IdInv.labelFailed {s : State} (h : IdInv s) : IdInv ((s.seqIdle.freeLabelFrame.labelVerdict none).post.tidy).selectionPoint :=
  ((h.of_queue (t := s.seqIdle.freeLabelFrame) (freeLabelFrame_queue _)).labelVerdict none).post.tidy.selectionPoint

theorem IdInv.workFails_unlisted {s : State} (h : IdInv s) (o : ReqOutcome) (a : SectorAddr) : IdInv (s.workFails o none a) := by
  unfold State.workFails
  dsimp only
  repeat' split
  · exact h.of_queue (by simp)
  · exact h.of_queue (by simp)
  · exact ((h.of_queue (settleFailedWrite_queue s o)).requestFails _ o a).post.tidy.selectionPoint
  · exact (h.of_queue (t := s.seqIdle.leaveRefresh _) (by simp)).tidy.selectionPoint
  · exact h.labelFailed

theorem IdInv.workFails {s : State} (h : IdInv s) (o : ReqOutcome) (fault : Option (FaultAddr × FaultKind)) (a : SectorAddr) :
    IdInv (s.workFails o fault a) := by
  cases fault with
  | none => exact h.workFails_unlisted o a
  | some p => exact (h.of_queue (t := s.listFault p.1 p.2 .own) (by simp)).workFails_unlisted o a

theorem IdInv.stopEnds {s : State} (h : IdInv s) : IdInv s.stopEnds := by
  have idled {t : State} (same : t.queue = s.queue) : IdInv t.seqIdle.tidy.releaseLine :=
    (h.of_queue (t := t.seqIdle) (by simpa using same)).tidy.of_queue (by simp)
  unfold State.stopEnds
  refine idled ?_
  repeat' split
  · exact freeLabelFrame_queue s
  all_goals simp

theorem IdInv.stopOr {s : State} (h : IdInv s) {f : State → State} (goes : IdInv (f s)) : IdInv (s.stopOr f) := by
  unfold State.stopOr
  split
  · exact h.stopEnds
  · exact goes

/-! ### Positioning, headers, visits -/

theorem recalibrate_queue (s : State) : s.recalibrate.queue = s.queue := by simp [State.recalibrate, State.retryCounted]

theorem beginSeek_queue (s : State) : s.beginSeek.queue = s.queue := by
  unfold State.beginSeek
  dsimp only
  split <;> rfl

theorem IdInv.positioningFails {s : State} (h : IdInv s) : IdInv s.positioningFails := h.workFails _ _ _

theorem IdInv.seekFails {s : State} (h : IdInv s) : IdInv s.seekFails := by
  unfold State.seekFails
  split
  · exact h.positioningFails
  · exact h.of_queue (recalibrate_queue _)

theorem IdInv.endVoidRefresh {s : State} (h : IdInv s) : IdInv s.endVoidRefresh :=
  (h.of_queue (t := s.seqIdle) (by simp)).tidy.selectionPoint

theorem IdInv.headerMiss {s : State} (h : IdInv s) (idx : Nat) : IdInv (s.headerMiss idx) := by
  unfold State.headerMiss
  dsimp only
  repeat' split
  · exact (h.of_queue (by rfl)).workFails _ _ _
  · exact h.of_queue (recalibrate_queue _)
  · exact h.of_queue (by rfl)

theorem IdInv.misPosition {s : State} (h : IdInv s) (idx c : Nat) : IdInv (s.misPosition idx c) := by
  unfold State.misPosition
  dsimp only
  split
  · exact (h.of_queue (by rfl)).headerMiss idx
  · exact h.of_queue (recalibrate_queue _)

theorem IdInv.headerMatched {s : State} (h : IdInv s) (idx : Nat) : IdInv (s.headerMatched idx) := by
  unfold State.headerMatched State.openWrite
  dsimp only
  repeat' split
  · exact h.workFails _ _ _
  all_goals exact h.of_queue (by rfl)

theorem IdInv.takeHeader {s : State} (h : IdInv s) (idx : Nat) (hd : HeaderField) : IdInv (s.takeHeader idx hd) := by
  unfold State.takeHeader
  dsimp only
  repeat' split
  · exact h.headerMatched idx
  · exact h.endVoidRefresh
  · exact h.workFails _ _ _
  · exact h.misPosition idx _
  all_goals exact h.headerMiss idx

theorem slot_queue (s : State) : s.slot.queue = s.queue := by
  have visit (idx f : Nat) (rest : List Nat) : (s.beginVisit idx f rest).queue = s.queue := by
    unfold State.beginVisit State.followCheck State.retryCounted
    dsimp only
    repeat' split
    all_goals simp
  unfold State.slot State.slotArrives
  repeat' split
  · rfl
  · exact visit _ _ _
  all_goals rfl

/-! ### Data fields -/

theorem IdInv.operate {s : State} (h : IdInv s) (r : Request) (idx : Nat) (old : Word) : IdInv (s.operate r idx old) := by
  have operated (x : UpdateUnit) (old new : Word) :
      IdInv (State.modify { s with unit := x } r.id (fun q => { q with oldWord := old, newWord := new })) :=
    IdInv.modify (h.of_queue (by rfl)) r.id (by exact fun _ => rfl)
  unfold State.operate
  dsimp only
  split
  · exact ((operated _ _ _).of_queue (by rfl)).continueRequest _
  · exact ((operated _ _ _).of_queue (by rfl)).tidy

theorem IdInv.requestReadGood {s : State} (h : IdInv s) (r : Request) (idx f : Nat) (ws : List Word) :
    IdInv (s.requestReadGood r idx f ws) := by
  have done := h.markDone r.id idx .disk
  unfold State.requestReadGood
  dsimp only
  split
  · exact (done.of_queue (by rfl)).continueRequest _
  · exact (done.of_queue (State.settleRead_queue ..)).operate r idx _
  · exact (done.of_queue (t := State.recDone _ idx) (by simp [State.recDone])).continueRequest _
  · exact (done.of_queue (t := State.recDone _ idx) (by simp [State.recDone])).continueRequest _

theorem IdInv.readGood {s : State} (h : IdInv s) (idx : Nat) (ws : List Word) : IdInv (s.readGood idx ws) := by
  unfold State.readGood
  repeat' split
  · exact h.of_queue (by simp)
  · have freed : IdInv (s.putRead ws).seqIdle.freeLabelFrame := h.of_queue (by simp [freeLabelFrame_queue])
    exact (freed.labelVerdict _).post.tidy.selectionPoint
  · exact (h.of_queue (t := s.seqIdle.takeWords _ ws) (by simp)).tidy.selectionPoint
  · exact h.of_queue (by simp)
  · exact h.requestReadGood _ idx _ ws

theorem IdInv.readBad {s : State} (h : IdInv s) (idx : Nat) : IdInv (s.readBad idx) := by
  unfold State.readBad
  dsimp only
  split
  · exact (h.of_queue (by rfl)).workFails _ _ _
  · exact h.of_queue (by rfl)

theorem patchFrame_queue (s : State) (x : Sending) : (s.patchFrame x).queue = s.queue := by
  unfold State.patchFrame
  repeat' split
  all_goals rfl

theorem IdInv.requestWritten {s : State} (h : IdInv s) (r : Request) (idx : Nat) (x : Sending) : IdInv (s.requestWritten r idx x) := by
  unfold State.requestWritten
  split
  · exact h.of_queue (by rfl)
  · have written : IdInv ((s.patchFrame x).modify r.id (fun q => { q with written := true })) :=
      IdInv.modify (h.of_queue (patchFrame_queue s x)) r.id (by exact fun _ => rfl)
    exact (written.of_queue (by rfl)).continueRequest _
  · have settled : IdInv (s.settleWritten x.frame x.addr) := h.of_queue (by simp)
    exact ((settled.markDone r.id idx .disk).of_queue (by rfl)).continueRequest _

theorem IdInv.verifiedGood {s : State} (h : IdInv s) (r : Request) (idx : Nat) : IdInv (s.verifiedGood r idx) :=
  (((h.of_queue (t := s.settleWritten _ _) (by simp)).markDone r.id idx .disk).of_queue (by rfl)).continueRequest _

theorem IdInv.verifiedBad {s : State} (h : IdInv s) (idx : Nat) : IdInv (s.verifiedBad idx) := by
  unfold State.verifiedBad
  split
  · exact h.of_queue (by simp [State.search, State.retryCounted])
  · exact h.workFails _ _ _

/-! ### The sequencer's events -/

theorem IdInv.motionOver {s : State} (h : IdInv s) : IdInv s.motionOver := by
  unfold State.motionOver
  split
  · exact h.stopOr (h.of_queue (by rfl))
  · exact h

theorem IdInv.motionWaitOver {s : State} (h : IdInv s) : IdInv s.motionWaitOver := by
  unfold State.motionWaitOver
  split
  · exact h.stopOr h.seekFails
  · exact h

theorem IdInv.seekBroken {s : State} (h : IdInv s) : IdInv s.seekBroken :=
  (h.of_queue (t := s.armUnknown) (by simp)).stopOr (h.of_queue (t := s.armUnknown) (by simp)).seekFails

theorem IdInv.recalibrateBroken {s : State} (h : IdInv s) : IdInv s.recalibrateBroken :=
  (h.of_queue (t := s.armUnknown) (by simp)).stopOr (h.of_queue (t := s.armUnknown) (by simp)).positioningFails

theorem IdInv.withPins {s : State} (h : IdInv s) (p : Pins) : IdInv { s with pins := p } := h.of_queue (by rfl)

theorem IdInv.seekEnd {s : State} (h : IdInv s) (e : MotionEnd) : IdInv (s.seekEnd e) := by
  unfold State.seekEnd
  dsimp only
  repeat' split
  · exact (h.withPins _).stopOr (h.of_queue (by rfl))
  · exact (h.withPins _).seekBroken
  · exact h

theorem IdInv.recalibrateEnd {s : State} (h : IdInv s) (e : MotionEnd) : IdInv (s.recalibrateEnd e) := by
  unfold State.recalibrateEnd
  dsimp only
  repeat' split
  · exact (h.withPins _).stopOr (h.of_queue (beginSeek_queue _))
  · exact (h.withPins _).recalibrateBroken
  · exact h

theorem IdInv.header {s : State} (h : IdInv s) (hd : HeaderField) : IdInv (s.header hd) := by
  unfold State.header
  split
  · exact h.takeHeader _ hd
  · exact h

theorem IdInv.fieldRead {s : State} (h : IdInv s) (d : DataField) : IdInv (s.fieldRead d) := by
  unfold State.fieldRead
  split
  · refine h.stopOr ?_
    repeat' split
    · exact h.endVoidRefresh
    · exact h.readGood _ _
    · exact h.readBad _
  · exact h

theorem IdInv.fieldWritten {s : State} (h : IdInv s) : IdInv s.fieldWritten := by
  have sent (x : Sending) : IdInv (s.sent x) := h.of_queue (by rfl)
  have settled (x : Sending) : IdInv ((s.sent x).stopWritten x) := by
    refine (sent x).of_queue ?_
    unfold State.stopWritten
    split
    · simp
    · exact patchFrame_queue _ x
  unfold State.fieldWritten
  dsimp only
  repeat' split
  · exact (settled _).stopEnds
  · exact (sent _).requestWritten _ _ _
  · exact (sent ‹Sending›).of_queue (by rfl)
  · exact (sent ‹Sending›).of_queue (by rfl)
  · exact h

theorem IdInv.readBack {s : State} (h : IdInv s) (d : DataField) : IdInv (s.readBack d) := by
  unfold State.readBack
  split
  · refine h.stopOr ?_
    repeat' split
    · exact h.verifiedGood _ _
    · exact h.verifiedBad _
    · exact h.of_queue (by simp)
    · exact h.of_queue (by simp)
  · exact h

end Sys2Proof.Machine
end

section
/-! PROOF. The held requests' ids: admission, where a request joins the held ones under the next id. -/

namespace Sys2Proof.Machine

theorem IdInv.insert {s : State} (h : IdInv s) {r : Request} (numbered : r.id = s.queue.nextId) : IdInv (s.insert r) := by
  refine ⟨?_, fun q hq => ?_⟩
  · simp only [State.insert, List.map_append, List.map_cons, List.map_nil]
    refine List.nodup_append.mpr ⟨h.unlike, List.nodup_singleton _, ?_⟩
    intro a ha b hb
    obtain ⟨q, hq, rfl⟩ := List.mem_map.mp ha
    obtain rfl := List.mem_singleton.mp hb
    have := h.below q hq
    omega
  · rcases List.mem_append.mp hq with old | new
    · exact Nat.lt_succ_of_lt (h.below q old)
    · obtain rfl := List.mem_singleton.mp new
      exact numbered ▸ Nat.lt_succ_self _

theorem IdInv.stage {s : State} (h : IdInv s) (r : Request) : IdInv (s.stage r) := by
  unfold State.stage
  split
  · exact h.foldl (fun _ i ht => ht.allocOrWait _) _
  · exact h

theorem IdInv.closeChain {s : State} (h : IdInv s) (last : Request) : IdInv (s.closeChain last) := by
  unfold State.closeChain
  dsimp only
  split
  · exact (h.finishAll _).post
  · exact h.foldl (fun _ i ht => ht.modify i (by exact fun _ => rfl)) _

theorem IdInv.ite {t u : State} {c : Bool} (yes : IdInv t) (no : IdInv u) : IdInv (if c then t else u) := by
  split
  · exact yes
  · exact no

theorem IdInv.acceptDrive {s : State} (h : IdInv s) (k : Kind) (b : BlockBody) : IdInv (s.acceptDrive k b) := by
  have joined (st : ReqState) (n : Nat) (l : List Nat) :
      IdInv ((s.insert { s.draft k b with state := st, reserved := n, promised := l }).stage
        { s.draft k b with state := st, reserved := n, promised := l }) := (h.insert rfl).stage _
  unfold State.acceptDrive
  exact .ite (.ite (joined _ _ _) ((joined _ _ _).closeChain _)) (.ite (joined _ _ _) ((joined _ _ _).consult _).post)

theorem pinNow_queue (s : State) (r : Request) : (s.pinNow r).queue = s.queue :=
  foldl_keeps (·.queue) _ (fun t i => by split <;> simp) _ s

theorem IdInv.refuse {s : State} (h : IdInv s) (blk : Block) (o : ReqOutcome) : IdInv (s.refuse blk o) :=
  (((h.finishAll _).postUpTo _).of_queue (by rfl)).post

theorem unpinFrame_queue (s : State) (f : Nat) : (s.unpinFrame f).queue = s.queue := by
  unfold State.unpinFrame
  split <;> simp

theorem overRange_queue (s : State) (b : BlockBody) (test : Frame → Bool) {act : State → Nat → State}
    (same : ∀ t f, (act t f).queue = t.queue) : (s.overRange b test act).1.queue = s.queue := by
  have acted (p : State × Nat) (a : SectorAddr) : (State.overSector test act p a).1.queue = p.1.queue := by
    unfold State.overSector
    repeat' split
    · exact same _ _
    all_goals rfl
  unfold State.overRange
  generalize blockIndices b = l
  suffices fold : ∀ (l : List Nat) (p : State × Nat),
      (l.foldl (fun p i => State.overSector test act p (sectorAt b.cyl.toNat i)) p).1.queue = p.1.queue from fold l (s, 0)
  intro l
  induction l with
  | nil => exact fun _ => rfl
  | cons i l ih => exact fun p => (ih _).trans (acted p _)

theorem fetchFault_queue (s : State) (blk : Block) : (s.fetchFault blk).queue = s.queue := by
  unfold State.fetchFault
  split <;> rfl

theorem IdInv.carryOut {s : State} (h : IdInv s) (k : Kind) (blk : Block) : IdInv (s.carryOut k blk) := by
  have held (k : Kind) (kind : State → JobKind) : IdInv (s.acceptHeld k blk.body kind) := (h.insert rfl).of_queue (by rfl)
  cases k with
  | read | check | write | writeVerify | update => exact h.acceptDrive _ _
  | pin =>
    unfold State.carryOut
    dsimp only
    split
    · exact h.of_queue (pinNow_queue s _)
    · exact h.acceptDrive _ _
  | unpin => exact h.of_queue (overRange_queue s _ _ unpinFrame_queue)
  | discard => exact h.of_queue (overRange_queue s _ _ (fun t f => by simp))
  | cancel => exact (((h.finishAll _).postUpTo _).of_queue (by rfl)).post
  | releaseCartridge => exact ((h.of_queue (by rfl)).drain _).post
  | fetchFault => exact h.of_queue (fetchFault_queue s blk)
  | report => exact held .report (fun t => .report t.reportWords)
  | configure => exact held .configure (fun _ => .configure)

theorem IdInv.process {s : State} (h : IdInv s) (blk : Block) : IdInv (s.process blk) := by
  unfold State.process
  split
  · exact h.of_queue (by rfl)
  · refine IdInv.settle ?_
    split
    · exact h.carryOut _ blk
    · exact h.refuse blk _
    · exact h

theorem IdInv.completeBlock {s : State} (h : IdInv s) (blk : Block) : IdInv (s.completeBlock blk) := by
  unfold State.completeBlock
  dsimp only
  repeat' split
  · exact h.of_queue (by rfl)
  · exact h.of_queue (by rfl)
  · exact (h.of_queue (by rfl)).process blk

theorem IdInv.takeBlock {s : State} (h : IdInv s) : IdInv s.takeBlock := by
  unfold State.takeBlock
  split
  · exact h
  · exact (h.of_queue (by rfl)).process _

theorem IdInv.tryHeld {s : State} (h : IdInv s) : IdInv s.tryHeld := by
  unfold State.tryHeld
  split
  · exact h.takeBlock
  · exact h

theorem IdInv.leftByConfigure {t : State} (h : IdInv t) (s : State) : IdInv (s.leftByConfigure t) := by
  unfold State.leftByConfigure
  split
  · exact h.takeBlock
  · exact h

theorem IdInv.intakeWord {s : State} (h : IdInv s) (w : Word) : IdInv (s.intakeWord w) := by
  unfold State.intakeWord
  dsimp only
  repeat' split
  · exact h.of_queue (by rfl)
  · exact h.of_queue (by rfl)
  · exact h.completeBlock _

theorem IdInv.outletWord {s : State} (h : IdInv s) : IdInv s.outletWord := by
  unfold State.outletWord State.placeFreed
  dsimp only
  repeat' split
  · exact h.of_queue (by rfl)
  · exact h.of_queue (by rfl)
  · exact (h.of_queue (by rfl)).settle.leftByConfigure s
  · exact (h.of_queue (by rfl)).settle.tryHeld

end Sys2Proof.Machine
end

section
/-! PROOF. The held requests' ids: the cartridge's, the peer's and the channel's events, and every step (O8). -/

namespace Sys2Proof.Machine

/-! ### The peer -/

theorem unlocatedWrite_queue (s : State) (head sec : Nat) : (s.unlocatedWrite head sec).queue = s.queue :=
  foldl_keeps (·.queue) _ (fun t f => by
    unfold State.writtenWithoutGood
    dsimp only
    repeat' split
    all_goals simp) _ s

theorem peerRead_queue (s : State) (a : SectorAddr) (ws : List Word) : (s.peerRead a ws).queue = s.queue := by
  unfold State.peerRead State.holdCapture
  repeat' split
  all_goals simp

theorem IdInv.overheardDone {s : State} (h : IdInv s) (id idx : Nat) : IdInv (s.overheardDone id idx) :=
  (h.markDone id idx .peer).of_queue (State.countCapture_queue _)

theorem IdInv.overheardHit {s : State} (h : IdInv s) (r : Request) (a : SectorAddr) (f : Nat) : IdInv (s.overheardHit r a f) := by
  have used : IdInv (s.modify r.id Request.useReserved) := h.modify r.id (by exact fun _ => rfl)
  have done := (used.of_queue (t := (s.modify r.id Request.useReserved).touch f) (by simp)).overheardDone r.id a.index
  unfold State.overheardHit
  dsimp only
  split
  · exact done.of_queue (by rfl)
  · exact done.of_queue (by simp)

theorem IdInv.overheardOwn {s t : State} (h : IdInv s) {r : Request} {a : SectorAddr} {ws : List Word}
    (own : s.overheardOwn r a ws = some t) : IdInv t := by
  unfold State.overheardOwn at own
  split at own
  · cases own
  · next f u e =>
    have framed (fr : Frame) : IdInv (u.setFrame f fr) := (h.of_queue (allocate_queue e)).of_queue (by rfl)
    have filled : IdInv (u.giveFilling r a f) := (framed _).modify r.id (by exact fun _ => rfl)
    have done := (filled.of_queue (State.settleRead_queue _ r f a ws)).overheardDone r.id a.index
    cases own
    split
    · exact done.of_queue (by simp)
    · exact done

theorem IdInv.overheardCheck {s : State} (h : IdInv s) (r : Request) (a : SectorAddr) : IdInv (s.overheardCheck r a) := by
  have done := h.overheardDone r.id a.index
  unfold State.overheardCheck
  dsimp only
  split
  · exact done.modify r.id (by exact fun _ => rfl)
  · exact done

theorem IdInv.overheardOne {k : CapKind} {a : SectorAddr} {ws : List Word} (p : State × Bool) (id : Nat) (h : IdInv p.1) :
    IdInv (State.overheardOne k a ws p id).1 := by
  have ended {t : State} (ht : IdInv t) : IdInv (if t.allDone id then t.endRequest id .done none else t) := by
    split
    · exact ht.endRequest id _ _
    · exact ht
  unfold State.overheardOne
  dsimp only
  split
  · exact h
  · split
    · split
      · exact h
      · next r _ _ _ t b served =>
        refine ended ?_
        split at served
        · cases served
          exact h.overheardCheck r a
        · split at served
          · cases served
            exact h.overheardHit r a _
          · obtain ⟨u, own, e⟩ := Option.map_eq_some_iff.mp served
            cases e
            exact h.overheardOwn own
    · exact h

theorem IdInv.overheard {s : State} (h : IdInv s) (k : CapKind) (a : SectorAddr) (ws : List Word) : IdInv (s.overheard k a ws) := by
  have fold (l : List Nat) : ∀ p : State × Bool, IdInv p.1 → IdInv (l.foldl (State.overheardOne k a ws) p).1 := by
    induction l with
    | nil => exact fun _ hp => hp
    | cons id l ih => exact fun p hp => ih _ (hp.overheardOne p id)
  exact fold _ _ h

theorem peerSeek_queue (s : State) (c : Nat) : (s.peerSeek c).queue = s.queue := by
  unfold State.peerSeek
  dsimp only
  repeat' split
  all_goals rfl

theorem peerRecalibrate_queue (s : State) : s.peerRecalibrate.queue = s.queue := by
  unfold State.peerRecalibrate
  split <;> rfl

theorem peerFault_queue (s : State) : s.peerFault.queue = s.queue := by
  unfold State.peerFault
  split <;> rfl

theorem IdInv.dealWith {s : State} (h : IdInv s) (k : CapKind) (v : CapVerdict) (a : SectorAddr) (ws : List Word) :
    IdInv (s.dealWith k v a ws) := by
  unfold State.dealWith
  dsimp only
  repeat' split
  · exact (h.of_queue (t := (s.guardCheck a).peerWrite a _ ws) (by simp)).overheard _ _ _
  · exact h.of_queue (by simp)
  · exact IdInv.labelVerdict (((h.of_queue (peerRead_queue s a ws)).overheard _ _ _).of_queue (by rfl)) _
  · exact (h.of_queue (peerRead_queue s a ws)).overheard _ _ _
  · exact h

theorem IdInv.mapMonitor {s : State} (h : IdInv s) (f : Monitor → Monitor) : IdInv (s.mapMonitor f) := h.of_queue (by rfl)

theorem IdInv.captureCompletes {s : State} (h : IdInv s) (c : PeerCapture) : IdInv (s.captureCompletes c) := by
  have placed (t : State) (k : CapKind) (v : CapVerdict) (ws : List Word) (ht : IdInv t) : IdInv (t.dealPlaced k v ws) := by
    unfold State.dealPlaced
    split
    · exact ht
    · exact ht.of_queue (unlocatedWrite_queue _ _ _)
    · exact (ht.of_queue (by rfl)).dealWith _ _ _ _
  unfold State.captureCompletes State.captureDealt
  dsimp only
  split
  · exact (placed _ _ _ _ (h.mapMonitor _)).mapMonitor _
  · exact h.of_queue (by rfl)

theorem cutShort_queue (s : State) (cap : Option PeerField) : (s.cutShort cap).queue = s.queue := by
  have reported : s.reportPartial.queue = s.queue := by
    unfold State.reportPartial
    split
    · rfl
    · exact unlocatedWrite_queue _ _ _
    · simp
  unfold State.cutShort State.endUnreported
  dsimp only
  repeat' split
  · exact reported
  all_goals rfl

theorem holdingEnds_queue (s : State) (cap : Option PeerField) : (s.holdingEnds cap).queue = s.queue := by
  unfold State.holdingEnds
  dsimp only
  split
  · exact cutShort_queue s cap
  · rfl

theorem beginCapture_queue (s : State) (ws : List Word) : (s.beginCapture ws).queue = s.queue := by
  unfold State.beginCapture State.abandonHeld
  dsimp only
  repeat' split
  all_goals simp

theorem peerHeader_queue (s : State) (visited : Bool) (ws : List Word) : (s.peerHeader visited ws).queue = s.queue := by
  have corrected : (s.correctArm ws).queue = s.queue := by
    unfold State.correctArm
    split <;> rfl
  unfold State.peerHeader
  dsimp only
  split
  · exact (beginCapture_queue _ ws).trans corrected
  · exact corrected

theorem IdInv.capturing {s : State} (h : IdInv s) {f : State → State} (goes : IdInv (f s)) : IdInv (s.capturing f) := by
  unfold State.capturing
  split
  · exact goes
  · exact h

theorem dataSyncMissed_queue (s : State) (d : PeerField) : (s.dataSyncMissed d).queue = s.queue := by
  unfold State.dataSyncMissed
  split <;> rfl

/-! ### Cartridge control -/

theorem IdInv.enterUnusable {s : State} (h : IdInv s) : IdInv s.enterUnusable := (h.of_queue (by simp)).drain .noCartridge

theorem arrival_queue (s : State) : s.arrival.queue = s.queue := by
  unfold State.arrival
  dsimp only
  split <;> simp

theorem IdInv.workCutByFall {s : State} (h : IdInv s) : IdInv s.workCutByFall := by
  have cut : IdInv s.tornByFall.lineInactive := by
    refine h.of_queue ?_
    unfold State.tornByFall
    split <;> simp
  unfold State.workCutByFall
  dsimp only
  repeat' split
  · exact cut.stopEnds
  · exact cut.of_queue (by simp)
  · exact cut.of_queue (by simp)
  · exact (cut.of_queue (settleFailedWrite_queue _ _)).requestFails _ _ _
  · exact cut.of_queue (by simp)
  · exact cut.of_queue (t := s.tornByFall.lineInactive.seqIdle.freeLabelFrame) (by simp [freeLabelFrame_queue])

theorem IdInv.departure {s : State} (h : IdInv s) : IdInv s.departure := by
  have absent : IdInv s.enterAbsent := h.of_queue (by simp [State.enterAbsent])
  have drained := absent.workCutByFall.drain .cartridgeRemoved
  have gone := (drained.orderFinished s.queue.finished.length).post.tidy
  unfold State.departure State.pointIfHolding
  dsimp only
  split
  · exact gone.selectionPoint
  · exact gone

theorem IdInv.loseReady {s : State} (h : IdInv s) (cap : Option PeerField) : IdInv (s.loseReady cap) := by
  have unknown : IdInv (if s.peerTenure then s.cutShort cap else s).armUnknown := by
    refine IdInv.of_queue (s := if s.peerTenure then s.cutShort cap else s) ?_ rfl
    split
    · exact h.of_queue (cutShort_queue s cap)
    · exact h
  have departed {t : State} (ht : IdInv t) : IdInv (if t.cart.state = .absent then t else t.departure) := by
    split
    · exact ht
    · exact ht.departure
  exact (departed unknown).settle

theorem unloadAsked_queue (s : State) : s.unloadAsked.queue = s.queue := by
  unfold State.unloadAsked
  split <;> simp [State.enterLeaving]

theorem IdInv.unloadCancelled {s : State} (h : IdInv s) : IdInv s.unloadCancelled := by
  have cancelled (r : Recorded) : IdInv (s.cancelUnload r) := by
    unfold State.cancelUnload
    dsimp only
    repeat' split
    · exact h.of_queue (by simp)
    · exact h.of_queue (by rfl)
    · exact (h.of_queue (by rfl)).enterUnusable
    · exact h.of_queue (by rfl)
  unfold State.unloadCancelled
  split
  · exact cancelled _
  · exact cancelled _
  · exact h

theorem IdInv.releaseTimeout {s : State} (h : IdInv s) : IdInv s.releaseTimeout := by
  unfold State.releaseTimeout
  split
  · exact ((h.of_queue (t := s.enterReleased) (by simp)).drain .cartridgeRemoved).of_queue (by simp)
  · exact h

/-! ### The drive line -/

theorem presChanged_queue (s : State) : s.presChanged.queue = s.queue := by
  unfold State.presChanged State.withdraw
  dsimp only
  split <;> simp

theorem peerArrives_queue (s : State) : s.peerArrives.queue = s.queue := by
  unfold State.peerArrives
  dsimp only
  split <;> simp [presChanged_queue]

theorem restartGap_queue (s : State) : s.restartGap.queue = s.queue := by
  unfold State.restartGap
  split <;> rfl

theorem joinRound_queue (s : State) : s.joinRound.queue = s.queue := by
  unfold State.joinRound
  dsimp only
  split <;> rfl

theorem IdInv.gapCompletes {s : State} (h : IdInv s) : IdInv s.gapCompletes := by
  unfold State.gapCompletes
  split
  · exact h.prepare.of_queue (joins_queue _)
  · exact h

theorem windowEnds_queue (s : State) (w next : RoundWindow) {f : State → State} (same : ∀ t, (f t).queue = t.queue) :
    (s.windowEnds w next f).queue = s.queue := by
  unfold State.windowEnds
  dsimp only
  repeat' split
  · exact same _
  all_goals rfl

theorem withdraw_queue (s : State) : s.withdraw.queue = s.queue := by simp [State.withdraw]

theorem endWindow1_queue (s : State) (m : Bool) : (s.endWindow1 m).queue = s.queue := by
  unfold State.endWindow1
  split
  · exact withdraw_queue s
  · rfl

theorem endWindow2_queue (s : State) (m : Bool) : (s.endWindow2 m).queue = s.queue := by
  unfold State.endWindow2
  split
  · exact withdraw_queue s
  · rfl

theorem endTie_queue (s : State) (m : Bool) : (s.endTie m).queue = s.queue := by
  unfold State.endTie
  split
  · exact withdraw_queue s
  · rfl

theorem IdInv.checkEnds {s : State} (h : IdInv s) (hold mark1 mark2 : Bool) : IdInv (s.checkEnds hold mark1 mark2) := by
  have collided (t : State) : t.collides.queue = t.queue := by simp [State.collides]
  have read (t : State) : (t.readsOutcome hold mark1 mark2).queue = t.queue := by
    unfold State.readsOutcome
    dsimp only
    repeat' split
    all_goals simp
  unfold State.checkEnds
  dsimp only
  repeat' split
  · exact h.of_queue (collided _)
  · exact IdInv.selectionPoint (h.of_queue (by rfl))
  · exact h.of_queue (read _)
  · exact h

theorem backoffEnds_queue (s : State) : s.backoffEnds.queue = s.queue := by
  unfold State.backoffEnds
  split <;> simp

theorem lineIsHeld_queue (s : State) : s.lineIsHeld.queue = s.queue := by
  unfold State.lineIsHeld State.raiseLineHeld
  split <;> simp

theorem peerLeaves_queue (s : State) (cap : Option PeerField) : (s.peerLeaves cap).queue = s.queue := by
  simp [State.peerLeaves, presChanged_queue, holdingEnds_queue]

theorem holdEnds_queue (s : State) (cap : Option PeerField) : (s.holdEnds cap).queue = s.queue :=
  (restartGap_queue _).trans (holdingEnds_queue s cap)

theorem holdBegins_queue (s : State) : s.holdBegins.queue = s.queue := by
  unfold State.holdBegins
  split <;> rfl

/-! ### The channel, the port, the power -/

theorem applyRecord_queue (s : State) (ws : List Word) : (s.applyRecord ws).queue = s.queue := by
  have turned (t : State) (f : Nat) : (t.releaseTurned f).queue = t.queue := by
    unfold State.releaseTurned
    split <;> simp
  have freed (t : State) (z : Nat → Bool) : (t.freeZoneFrames z).queue = t.queue :=
    foldl_keeps (·.queue) _ (fun t f => by split; exacts [turned t f, rfl]) _ t
  have found (t : State) : t.cartFound.queue = t.queue := by
    unfold State.cartFound
    repeat' split
    all_goals simp [State.enterLeaving]
  unfold State.applyRecord State.firstConfiguration
  dsimp only
  repeat' split
  · exact freed _ _
  · exact (found _).trans (freed _ _)
  · exact (found _).trans (freed _ _)

theorem stageWords_queue (s : State) (j : Job) (f : Nat) (ws : List Word) : (s.stageWords j f ws).queue = s.queue := by
  unfold State.stageWords
  split <;> rfl

theorem applyHeld_queue (s : State) (f : Nat) : (s.applyHeld f).queue = s.queue := by
  unfold State.applyHeld
  dsimp only
  repeat' split
  all_goals simp

theorem IdInv.jobDone {s : State} (h : IdInv s) (j : Job) (ws : List Word) : IdInv (s.jobDone j ws) := by
  have staged (f : Nat) : IdInv (s.stageWords j f ws).channelFree := h.of_queue (stageWords_queue s j f ws)
  have delivered (f : Nat) (out : List Word) : IdInv ((s.movedOut j.base out).channelFree.applyHeld f).sweep :=
    h.of_queue ((State.sweep_queue _).trans (applyHeld_queue _ f))
  unfold State.jobDone
  dsimp only
  repeat' split
  · exact staged _
  · exact (staged _).stagingEnded _
  · exact delivered _ _
  · exact (delivered _ _).deliveryEnded _
  · exact (h.of_queue (by rfl)).finish _ _
  · unfold State.judgeRecord
    split
    · exact (h.of_queue (by rfl)).finish _ _
    · exact (h.of_queue (t := s.channelFree.applyRecord ws) (applyRecord_queue _ ws)).finish _ _

theorem IdInv.stagingRefused {s : State} (h : IdInv s) (id : Nat) : IdInv (s.stagingRefused id) := by
  unfold State.stagingRefused
  repeat' split
  · exact h
  · exact (h.of_queue (t := ((s.dropStaging id).dropWaits id).releaseOwned id) (by simp)).modify id (by exact fun _ => rfl)
  · exact h.finishAll _

theorem IdInv.deliveryRefused {s : State} (h : IdInv s) (id idx : Nat) : IdInv (s.deliveryRefused id idx) := by
  have refused : IdInv ((s.dropDeliveries id).modify id (fun q => { q with refusedAt := some idx })) :=
    IdInv.modify (h.of_queue (by rfl)) id (by exact fun _ => rfl)
  unfold State.deliveryRefused
  dsimp only
  repeat' split
  · exact h
  · exact (refused.modify id (by exact fun _ => rfl)).finish id _
  · exact refused.finish id _
  · exact (refused.modify id (by exact fun _ => rfl)).finish id _
  · exact refused

theorem IdInv.jobRefused {s : State} (h : IdInv s) (j : Job) (n : Nat) (ws : List Word) : IdInv (s.jobRefused j n ws) := by
  have staged (f : Nat) : IdInv (s.stageWords j f (ws.take n)).channelFree := h.of_queue (stageWords_queue s j f _)
  have delivered (f : Nat) (out : List Word) : IdInv ((s.movedOut j.base out).channelFree.applyHeld f) :=
    h.of_queue (applyHeld_queue _ f)
  unfold State.jobRefused
  dsimp only
  repeat' split
  · exact staged _
  · exact (staged _).stagingRefused _
  · exact (delivered _ _).sweep
  · exact ((delivered _ _).deliveryRefused _ _).sweep
  · exact (h.of_queue (by rfl)).finish _ _
  · exact (h.of_queue (by rfl)).finish _ _

theorem IdInv.jobEnds {s : State} (h : IdInv s) (ws : List Word) : IdInv (s.jobEnds ws) := by
  unfold State.jobEnds
  split
  · exact h
  · exact (h.jobDone _ ws).settle.leftByConfigure s

theorem IdInv.jobStops {s : State} (h : IdInv s) (n : Nat) (ws : List Word) : IdInv (s.jobStops n ws) := by
  unfold State.jobStops
  split
  · exact h
  · exact (h.jobRefused _ n ws).settle.leftByConfigure s

theorem resetFrames_queue (s : State) : s.resetFrames.queue = s.queue :=
  foldl_keeps (·.queue) _ (fun t f => by split <;> simp) _ { s with cache := { s.cache with waits := _ } }

theorem IdInv.portReset {s : State} (h : IdInv s) : IdInv s.portReset := by
  have emptied : IdInv { s with
      port := s.port.afterReset
      queue := { s.queue with held := [], finished := [] }
      unit := { inProgress := none, flags := CondFlags.clear } } := h.of_sublist (List.nil_sublist _) rfl
  have freed := emptied.of_queue (resetFrames_queue _)
  refine IdInv.settle ?_
  unfold State.resetSequencer
  repeat' split
  · exact freed.of_queue (by simp)
  · exact freed
  · exact freed.stopEnds
  · exact freed.stopEnds
  all_goals exact freed.of_queue (by rfl)

theorem IdInv.poweredOn {s : State} (l : FoundLevels) : IdInv (s.poweredOn l) :=
  ⟨List.nodup_nil, fun _ hr => absurd hr List.not_mem_nil⟩

theorem startJob_queue (s : State) : s.startJob.queue = s.queue := by
  unfold State.startJob
  split <;> rfl

/-! ### The step -/

/-- A command's outcome is a next state with IdInv. -/
def KeepsIds (o : Result) : Prop := ∃ t, o = .next t ∧ IdInv t

theorem IdInv.live {s : State} (h : IdInv s) {f : State → State} (goes : IdInv (f s)) : KeepsIds (s.live f) := by
  refine ⟨_, rfl, ?_⟩
  split
  · exact goes
  · exact h

theorem IdInv.whenConfigured {s : State} (h : IdInv s) {f : State → State} (goes : IdInv (f s)) : IdInv (s.whenConfigured f) := by
  unfold State.whenConfigured
  split
  · exact goes
  · exact h

theorem IdInv.inPeerTenure {s : State} (h : IdInv s) {f : State → State} (goes : IdInv (f s)) : IdInv (s.inPeerTenure f) := by
  unfold State.inPeerTenure
  split
  · exact goes
  · exact h

theorem IdInv.exec {s : State} (h : IdInv s) (i : Instr) : KeepsIds (Machine.exec i s) := by
  have block (k : Kind) (b : BlockBody) : KeepsIds (s.live (·.blockOf k b)) := h.live (h.completeBlock _)
  have sampled (l : Lines) : IdInv (s.sample l) := h.of_queue (by rfl)
  unfold Machine.exec
  cases i with
  | powerOn l => exact ⟨_, rfl, .poweredOn l⟩
  | powerLost => exact ⟨_, rfl, h.of_queue (by rfl)⟩
  | brstAsserted => exact h.live h.portReset
  | portReset _ _ _ => exact h.live h.portReset
  | intakeWrite w => exact h.live (h.intakeWord w)
  | setInterruptEnables _ _ => exact h.live (h.of_queue (by rfl))
  | intakeRestart _ _ => exact h.live (h.of_queue (by rfl))
  | outletRead => exact h.live h.outletWord
  | noticesRead => exact h.live (h.of_queue (by rfl))
  | read b => exact block .read b
  | check b => exact block .check b
  | write b => exact block .write b
  | writeVerify b => exact block .writeVerify b
  | update b => exact block .update b
  | pin b => exact block .pin b
  | unpin b => exact block .unpin b
  | discard b => exact block .discard b
  | cancel b => exact block .cancel b
  | releaseCartridge b => exact block .releaseCartridge b
  | fetchFault b => exact block .fetchFault b
  | report b => exact block .report b
  | configure b => exact block .configure b
  | heldBlockProcessed => exact h.live h.tryHeld
  | postWaitingFinished => exact h.live h.settle
  | rdyRises => exact h.live ((h.withPins _).whenConfigured ((h.withPins _).of_queue (arrival_queue _)).settle)
  | rdyFalls cap l => exact h.live (((sampled l).withPins _).whenConfigured (((sampled l).withPins _).loseReady cap))
  | ulrRises =>
    exact h.live ((h.withPins _).whenConfigured (.ite ((h.withPins _).of_queue (unloadAsked_queue _)).settle (h.withPins _)))
  | ulrFalls => exact h.live ((h.withPins _).whenConfigured (.ite (h.withPins _).unloadCancelled.settle (h.withPins _)))
  | releaseTimerExpires => exact h.live h.releaseTimeout.settle
  | peerPresRises => exact h.live ((h.withPins _).whenConfigured ((h.withPins _).of_queue (peerArrives_queue _)).settle)
  | peerPresFalls cap => exact h.live ((h.withPins _).whenConfigured ((h.withPins _).of_queue (peerLeaves_queue _ cap)).settle)
  | holdFalls cap =>
    exact h.live ((h.withPins _).whenConfigured (.ite ((h.withPins _).of_queue (holdEnds_queue _ cap)).settle (h.withPins _)))
  | holdRises =>
    exact h.live ((h.withPins _).whenConfigured (.ite ((h.withPins _).of_queue (holdBegins_queue _)).settle (h.withPins _)))
  | gapCompletes l => exact h.live ((sampled l).whenConfigured (sampled l).gapCompletes)
  | window1Ends m => exact h.live ((h.withPins _).of_queue (windowEnds_queue _ _ _ (fun t => endWindow1_queue t m)))
  | window2Ends m => exact h.live ((h.withPins _).of_queue (windowEnds_queue _ _ _ (fun t => endWindow2_queue t m)))
  | tieWindowEnds m => exact h.live ((h.withPins _).of_queue (windowEnds_queue _ _ _ (fun t => endTie_queue t m)))
  | identityCheckEnds a b c l => exact h.live ((sampled l).checkEnds a b c).settle
  | backoffTimerExpires => exact h.live (h.of_queue (backoffEnds_queue s))
  | yieldCall l => exact h.live ((sampled l).whenConfigured ((sampled l).of_queue (by simp)))
  | lineHeld => exact h.live (h.of_queue (lineIsHeld_queue s))
  | motionWaitTimeout l => exact h.live (sampled l).motionWaitOver.settle
  | seekStrobe l => exact h.live (sampled l).motionOver.settle
  | seekEnds e l => exact h.live ((sampled l).seekEnd e).settle
  | seekTimeout l => exact h.live (IdInv.ite (sampled l).seekBroken (sampled l)).settle
  | recalibrateEnds e l => exact h.live ((sampled l).recalibrateEnd e).settle
  | recalibrateTimeout l =>
    refine h.live (IdInv.settle ?_)
    split
    · exact (sampled l).recalibrateBroken
    · exact sampled l
  | sectorVisit l => exact h.live ((sampled l).of_queue (slot_queue _))
  | headerRead hd l => exact h.live ((sampled l).header hd).settle
  | dataFieldRead d l => exact h.live ((sampled l).fieldRead d).settle
  | dataFieldWritten l => exact h.live (sampled l).fieldWritten.settle
  | readBackEnds d l => exact h.live ((sampled l).readBack d).settle
  | dmaJobStart => exact h.live (h.of_queue (startJob_queue s))
  | dmaJobEnds ws => exact h.live (h.jobEnds ws)
  | dmaNoAnswer n ws => exact h.live (h.jobStops n ws)
  | peerSeekStrobe c l => exact h.live ((sampled l).inPeerTenure ((sampled l).of_queue (peerSeek_queue _ _)))
  | peerRcalStrobe l => exact h.live ((sampled l).inPeerTenure ((sampled l).of_queue (peerRecalibrate_queue _)))
  | peerSkfRises => exact h.live ((h.withPins _).inPeerTenure ((h.withPins _).of_queue (peerFault_queue _)))
  | peerHselChange b => exact h.live (h.inPeerTenure (h.of_queue (by rfl)))
  | peerHeader v ws l => exact h.live ((sampled l).inPeerTenure ((sampled l).of_queue (peerHeader_queue _ v ws))).settle
  | captureKindNone => exact h.live (h.capturing (h.of_queue (by rfl)))
  | captureCompletes c => exact h.live (h.capturing (h.captureCompletes c)).settle
  | captureCutShort d => exact h.live (h.of_queue (cutShort_queue s _)).settle
  | captureDataSyncNotFound d => exact h.live (h.capturing (h.of_queue (dataSyncMissed_queue s d)))

end Sys2Proof.Machine

namespace Sys2Proof.Proofs
open Sys2Proof.Machine

/-- Settles O8: a request joins the held ones under the next id, which then goes up; every other change of the queue keeps the ids of
those that stay, or takes requests away. -/
theorem stepKeepsRequestIds : Obligations.StepKeepsRequestIds := by
  unfold Obligations.StepKeepsRequestIds
  intro s t h e
  unfold step at e
  split at e
  · cases e
    exact h.of_queue (by simp)
  · next c cs _ =>
    have waiting : IdInv { s with pending := cs } := h.of_queue (by rfl)
    obtain ⟨u, ran, kept⟩ := waiting.exec c
    rw [ran] at e
    cases e
    exact kept

end Sys2Proof.Proofs
end

section
/-! PROOF. The parts of a candidate's cost, its slack and urgency, and the hazard order (O17). -/

namespace Sys2Proof.Machine

/-- The sectors left to do stand in ascending order within the request's range (R42, R73). -/
theorem undone_ascending (r : Request) : r.undone.Pairwise (· < ·) := (List.pairwise_lt_range' (s := r.addr.index) (n := r.count)).filter _

theorem undone_in_range {r : Request} {i : Nat} (h : i ∈ r.undone) : r.addr.index ≤ i ∧ i < r.addr.index + r.count := by
  have named := List.mem_of_mem_filter h
  simpa [Request.indices] using named

theorem headD_le_getLast {l : List Nat} (ascending : l.Pairwise (· < ·)) (some_ : l ≠ []) (d : Nat) : l.headD d ≤ l.getLast some_ := by
  cases l with
  | nil => exact absurd rfl some_
  | cons x xs =>
    rcases List.mem_cons.mp (List.getLast_mem some_) with e | later
    · exact e.ge
    · exact (List.rel_of_pairwise_cons ascending later).le

/-- The span of a request with work left reaches from its first sector left to its last one (R73). -/
theorem span_bounds {r : Request} (left : r.undone ≠ []) (range : r.addr.index + r.count ≤ 40) : 1 ≤ r.span ∧ r.span ≤ 40 := by
  have lastIn := List.getLast_mem left
  have firstLast : r.firstIndex ≤ r.undone.getLast left := headD_le_getLast (undone_ascending r) left _
  have := (undone_in_range lastIn).2
  unfold Request.span
  rw [List.getLast?_eq_some_getLast left]
  dsimp only
  omega

/-- The longest seek estimate is that from an UNKNOWN arm (R74). -/
theorem seekEstimate_le (arm : Option (Fin 400)) {c : Nat} (h : c < 400) : seekEstimate arm c ≤ 55 := by
  unfold seekEstimate
  split
  · exact le_refl _
  · next a =>
    have := a.isLt
    dsimp only
    repeat' split
    all_goals omega

theorem rotationalWait_lt (p t i : Nat) : rotationalWait p t i < 20 := Nat.mod_lt _ (by decide)

/-- A drive request moves something for at least a millisecond and at most 80 (R76). -/
theorem transferTime_bounds {k : Kind} (op : UpdateOp) {n : Nat} (least : 1 ≤ n) (most : n ≤ 40) :
    1 ≤ transferTime k op n ∧ transferTime k op n ≤ 80 := by
  unfold transferTime
  repeat' split
  all_goals omega

/-- When a request is blocked (R59). -/
theorem blocked_iff (s : State) (r : Request) : s.blocked r = true ↔
    ∃ o ∈ s.queue.held, o.id < r.id ∧ o.kind.isDrive = true ∧ r.kind.isDrive = true ∧ ¬(o.chain.isSome = true ∧ o.chain = r.chain)
      ∧ o.addr.cyl = r.addr.cyl ∧ (∃ i ∈ o.hazard, i ∈ r.hazard) ∧ (o.hazardWritten ≠ [] ∨ r.hazardWritten ≠ []) := by
  have blocks (o : Request) : o.blocks r = true ↔ o.id < r.id ∧ o.kind.isDrive = true ∧ r.kind.isDrive = true
      ∧ ¬(o.chain.isSome = true ∧ o.chain = r.chain) ∧ o.addr.cyl = r.addr.cyl ∧ (∃ i ∈ o.hazard, i ∈ r.hazard)
      ∧ (o.hazardWritten ≠ [] ∨ r.hazardWritten ≠ []) := by
    have apart : o.sameChain r = false ↔ ¬(o.chain.isSome = true ∧ o.chain = r.chain) := by
      rw [← Bool.not_eq_true, Request.sameChain, Bool.and_eq_true, beq_iff_eq]
    simp only [Request.blocks, Bool.and_eq_true, decide_eq_true_eq, Bool.not_eq_true', apart, beq_iff_eq, List.any_eq_true,
      List.contains_iff_mem, Bool.or_eq_true, Bool.not_eq_true', List.isEmpty_eq_false_iff, and_assoc]
  simp only [State.blocked, List.any_eq_true, blocks]

end Sys2Proof.Machine

namespace Sys2Proof.Proofs
open Sys2Proof.Machine

/-- Settles O17: the three parts by their definitions, and their bounds added up. -/
theorem costParts : Obligations.CostParts := by
  unfold Obligations.CostParts
  refine ⟨fun _ => rfl, ?seek, ?wait, ?transfer, fun _ _ => rfl, ?bounds, ?slack, ?urgency, blocked_iff⟩
  case seek =>
    intro a c _
    simp only [seekEstimate]
    split <;> split <;> split <;> omega
  case wait =>
    intro p t i
    refine ⟨rotationalWait_lt p t i, ?_⟩
    unfold rotationalWait
    dsimp only
    omega
  case transfer => exact fun _ _ => ⟨rfl, rfl, rfl, rfl, rfl, rfl⟩
  case bounds =>
    intro s r candidate cylinder range
    obtain ⟨-, -, -, -, left⟩ := (isCandidate_iff s r).mp candidate
    obtain ⟨least, most⟩ := span_bounds left range
    obtain ⟨some_, few⟩ := transferTime_bounds (k := r.kind) r.op least most
    have seek := seekEstimate_le s.monitor.arm cylinder
    have wait := rotationalWait_lt s.pins.snum.toNat (seekEstimate s.monitor.arm r.addr.cyl) r.firstIndex
    unfold State.requestCost State.cost
    dsimp only
    omega
  case slack =>
    intro s r d due
    rw [State.requestSlack, due]
    rfl
  case urgency =>
    intro x
    unfold urgencyOf
    refine ⟨fun h => if_pos h, fun h g => ?_, fun h => ?_⟩
    · rw [if_neg (by omega), if_pos g]
    · rw [if_neg (by omega), if_neg (by omega)]

end Sys2Proof.Proofs
end

section
/-! PROOF. The first check that a block fails, and the tests of the immediate kinds (O27, O29). -/

namespace Sys2Proof.Machine

/-- The checks are taken in their order (R47). -/
theorem firstFailed_cons (c : Bool) (o : ReqOutcome) (l : List (Bool × ReqOutcome)) :
    firstFailed ((c, o) :: l) = if c = true then some o else firstFailed l := by
  cases c <;> simp [firstFailed]

/-- A block of a kind is refused by the first check that it fails, else by the test of its kind (R47, R48). -/
theorem refusal_eq (s : State) (k : Kind) (b : BlockBody) :
    s.refusal { kindCode := k.code, body := b } = (firstFailed (s.checks k b)).orElse (fun _ => s.immediateVerdict k b) := by
  unfold State.refusal
  rw [kindOfCode_code]

/-- A drive block is refused by its checks alone. -/
theorem refusal_of_drive {s : State} {k : Kind} {b : BlockBody} (drive : k.isDrive = true) :
    s.refusal { kindCode := k.code, body := b } = firstFailed (s.checks k b) := by
  rw [refusal_eq, immediateVerdict_of_drive drive]
  cases firstFailed (s.checks k b) <;> rfl

/-- An immediate block that passes the checks is refused by the test of its kind alone (R61, R63, R168). -/
theorem refusal_of_plain {s : State} {k : Kind} {b : BlockBody} (pass : PassesPlain s k b) (staged : s.stagedMembers = []) :
    s.refusal { kindCode := k.code, body := b } = s.immediateVerdict k b := by
  rw [refusal_eq, firstFailed_of_plain pass staged]
  rfl

/-! ### The checks as the spec words them -/

/-- Check 2 of a drive block (R48). -/
theorem badKind_iff (k : Kind) (b : BlockBody) : ((k == .update && (opOfCode b.opCode).isNone) || (condOfCode b.condCode).isNone) = true ↔
    b.condCode = 3 ∨ (k = .update ∧ 4 < b.opCode.toNat) := by
  have op (c : BitVec 3) : (opOfCode c).isNone = true ↔ 4 < c.toNat := by
    revert c
    decide
  have cond (c : BitVec 2) : (condOfCode c).isNone = true ↔ c = 3 := by
    revert c
    decide
  rw [Bool.or_eq_true, Bool.and_eq_true, beq_iff_eq, op, cond, or_comm]

/-- Check 3 of a drive block: the deadline counts where the block opens a chain or stands alone (R48, R49). -/
theorem badAddress_iff {k : Kind} {b : BlockBody} (drive : k.isDrive = true) (later : Bool) : badAddress k b later = true ↔
    399 < b.cyl.toNat ∨ 1 < b.head.toNat ∨ 19 < b.sector.toNat ∨ b.count = 0 ∨ 40 < b.head.toNat * 20 + b.sector.toNat + b.count.toNat
      ∨ (k = .update ∧ b.count ≠ 1) ∨ (later = false ∧ 30000 < b.deadline.toNat) := by
  simp only [badAddress, drive, Bool.true_or, Bool.true_and, Bool.or_eq_true, Bool.and_eq_true, decide_eq_true_eq, beq_iff_eq, bne_iff_ne,
    Bool.not_eq_true']
  have reach : 40 < b.count.toNat → 40 < blockIndex b + b.count.toNat := by omega
  rw [show Config.maxDeadline = 30000 from rfl, show b.head.toNat * 20 + b.sector.toNat = blockIndex b from rfl]
  tauto

/-- Check 4 of a drive block (R48). -/
theorem badMemory_iff {k : Kind} (drive : k.isDrive = true) (b : BlockBody) :
    badMemory k b = true ↔ (k = .read ∨ k.isWrite = true) ∧ 262144 < b.mem.toNat + b.count.toNat * 256 := by
  cases k <;> simp_all [badMemory, Kind.isWrite, Kind.isDrive, Config.lastMemoryWord, Config.sectorWords]

/-- Only the operation code 2 names TEST (section 11.6). -/
theorem writesForAdmission_eq (k : Kind) (b : BlockBody) : writesForAdmission k b = (k.isWrite || (k == .update && b.opCode != 2)) := by
  have test (c : BitVec 3) : (opOfCode c != some .test) = (c != 2) := by
    revert c
    decide
  rw [writesForAdmission, test]

/-- Of the drive kinds PIN alone may stand in no chain (R49). -/
theorem chainable_of_drive {k : Kind} (drive : k.isDrive = true) : k.chainable = false ↔ k = .pin := by
  cases k <;> simp_all [Kind.isDrive, Kind.chainable]

theorem caches_iff (z : Zones) (cyl : Nat) : z.caches cyl = false ↔ z.mode cyl = .none := by
  simp [Zones.caches]

theorem permits_iff (c : CartState) : c.permits = false ↔ c ≠ .loading ∧ c ≠ .mounted := by
  cases c <;> simp [CartState.permits]

/-- For a PIN alone (R50). -/
theorem pinServed_of_other {s : State} {k : Kind} (other : k ≠ .pin) (b : BlockBody) : s.pinServed k b = false := by
  simp [State.pinServed, other]

/-- A later member of a chain is served nothing at admission (R50). -/
theorem not_served_of_member {s : State} {k : Kind} {b : BlockBody} {f : Request} {rest : List Request} (drive : k.isDrive = true)
    (other : k ≠ .pin) (staged : s.stagedMembers = f :: rest) : (s.readServed k b || s.pinServed k b) = false := by
  have chainable : k.chainable = true := by
    by_contra no
    exact other ((chainable_of_drive drive).mp (by simpa using no))
  have chained : (s.draft k b).chain = some f.id := by
    simp [State.draft, staged, chainable]
  simp [pinServed_of_other other, State.readServed, chained]

/-! ### Immediate blocks -/

section Plain
variable {s : State} {k : Kind} {b : BlockBody} (pass : PassesPlain s k b)
include pass

theorem PassesPlain.badAddress (later : Bool) : badAddress k b later = false := by
  have immediate := pass.immediate
  have update : (k == .update) = false := by
    cases k <;> simp_all [Kind.isDrive]
  unfold Sys2Proof.Machine.badAddress
  by_cases range : k = .unpin ∨ k = .discard
  · rw [(pass.range range).passes]
    simp [immediate, update]
  · obtain ⟨unpin, discard⟩ := not_or.mp range
    simp [immediate, update, unpin, discard]

theorem PassesPlain.badMemory : badMemory k b = false := by
  have immediate := pass.immediate
  have report := pass.report
  have configure := pass.configure
  unfold Sys2Proof.Machine.badMemory
  cases k <;> simp_all [Kind.isDrive, Config.lastMemoryWord]

/-- An immediate block is no member of a chain: one that comes while a chain is open is refused (R49, R57). -/
theorem PassesPlain.refused_in_chain (staged : s.stagedMembers ≠ []) : s.refusal { kindCode := k.code, body := b } = some .badKind := by
  have immediate := pass.immediate
  have configured : (!s.zones.configured && k != .configure) = false := by
    rcases pass.configured with e | e <;> simp [e]
  have kind : ((k == .update && (opOfCode b.opCode).isNone) || (condOfCode b.condCode).isNone) = false := by
    rw [condOfCode_isSome pass.condition]
    cases k <;> simp_all [Kind.isDrive]
  have tag : s.queue.held.any (fun r => r.tag == b.tag) = false := by simpa [freshTag] using pass.tag
  have chained : (s.inChain k b && !k.chainable) = true := by
    have open_ : s.inChain k b = true := by simp [State.inChain, staged]
    rw [open_]
    cases k <;> simp_all [Kind.isDrive, Kind.chainable]
  rw [refusal_eq, State.checks]
  simp only [firstFailed_cons, configured, kind, pass.badAddress, pass.badMemory, tag, chained, Bool.false_eq_true, if_false, if_true]
  rfl

end Plain

end Sys2Proof.Machine

namespace Sys2Proof.Proofs
open Sys2Proof.Machine

/-- Settles O29: behind the checks each kind has its own test. -/
theorem testsOfImmediateKinds : Obligations.TestsOfImmediateKinds := by
  unfold Obligations.TestsOfImmediateKinds
  intro s k b staged pass
  rw [refusal_of_plain pass staged]
  refine ⟨?_, ?_, ?_, ?_, ?_, ?_⟩
  · rintro rfl unknown
    have none_ : s.queue.held.find? (fun q => q.tag == b.opA.extractLsb' 0 8) = none := by simpa using unknown
    simp [State.immediateVerdict, State.cancelVerdict, none_]
  · rintro rfl r found ⟨c, chain, later⟩
    simp [State.immediateVerdict, State.cancelVerdict, found, chain, later]
  · rintro rfl r found chain late
    simp only [State.immediateVerdict, State.cancelVerdict, found, chain]
    rcases late with e | e | e | e <;> simp [e]
  · rintro rfl away
    simp [State.immediateVerdict, away]
  · rintro rfl locked
    simp [State.immediateVerdict, locked]
  · rintro rfl unlocked holds
    simp [State.immediateVerdict, unlocked, holds]

/-- Settles O27: the model's list of checks read as a chain of tests, those that cannot fail here left out. -/
theorem checksOfADriveBlock : Obligations.ChecksOfADriveBlock := by
  unfold Obligations.ChecksOfADriveBlock
  refine ⟨?_, ?_, fun s k b staged pass => pass.refused_in_chain staged⟩
  · intro s k b drive staged writes served unpinned
    have plain : k ≠ .configure := by
      rintro rfl
      cases drive
    have both : (s.readServed k b || s.pinServed k b) = served := rfl
    have immediate : k ≠ .cancel ∧ k ≠ .report := by
      constructor <;> rintro rfl <;> cases drive
    rw [refusal_of_drive drive, State.checks]
    simp only [both, firstFailed_cons, staged, List.isEmpty_nil, List.head?_nil, Option.any_none, List.length_nil, Bool.not_true]
    refine ite_congr (by simp [plain]) (fun _ => rfl) fun _ => ?_
    refine ite_congr (propext (badKind_iff k b)) (fun _ => rfl) fun _ => ?_
    refine ite_congr (propext ((badAddress_iff drive false).trans (by simp))) (fun _ => rfl) fun _ => ?_
    refine ite_congr (propext (badMemory_iff drive b)) (fun _ => rfl) fun _ => ?_
    refine ite_congr rfl (fun _ => rfl) fun _ => ?_
    refine ite_congr (by simp [State.inChain, staged, chainable_of_drive drive, plain, immediate.1]) (fun _ => rfl) fun _ => ?_
    rw [if_neg (by simp), if_neg (by simp [Config.maxChain])]
    refine ite_congr (by rw [State.refusedNoWrite, writesForAdmission_eq]; rfl) (fun _ => rfl) fun _ => ?_
    refine ite_congr (by simp [caches_iff]) (fun _ => rfl) fun _ => ?_
    refine ite_congr (by simp [drive, permits_iff, and_assoc]) (fun _ => rfl) fun _ => ?_
    refine ite_congr (by simp [drive, Config.maxHeld, immediate.2, and_comm]) (fun _ => rfl) fun _ => ?_
    refine ite_congr (by simp [drive, State.canPromise]) (fun _ => rfl) fun _ => ?_
    refine ite_congr ?_ (fun _ => rfl) fun _ => rfl
    rw [Bool.and_eq_true, beq_iff_eq, State.overPinLimit, decide_eq_true_eq]
    rfl
  · intro s k b f rest drive staged writes
    have plain : k ≠ .configure := by
      rintro rfl
      cases drive
    rw [refusal_of_drive drive, State.checks]
    simp only [firstFailed_cons, staged, List.isEmpty_cons, List.head?_cons, Option.any_some, List.length_cons, Bool.not_false]
    refine ite_congr (by simp [plain]) (fun _ => rfl) fun _ => ?_
    refine ite_congr (propext (badKind_iff k b)) (fun _ => rfl) fun _ => ?_
    refine ite_congr (propext ((badAddress_iff drive true).trans (by simp))) (fun _ => rfl) fun _ => ?_
    refine ite_congr (propext (badMemory_iff drive b)) (fun _ => rfl) fun _ => ?_
    refine ite_congr rfl (fun _ => rfl) fun _ => ?_
    refine ite_congr (by simp [State.inChain, staged, chainable_of_drive drive]) (fun _ => rfl) fun other => ?_
    have unserved := not_served_of_member (b := b) drive other staged
    refine ite_congr (by simp) (fun _ => rfl) fun _ => ?_
    refine ite_congr (by simp [Config.maxChain]) (fun _ => rfl) fun _ => ?_
    refine ite_congr (by rw [State.refusedNoWrite, writesForAdmission_eq]; rfl) (fun _ => rfl) fun _ => ?_
    rw [if_neg (by simp [other]), unserved, pinServed_of_other other]
    refine ite_congr (by simp [drive, permits_iff]) (fun _ => rfl) fun _ => ?_
    refine ite_congr (by simp [drive, Config.maxHeld]) (fun _ => rfl) fun _ => ?_
    refine ite_congr (by simp [drive, State.canPromise]) (fun _ => rfl) fun _ => ?_
    rw [if_neg (by simp [other])]
    rfl

end Sys2Proof.Proofs
end

section
/-! PROOF. Words at the port, blocks refused, and the blocks answered at once (O23, O24, O26, O28 in part, O38, O39). -/

namespace Sys2Proof.Machine

/-! ### A quiet station whose drive work stays -/

/-- The access state of a quiet station agrees with any change that keeps the drive work (R24). -/
theorem settleAccess_of_quiet {s t : State} (quiet : Quiet s) (access : t.access = s.access) (work : t.hasWork = s.hasWork) :
    t.settleAccess = t := by
  unfold State.settleAccess
  rw [access, work]
  split
  · next idle => rw [quiet.idle idle]; rfl
  · next waiting => rw [quiet.waiting waiting]; rfl
  all_goals rfl

/-! ### A block taken from the intake -/

/-- The station with the block's words taken from the intake. -/
def State.blockTaken (s : State) : State := { s with port := { s.port with partialBlock := [] } }

/-- A block completed at an intake that is neither held nor occupied is processed (R47, R173). -/
theorem completeBlock_taken {s : State} (waiting : s.port.waiting = none) (free : s.configureHeld = false) (blk : Block) :
    s.completeBlock blk = s.blockTaken.process blk := completeBlock_of_free waiting free blk

/-- A block that is refused outside a chain, with a place in the FIFO, leaves its record (R47). -/
theorem process_of_refused {s : State} {blk : Block} {o : ReqOutcome} (refused : s.refusal blk = some o) (staged : s.stagedMembers = [])
    (finished : s.queue.finished = []) (room : s.port.fifo.length < 16) :
    s.process blk = (s.place (s.answer blk o .disk 0)).settle := by
  have needed : s.placesNeeded blk = 1 := by simp [State.placesNeeded, refused, staged]
  have enough : s.lacksPlaces blk = false := by
    simp [State.lacksPlaces, needed, State.finishedWaiting, finished, Config.fifoPlaces]
    omega
  have alone : s.refuse blk o = s.place (s.answer blk o .disk 0) := by
    unfold State.refuse
    rw [staged]
    exact post_of_nil _ finished
  rw [State.process, enough, if_neg Bool.false_ne_true, refused]
  exact congrArg State.settle alone

section Quiet
variable {s : State} (quiet : Quiet s) (room : s.port.fifo.length < 16)
include quiet room

/-- At a quiet station nothing else follows a refusal (R47). -/
theorem Quiet.completeBlock_refused {blk : Block} {o : ReqOutcome} (refused : s.refusal blk = some o) :
    s.completeBlock blk = { s with port := { s.port with partialBlock := [], fifo := s.port.fifo ++ [s.answer blk o .disk 0] } } := by
  rw [completeBlock_taken quiet.intake quiet.free,
    process_of_refused (s := s.blockTaken) (o := o) refused quiet.staged quiet.finished room]
  exact settle_quiet_port quiet rfl rfl

omit room in
/-- An accepted block that needs no place, or finds the places it needs, is carried out (R47). -/
theorem Quiet.exec_accepted {k : Kind} {b : BlockBody} (accepted : s.refusal { kindCode := k.code, body := b } = none)
    (places : s.blockTaken.placesOf k b = 0 ∨ s.port.fifo.length + s.blockTaken.placesOf k b ≤ 16) :
    exec (blockCommand k b) s = .next (s.blockTaken.carryOut k { kindCode := k.code, body := b }).settle := by
  rw [exec_blockCommand k b s quiet.powered, completeBlock_taken quiet.intake quiet.free]
  exact congrArg _ (process_of_accepted (s := s.blockTaken) accepted (places.imp_right fun h => ⟨h, quiet.finished⟩))

end Quiet

/-! ### A request that needs no drive -/

/-- A REPORT or a CONFIGURE that joins the held requests blocks none (R59). -/
theorem blocked_append_plain {s t : State} {r : Request} (held : t.queue.held = s.queue.held ++ [r]) (plain : r.kind.isDrive = false)
    (q : Request) : t.blocked q = s.blocked q := by
  simp [State.blocked, held, Request.blocks, plain]

/-- The candidates stay as they are when one joins the held requests that needs no drive (R79, R80). -/
theorem candidates_append_plain {s : State} {r : Request} (plain : r.kind.isDrive = false) (p : Port) (n : Nat)
    (hold : ∀ f, State.hold { s with port := p } f = s.hold f) :
    State.candidates { s with port := p, queue := { s.queue with held := s.queue.held ++ [r], nextId := n } } = s.candidates := by
  let t : State := { s with port := p, queue := { s.queue with held := s.queue.held ++ [r], nextId := n } }
  have candidate : t.isCandidate = s.isCandidate := by
    funext q
    rw [State.isCandidate, State.isCandidate, blocked_append_plain (t := t) rfl plain]
  have others : (s.queue.held ++ [r]).filter s.isCandidate = s.queue.held.filter s.isCandidate := by
    simp [List.filter_append, State.isCandidate, plain]
  have written (a : SectorAddr) : t.writeHeld a = s.writeHeld a := by simp [t, State.writeHeld, plain]
  have refresh : t.refreshCandidate = s.refreshCandidate := by
    funext e
    have same : t.hold e.frame = s.hold e.frame := hold e.frame
    simp only [State.refreshCandidate, written, same]
    rfl
  change t.candidates = _
  unfold State.candidates
  rw [candidate, refresh, show t.queue.held = s.queue.held ++ [r] from rfl, others]
  rfl

/-- A REPORT or CONFIGURE accepted by a quiet station adds itself and its job (R66, R168, R178). -/
theorem Quiet.acceptHeld_settle {s : State} (quiet : Quiet s) {k : Kind} {b : BlockBody} (plain : k.isDrive = false) (kind : State → JobKind)
    (reads : ∀ (t : State) (f : Nat), Job.delivers { req := s.queue.nextId, orphan := false, kind := kind t, base := b.mem.toNat } f = false) :
    (s.acceptHeld k b kind).settle = s.acceptHeld k b kind := by
  have hold (f : Nat) : (s.acceptHeld k b kind).hold f = s.hold f := by
    simp only [State.acceptHeld, State.hold, State.allJobs, State.queueJob, State.insert, ← List.append_assoc, List.filter_append]
    simp [State.draft, reads]
  have still : Still (s.acceptHeld k b kind) :=
    quiet.toStill.of_hold rfl quiet.waits rfl hold rfl rfl (fun _ => .inl rfl)
  rw [settle_of_still still]
  refine settleAccess_of_quiet quiet rfl ?_
  have same := candidates_append_plain (s := s) (r := { s.draft k b with state := .running }) plain (s.acceptHeld k b kind).port
    (s.queue.nextId + 1) hold
  unfold State.hasWork State.bidUrgency
  rw [← same]
  rfl

end Sys2Proof.Machine

namespace Sys2Proof.Proofs
open Sys2Proof.Machine

/-- Settles O26: the waiting block handed to admission is the block that its kind's command completes. -/
theorem heldBlockIsProcessedAgain : Obligations.HeldBlockIsProcessedAgain := by
  unfold Obligations.HeldBlockIsProcessedAgain
  intro s blk k power waiting kind empty finished free room
  let p : State := { s with port := { s.port with waiting := none } }
  refine ⟨p.process blk, ?_, ?_⟩
  · have tried : s.tryHeld = s.takeBlock := if_pos (by simp [free, State.finishedWaiting, finished, Config.fifoPlaces, room])
    have taken : s.takeBlock = p.process blk := by rw [State.takeBlock, waiting]
    exact (live_of_powered power State.tryHeld).trans (by rw [tried, taken])
  · have whole : ({ kindCode := k.code, body := blk.body } : Block) = blk := by rw [code_of_kindOfCode kind]
    have none_ : p.blockTaken = p := by
      change ({ s with port := { s.port with waiting := none, partialBlock := [] } } : State) = { s with port := { s.port with waiting := none } }
      rw [← empty]
    rw [exec_blockCommand k blk.body p power, completeBlock_taken (s := p) (by rfl) free, whole, none_]

/-- Settles O23: a word is stored, completes the block, or is discarded. -/
theorem intakeTakesWords : Obligations.IntakeTakesWords := by
  unfold Obligations.IntakeTakesWords
  intro s w power
  have written : exec (.intakeWrite w) s = .next (s.intakeWord w) := live_of_powered power (·.intakeWord w)
  have completed (free : s.port.waiting = none) (seven : s.port.partialBlock.length = 7) :
      s.intakeWord w = s.completeBlock (blockOfWords (s.port.partialBlock ++ [w])) := by
    simp [State.intakeWord, free, seven, Config.blockWords]
  rw [written]
  refine ⟨?_, ?_, ?_, ?_⟩
  · intro occupied
    rw [State.intakeWord, if_pos occupied]
  · intro free few
    simp [State.intakeWord, free, few, Config.blockWords]
  · intro free seven k kind
    rw [completed free seven, exec_blockCommand k _ s power, code_of_kindOfCode kind]
  · intro quiet seven room blk none_
    have refused : s.refusal blk = some (if s.zones.configured = true then .badKind else .notConfigured) := by
      rw [State.refusal, none_]
    rw [completed quiet.intake seven, quiet.completeBlock_refused room refused]
    rfl

end Sys2Proof.Proofs
end

section
/-! PROOF. The outlet and the words of a record; FETCH-FAULT, REPORT and CONFIGURE at their acceptance (O24, O38, O39). -/

namespace Sys2Proof.Machine

/-! ### Joined bits -/

/-- Joined bits count the upper part by the weight of the lower (section 11.6). -/
theorem toNat_append_eq {m n : Nat} (x : BitVec m) (y : BitVec n) : (x ++ y).toNat = x.toNat * 2 ^ n + y.toNat := by
  rw [BitVec.toNat_append, Nat.shiftLeft_eq, Nat.mul_comm, ← Nat.two_pow_add_eq_or_of_lt y.isLt]

/-- A flag counts its weight. -/
theorem toNat_bit (b : Bool) : (bit b).toNat = if b = true then 1 else 0 := by cases b <;> rfl

/-- Word 0 of a record: tag and kind code (section 11.6). -/
theorem word_zero (c : Completion) : c.word 0 = BitVec.ofNat 16 (256 * c.tag.toNat + 16 * c.kindCode.toNat) := by
  apply BitVec.eq_of_toNat_eq
  have tag := c.tag.isLt
  have kind := c.kindCode.isLt
  simp only [Completion.word, toNat_append_eq, BitVec.toNat_ofNat]
  omega

/-- Word 1 of a record: outcome code and flags (section 11.6). -/
theorem word_one (c : Completion) (flag : Bool → Nat → Nat) (is : ∀ b n, flag b n = if b = true then n else 0) :
    c.word 1 = BitVec.ofNat 16 (256 * c.outcome.code.toNat + flag c.late 16 + flag c.written 8 + flag c.flags.z 4 + flag c.flags.c 2
      + flag c.flags.n 1) := by
  apply BitVec.eq_of_toNat_eq
  have code := c.outcome.code.isLt
  have weight (b : Bool) (n : Nat) : (if b = true then n else 0) = (bit b).toNat * n := by cases b <;> simp
  have one (b : Bool) : (bit b).toNat < 2 := (bit b).isLt
  have late := one c.late
  have written := one c.written
  have z := one c.flags.z
  have cf := one c.flags.c
  have n := one c.flags.n
  simp only [Completion.word, toNat_append_eq, BitVec.toNat_ofNat, is, weight]
  omega

/-- Word 2 of a record: source and sectors completed (section 11.6). -/
theorem word_two {c : Completion} (few : c.sectors ≤ 40) : c.word 2 = BitVec.ofNat 16 (16384 * c.source.code.toNat + c.sectors) := by
  apply BitVec.eq_of_toNat_eq
  have source := c.source.code.isLt
  simp only [Completion.word, toNat_append_eq, BitVec.toNat_ofNat]
  omega

/-! ### A drive's absence -/

/-- The record of an immediate request accepted now (R42, R45). -/
theorem draft_of_plain {s : State} {k : Kind} (staged : s.stagedMembers = []) (plain : k.isDrive = false) (b : BlockBody) :
    s.draft k b = loneRequest s k b .waiting 0 := by
  have chainable : k.chainable = false := by cases k <;> simp_all [Kind.isDrive, Kind.chainable]
  unfold State.draft loneRequest
  simp only [staged, plain, chainable, List.head?_nil, Option.elim_none, Bool.false_and, Bool.false_eq_true, if_false]
  rfl

/-- A still station whose drive work is that of the quiet one it came from takes up nothing. -/
theorem Quiet.settle_still {s t : State} (quiet : Quiet s) (still : Still t) (access : t.access = s.access) (work : t.hasWork = s.hasWork) :
    t.settle = t := by
  rw [settle_of_still still, settleAccess_of_quiet quiet access work]

/-- The station stays quiet when a block is taken. -/
theorem Quiet.blockTaken {s : State} (quiet : Quiet s) : Quiet s.blockTaken :=
  { quiet.toStill.of_records (t := s.blockTaken) with
    intake := quiet.intake, free := quiet.free, staged := quiet.staged
    idle := fun e => (hasWork_port (by rfl) (by rfl)).trans (quiet.idle e)
    waiting := fun e => (hasWork_port (by rfl) (by rfl)).trans (quiet.waiting e) }

/-- A FETCH-FAULT's answer leaves the quiet station with its records (R65). -/
theorem Quiet.fetchFault_settle {s : State} (quiet : Quiet s) (blk : Block) : (s.blockTaken.fetchFault blk).settle = s.blockTaken.fetchFault blk := by
  have port {p : Port} (f : Faults) (jobs : p.jobs = s.port.jobs) (running : p.running = s.port.running) :
      State.settle { s with faults := f, port := p } = { s with faults := f, port := p } := by
    have hold (n : Nat) : State.hold { s with faults := f, port := p } n = s.hold n := hold_of_port running jobs n
    refine quiet.settle_still (quiet.toStill.of_hold (by rfl) quiet.waits (by rfl) hold (by rfl) (by rfl) (fun _ => .inl rfl)) (by rfl) ?_
    exact hasWork_port jobs running
  unfold State.fetchFault
  split <;> exact port _ rfl rfl

/-- A block whose answer finds no place in the FIFO waits in the intake (R47). -/
theorem process_of_full {s : State} {k : Kind} {b : BlockBody} (accepted : s.refusal { kindCode := k.code, body := b } = none)
    (needs : 0 < s.placesOf k b) (full : 16 < s.port.fifo.length + s.placesOf k b) :
    s.process { kindCode := k.code, body := b } = { s with port := { s.port with waiting := some { kindCode := k.code, body := b } } } := by
  have needed : s.placesNeeded { kindCode := k.code, body := b } = s.placesOf k b := by
    rw [State.placesNeeded, accepted, kindOfCode_code]
  have lacks : s.lacksPlaces { kindCode := k.code, body := b } = true := by
    simp [State.lacksPlaces, needed, needs, Config.fifoPlaces, full]
  rw [State.process, lacks]
  rfl

end Sys2Proof.Machine

namespace Sys2Proof.Proofs
open Sys2Proof.Machine

/-- Settles O24: the outlet's three reads, the layout by the weights of joined bits, and the code tables. -/
theorem outletGivesWords : Obligations.OutletGivesWords := by
  unfold Obligations.OutletGivesWords
  intro s
  have read (power : s.powered = true) : exec .outletRead s = .next s.outletWord := live_of_powered power State.outletWord
  refine ⟨?_, ?_, ?_, ?_, by decide, by decide, by decide, by decide, by decide⟩
  · intro power empty
    rw [read power, State.outletWord, empty]
  · intro c cs power fifo early
    have more : s.port.readPos + 1 < Config.recordWords := by
      rw [show Config.recordWords = 6 from rfl]
      omega
    rw [read power, State.outletWord, fifo]
    exact congrArg _ (if_pos more)
  · intro c cs quiet fifo last
    have whole : ¬s.port.readPos + 1 < Config.recordWords := by
      rw [show Config.recordWords = 6 from rfl]
      omega
    let p : Port := { s.port with dataOut := c.word 5, fifo := cs, readPos := 0 }
    have settled : State.settle { s with port := p } = { s with port := p } := settle_quiet_port quiet rfl rfl
    have untaken : State.tryHeld { s with port := p } = { s with port := p } := by
      unfold State.tryHeld State.takeBlock
      rw [show ({ s with port := p } : State).port.waiting = none from quiet.intake]
      exact ite_self _
    have freed : s.placeFreed { s with port := p } = { s with port := p } := by
      unfold State.placeFreed
      rw [quiet.free]
      exact untaken
    rw [read quiet.powered, State.outletWord, fifo]
    dsimp only
    rw [if_neg whole, last]
    exact congrArg _ ((congrArg s.placeFreed settled).trans freed)
  · intro c flag
    exact ⟨word_zero c, word_one c flag (fun _ _ => rfl), word_two, rfl, rfl, rfl⟩

/-- Settles O38: the oldest entry leaves, or none, and the record takes the place. -/
theorem fetchFaultTakesTheOldest : Obligations.FetchFaultTakesTheOldest := by
  unfold Obligations.FetchFaultTakesTheOldest
  have accepted {s : State} {b : BlockBody} (quiet : Quiet s) (pass : PassesPlain s .fetchFault b) :
      s.refusal { kindCode := Kind.fetchFault.code, body := b } = none := refusal_of_plain pass quiet.staged
  have answered {s : State} {b : BlockBody} (quiet : Quiet s) (pass : PassesPlain s .fetchFault b) (room : s.port.fifo.length < 16) :
      exec (.fetchFault b) s = .next (s.blockTaken.fetchFault { kindCode := Kind.fetchFault.code, body := b }) :=
    (quiet.exec_accepted (accepted quiet pass) (.inr room)).trans (congrArg _ (quiet.fetchFault_settle _))
  refine ⟨?_, ?_, ?_⟩
  · intro s b e es quiet pass room oldest
    have flag : (s.faults.overflow && !es.isEmpty) = if es = [] then false else s.faults.overflow := by cases es <;> simp
    rw [answered quiet pass room, State.fetchFault, show s.blockTaken.faults.entries = e :: es from oldest, ← flag]
    rfl
  · intro s b quiet pass room empty
    rw [answered quiet pass room, State.fetchFault, show s.blockTaken.faults.entries = [] from empty]
    rfl
  · intro s b quiet pass full
    have passed := accepted quiet pass
    refine (exec_blockCommand .fetchFault b s quiet.powered).trans ?_
    rw [completeBlock_taken quiet.intake quiet.free]
    exact congrArg _ (process_of_full (s := s.blockTaken) passed Nat.zero_lt_one (Nat.lt_succ_of_le full))

/-- Settles O39: each joins the held requests with its job, which reads no frame, and the drive work stays as it is. -/
theorem reportAndConfigureAccepted : Obligations.ReportAndConfigureAccepted := by
  unfold Obligations.ReportAndConfigureAccepted
  constructor
  · intro s b quiet pass
    have accepted : s.refusal { kindCode := Kind.report.code, body := b } = none := refusal_of_plain pass quiet.staged
    have carried := quiet.blockTaken.acceptHeld_settle (k := .report) (b := b) rfl (fun t => .report t.reportWords) (fun _ _ => rfl)
    refine (quiet.exec_accepted accepted (.inl rfl)).trans ((congrArg _ carried).trans ?_)
    let r := loneRequest s .report b .running 0
    have reserved : (s.blockTaken.insert r).reservedCount = s.reservedCount := by
      rw [State.reservedCount, show (s.blockTaken.insert r).queue.held = s.queue.held ++ [r] from rfl, List.map_append, List.sum_append]
      rfl
    have held : (s.blockTaken.insert r).queue.held.length = s.queue.held.length + 1 := List.length_append
    have run : ({ loneRequest s.blockTaken .report b .waiting 0 with state := .running } : Request) = r := rfl
    rw [State.acceptHeld, draft_of_plain (s := s.blockTaken) quiet.staged rfl, run]
    dsimp only
    rw [State.reportWords, reserved, held]
    rfl
  · intro s b quiet pass unlocked none_
    have accepted : s.refusal { kindCode := Kind.configure.code, body := b } = none := by
      rw [refusal_of_plain pass quiet.staged]
      simp [State.immediateVerdict, unlocked, none_]
    have carried := quiet.blockTaken.acceptHeld_settle (k := .configure) (b := b) rfl (fun _ => .configure) (fun _ _ => rfl)
    refine (quiet.exec_accepted accepted (.inl rfl)).trans ((congrArg _ carried).trans ?_)
    rw [State.acceptHeld, draft_of_plain (s := s.blockTaken) quiet.staged rfl, State.insert, show s.blockTaken.queue.held = [] from none_]
    rfl

end Sys2Proof.Proofs
end

section
/-! PROOF. The end of one request among those held: what the end leaves, and what its posting takes up (R54, R55, R59, R60). -/

namespace Sys2Proof.Machine

/-! ### What the taking up of work leaves -/

/-- From `s` to `t` records have been posted and waiting requests taken up: no request has joined, jobs have been queued for held requests
alone, a FREE frame is FREE still, and neither words nor fault entries have moved. -/
structure Wakes (s t : State) : Prop where
  fifo    : s.port.fifo <+: t.port.fifo
  intake  : t.port.waiting = s.port.waiting
  words   : t.port.partialBlock = s.port.partialBlock
  moved   : t.port.dmaOut = s.port.dmaOut
  ids     : ∀ r ∈ t.queue.held, ∃ q ∈ s.queue.held, q.id = r.id
  jobs    : ∀ j ∈ t.allJobs, j ∈ s.allJobs ∨ ∃ q ∈ s.queue.held, q.id = j.req
  waits   : s.cache.waits = [] → t.cache.waits = []
  store   : t.cache.store = s.cache.store
  free    : ∀ g, s.frame g = Frame.free → t.frame g = Frame.free
  entries : t.faults.entries = s.faults.entries

theorem Wakes.refl (s : State) : Wakes s s :=
  ⟨List.prefix_refl _, rfl, rfl, rfl, fun r hr => ⟨r, hr, rfl⟩, fun _ hj => .inl hj, fun h => h, rfl, fun _ h => h, rfl⟩

theorem Wakes.trans {s t u : State} (h : Wakes s t) (g : Wakes t u) : Wakes s u where
  fifo := h.fifo.trans g.fifo
  intake := g.intake.trans h.intake
  words := g.words.trans h.words
  moved := g.moved.trans h.moved
  ids := fun r hr => by
    obtain ⟨q, hq, e⟩ := g.ids r hr
    obtain ⟨p, hp, d⟩ := h.ids q hq
    exact ⟨p, hp, d.trans e⟩
  jobs := fun j hj => by
    rcases g.jobs j hj with old | ⟨q, hq, e⟩
    · exact h.jobs j old
    · obtain ⟨p, hp, d⟩ := h.ids q hq
      exact .inr ⟨p, hp, d.trans e⟩
  waits := fun none_ => g.waits (h.waits none_)
  store := g.store.trans h.store
  free := fun n e => g.free n (h.free n e)
  entries := g.entries.trans h.entries

/-- A step that leaves the port, the held requests, the cache and the faults. -/
theorem Wakes.of_eq {s t : State} (port : t.port = s.port) (queue : t.queue = s.queue) (cache : t.cache = s.cache) (faults : t.faults = s.faults) :
    Wakes s t := by
  refine ⟨by rw [port], by rw [port], by rw [port], by rw [port], fun r hr => ⟨r, queue ▸ hr, rfl⟩, fun j hj => .inl ?_,
    by rw [cache]; exact id, by rw [cache], fun g e => ?_, by rw [faults]⟩
  · simpa [State.allJobs, port] using hj
  · rw [State.frame, cache]
    exact e

/-- Jobs, allocations and frames that leave with a request wake nothing. -/
theorem Sheds.wakes {id : Nat} {s t : State} (h : Sheds id s t) (intake : t.port.waiting = s.port.waiting)
    (words : t.port.partialBlock = s.port.partialBlock) (moved : t.port.dmaOut = s.port.dmaOut)
    (ids : t.queue.held.map (·.id) = s.queue.held.map (·.id))
    (jobs : ∀ j ∈ t.allJobs, j ∈ s.allJobs) : Wakes s t := by
  refine ⟨by rw [h.fifo], intake, words, moved, fun r hr => ?_, fun j hj => .inl (jobs j hj), h.waits, h.store, fun g e => ?_, h.entries⟩
  · have mem : r.id ∈ s.queue.held.map (·.id) := ids ▸ List.mem_map_of_mem hr
    obtain ⟨q, hq, e⟩ := List.mem_map.mp mem
    exact ⟨q, hq, e⟩
  · rcases h.frames g with same | ⟨-, free⟩
    · rw [same, e]
    · exact free

theorem modify_wakes (s : State) (id : Nat) {g : Request → Request} (same : ∀ q, (g q).id = q.id) : Wakes s (s.modify id g) :=
  (modify_sheds s id id g).wakes rfl rfl rfl (modify_ids s id g same) (fun _ hj => hj)

/-! ### The end of one request -/

/-- Among the held requests of `s` request `r` has entered FINISHED with the outcome, its record `c` waiting to be posted (R54). -/
structure Ended (s : State) (r : Request) (o : ReqOutcome) (c : Completion) (t : State) : Prop where
  sheds    : Sheds r.id s t
  held     : t.queue.held = s.queue.held.map (fun q => if q.id == r.id then q.finishedWith o else q)
  finished : t.queue.finished = s.queue.finished ++ [(r.id, c)]
  noJobs   : ∀ j ∈ t.allJobs, j ∈ s.allJobs ∧ j.isFor r.id = false
  cleared  : ∀ n, (t.frame n).unreadOf r.id = false
  intake   : t.port.waiting = s.port.waiting
  words    : t.port.partialBlock = s.port.partialBlock
  moved    : t.port.dmaOut = s.port.dmaOut

/-- The record of a request that enters FINISHED with the outcome (R67, R68). -/
def State.finishRecord (s : State) (r : Request) (o : ReqOutcome) : Completion :=
  r.record s.clock o (s.failureWords r o).1 (s.failureWords r o).2.1

theorem countLate_kept (s : State) : s.countLate.port.waiting = s.port.waiting
    ∧ s.countLate.port.partialBlock = s.port.partialBlock ∧ s.countLate.port.dmaOut = s.port.dmaOut := by
  unfold State.countLate State.raiseIf State.raise
  dsimp only
  repeat' split
  all_goals exact ⟨rfl, rfl, rfl⟩

theorem finished_ended (s : State) (r : Request) (o : ReqOutcome) : Ended s r o (s.finishRecord r o) (s.finished r o) := by
  let u := ((s.failureWords r o).2.2.dropJobs r.id).dropWaits r.id
  have left : Sheds r.id s (u.releaseOwned r.id) :=
    (((failureWords_sheds s r.id r o).trans (dropJobs_sheds _ _)).trans (dropWaits_sheds _ _)).trans (releaseOwned_sheds _ _)
  have all : Sheds r.id s (s.finished r o) :=
    (left.trans (modify_sheds _ r.id r.id _)).trans (sheds_of_same rfl rfl rfl rfl (fun _ hi => hi) rfl)
  have port : (s.finished r o).port = (s.dropJobs r.id).port := by
    simp [State.finished, State.dropJobs, State.modify, State.dropWaits]
  refine ⟨all, finished_held s r o, ?_, fun j hj => ?_, releaseOwned_clears u r.id, by rw [port]; rfl,
    by rw [port]; rfl, by rw [port]; rfl⟩
  · simp [State.finished, State.modify, State.finishRecord]
  · have mem : j ∈ (s.dropJobs r.id).allJobs := by simpa [State.allJobs, port] using hj
    rw [State.dropJobs, allJobs_filter] at mem
    simpa using List.mem_filter.mp mem

/-- A held request that is not FINISHED yet enters it (R54). -/
theorem finish_ended {s : State} {id : Nat} {r : Request} (hr : s.request id = some r) (open_ : r.state ≠ .finished) (o : ReqOutcome) :
    Ended s r o (s.finishRecord r o) (s.finish id o) := by
  have ended := finished_ended s r o
  rcases finish_of_open hr open_ o with e | e
  · rw [e]
    exact ended
  · rw [e]
    obtain ⟨intake, words, moved⟩ := countLate_kept (s.finished r o)
    refine ⟨ended.sheds.trans (countLate_sheds _ r.id), by rw [countLate_held]; exact ended.held,
      by rw [State.countLate_queue]; exact ended.finished,
      by rw [countLate_allJobs]; exact ended.noJobs, fun n => ?_, intake.trans ended.intake,
      words.trans ended.words, moved.trans ended.moved⟩
    rw [State.frame, State.countLate_cache]
    exact ended.cleared n

theorem Ended.wakes {s t : State} {r : Request} {o : ReqOutcome} {c : Completion} (h : Ended s r o c t) : Wakes s t := by
  refine h.sheds.wakes h.intake h.words h.moved ?_ (fun j hj => (h.noJobs j hj).1)
  rw [h.held, List.map_map]
  refine List.map_congr_left (fun q _ => ?_)
  simp only [Function.comp]
  split <;> rfl

theorem finish_wakes (s : State) (id : Nat) (o : ReqOutcome) : Wakes s (s.finish id o) := by
  by_cases open_ : ∃ r, s.request id = some r ∧ r.state ≠ .finished
  · obtain ⟨r, hr, open_⟩ := open_
    exact (finish_ended hr open_ o).wakes
  · have none_ : s.finish id o = s := by
      unfold State.finish
      split
      · rfl
      · next r hr => exact if_pos (by simpa using fun e => open_ ⟨r, hr, e⟩)
    rw [none_]
    exact .refl s

theorem endRequest_wakes (s : State) (id : Nat) (o : ReqOutcome) (a : Option SectorAddr) : Wakes s (s.endRequest id o a) := by
  cases hr : s.request id with
  | none =>
    simp only [State.endRequest, hr]
    exact .refl s
  | some r =>
    have fixed : Wakes s (s.fixOutcome r o a) := modify_wakes s r.id (fun _ => rfl)
    rw [endRequest_eq hr]
    split
    · have dropped : Sheds id (s.fixOutcome r o a) (((s.fixOutcome r o a).dropWaits id).releaseOwned id) :=
        (dropWaits_sheds _ id).trans (releaseOwned_sheds _ id)
      have port : (((s.fixOutcome r o a).dropWaits id).releaseOwned id).port = (s.fixOutcome r o a).port := by simp [State.dropWaits]
      refine (fixed.trans (dropped.wakes (by rw [port]) (by rw [port]) (by rw [port]) (by simp) (fun j hj => ?_))).trans
        (modify_wakes _ id (fun _ => rfl))
      simpa [State.allJobs, port] using hj
    · exact fixed.trans (finish_wakes _ _ _)

/-! ### The consultation -/

/-- A hit for a request that is held since `s`. -/
theorem hit_wakes {s t : State} (h : Wakes s t) {r : Request} (member : ∃ q ∈ s.queue.held, q.id = r.id) {f : Nat}
    (valid : (t.frame f).state = .valid) (i : Nat) : Wakes s (t.hit r i f) := by
  have marked : Wakes s (t.modify r.id (fun q => (q.markDone i .cache).useReserved)) :=
    h.trans (modify_wakes t r.id (fun q => markDone_id q i .cache))
  have touched : Wakes s ((t.modify r.id (fun q => (q.markDone i .cache).useReserved)).touch f) :=
    ⟨marked.fifo, marked.intake, marked.words, marked.moved, marked.ids, marked.jobs, marked.waits, marked.store, marked.free, marked.entries⟩
  unfold State.hit
  dsimp only
  split
  · refine ⟨touched.fifo, touched.intake, touched.words, touched.moved, touched.ids, touched.jobs, touched.waits, touched.store,
      fun g e => ?_, touched.entries⟩
    have before := touched.free g e
    rw [frame_of_set (s := (t.modify r.id (fun q => (q.markDone i .cache).useReserved)).touch f) (by rfl)]
    split
    · next same =>
      obtain ⟨rfl, -⟩ := same
      have free : (t.frame g).state = .free := congrArg Frame.state before
      rw [free] at valid
      cases valid
    · exact before
  · unfold State.queueDelivery
    split
    · exact touched
    · refine ⟨touched.fifo, touched.intake, touched.words, touched.moved, touched.ids, fun j hj => ?_, touched.waits,
        touched.store, touched.free, touched.entries⟩
      rw [queueJob_allJobs] at hj
      rcases List.mem_append.mp hj with old | new
      · exact touched.jobs j old
      · rw [List.mem_singleton.mp new]
        exact .inr member

theorem takeHits_wakes {s : State} {r : Request} (member : ∃ q ∈ s.queue.held, q.id = r.id) : Wakes s (s.takeHits r) := by
  suffices any : ∀ (l : List Nat) (t : State), Wakes s t → Wakes s (l.foldl (fun t i =>
      match t.validFrame (sectorAt r.addr.cyl i) with
      | some f => t.hit r i f
      | none => t) t) from any _ s (.refl s)
  intro l
  induction l with
  | nil => exact fun _ h => h
  | cons i l ih =>
    intro t h
    rw [List.foldl_cons]
    refine ih _ ?_
    split
    · next f found =>
      have valid : (t.frame f).state = .valid := by
        unfold State.validFrame at found
        simpa using (Option.filter_eq_some_iff.mp found).2
      exact hit_wakes h member valid i
    · exact h

theorem consult_wakes (s : State) (id : Nat) : Wakes s (s.consult id) := by
  unfold State.consult
  cases hr : s.request id with
  | none => exact .refl s
  | some r =>
    have taken : Wakes s (s.takeHits r) := takeHits_wakes ⟨r, List.mem_of_find?_eq_some hr, rfl⟩
    dsimp only
    split
    · split
      · exact taken.trans (endRequest_wakes _ _ _ _)
      · exact taken
    · exact .refl s

/-! ### Posting and sweeping -/

/-- The station right after the record of the finished request has entered the FIFO, the requests it held back apart. -/
def State.recordPlaced (s : State) (id : Nat) (c : Completion) : State :=
  { s with
    port := { s.port with fifo := s.port.fifo ++ [c] }
    queue := { s.queue with held := s.queue.held.filter (fun r => r.id != id), finished := s.queue.finished.filter (fun p => p.1 != id) } }

theorem recordPlaced_wakes (s : State) (id : Nat) (c : Completion) : Wakes s (s.recordPlaced id c) :=
  ⟨⟨[c], rfl⟩, rfl, rfl, rfl, fun r hr => ⟨r, List.mem_of_mem_filter hr, rfl⟩, fun _ hj => .inl hj, fun h => h, rfl, fun _ e => e, rfl⟩

/-- A record placed at processing wakes nothing. -/
theorem place_wakes (s : State) (c : Completion) : Wakes s (s.place c) :=
  ⟨⟨[c], rfl⟩, rfl, rfl, rfl, fun r hr => ⟨r, hr, rfl⟩, fun _ hj => .inl hj, fun h => h, rfl, fun _ e => e, rfl⟩

theorem consults_wakes (l : List Nat) (s : State) : Wakes s (l.foldl (fun u i => u.consult i) s) := by
  induction l generalizing s with
  | nil => exact .refl s
  | cons i l ih => exact (consult_wakes s i).trans (ih _)

/-- What follows the record's placing (R55, R60). -/
theorem postRecord_wakes (s : State) (id : Nat) (c : Completion) : Wakes (s.recordPlaced id c) (s.postRecord id c) := consults_wakes _ _

theorem postUpTo_wakes (s : State) (n : Nat) : Wakes s (s.postUpTo n) := by
  induction n generalizing s with
  | zero => exact .refl s
  | succ n ih =>
    unfold State.postUpTo
    repeat' split
    · exact .refl s
    · exact ((recordPlaced_wakes s _ _).trans (postRecord_wakes s _ _)).trans (ih _)
    · exact .refl s

theorem freeFrame_wakes (s : State) (f : Nat) : Wakes s (s.freeFrame f) := by
  refine ⟨by simp, by simp, by simp, by simp, fun r hr => ⟨r, by simpa using hr, rfl⟩,
    fun j hj => .inl (by simpa [State.allJobs] using hj), ?_, ?_, fun g e => ?_,
    by simp⟩
  · rw [freeFrame_eq]
    exact id
  · rw [freeFrame_eq]
    rfl
  · rw [freeFrame_frame, e, ite_self]

theorem sweep_wakes (s : State) : Wakes s s.sweep := by
  suffices any : ∀ (l : List Nat) (t : State), Wakes s t → Wakes s (l.foldl (fun t f => if t.spent f then t.freeFrame f else t) t) from
    any _ s (.refl s)
  intro l
  induction l with
  | nil => exact fun _ h => h
  | cons f l ih =>
    intro t h
    rw [List.foldl_cons]
    refine ih _ ?_
    split
    · exact h.trans (freeFrame_wakes t f)
    · exact h

theorem settleAccess_wakes (s : State) : Wakes s s.settleAccess := .of_eq (by simp) (by simp) (by simp) (by simp)

/-- With no allocation waiting, frames are swept and nothing more (R116). -/
theorem tidy_of_no_waits {s : State} (waits : s.cache.waits = []) : s.tidy = s.sweep := by
  unfold State.tidy
  exact serveWaits_of_nil s.sweep ((sweep_wakes s).waits waits)

/-! ### The first record that waits -/

/-- The first finished request, where none of its chain stands before it, is posted first (R55). -/
theorem post_first {s : State} {id : Nat} {c : Completion} {rest : List (Nat × Completion)} (finished : s.queue.finished = (id, c) :: rest)
    (room : s.port.fifo.length < 16) (first : s.postable id = true) : ∃ n, s.post = (s.postRecord id c).postUpTo n := by
  refine ⟨s.queue.held.length + rest.length, ?_⟩
  have found : s.queue.finished.find? (fun p => s.postable p.1) = some (id, c) := by simp [finished, first]
  have fuel : s.queue.held.length + s.queue.finished.length = s.queue.held.length + rest.length + 1 := by
    rw [finished, List.length_cons, Nat.add_assoc]
  rw [State.post, fuel, State.postUpTo, if_pos room, found]

/-- A request outside any chain waits for no other (R55). -/
theorem postable_of_alone {s : State} {id : Nat} (alone : ∀ r, s.request id = some r → r.chain = none) : s.postable id = true := by
  unfold State.postable
  split
  · rfl
  · next r hr =>
    have other (o : Request) : o.sameChain r = false := by
      rw [Request.sameChain, alone r hr]
      cases o.chain <;> rfl
    simp [other]

/-- The record of the first finished request enters the FIFO, and its place is free (R55). -/
theorem post_first_wakes {s : State} {id : Nat} {c : Completion} {rest : List (Nat × Completion)} (finished : s.queue.finished = (id, c) :: rest)
    (room : s.port.fifo.length < 16) (first : s.postable id = true) : Wakes (s.recordPlaced id c) s.post := by
  obtain ⟨n, posted⟩ := post_first finished room first
  rw [posted]
  exact (postRecord_wakes s id c).trans (postUpTo_wakes _ n)

/-- Behind the end of a request that stood alone its record is posted as the rest is taken up. -/
theorem settle_first_wakes {s : State} (waits : s.cache.waits = []) {id : Nat} {c : Completion} {rest : List (Nat × Completion)}
    (finished : s.queue.finished = (id, c) :: rest) (room : s.port.fifo.length < 16)
    (alone : ∀ r, s.request id = some r → r.chain = none) : Wakes (s.sweep.recordPlaced id c) s.settle := by
  have queue : s.sweep.queue = s.queue := by simp
  have first : s.sweep.postable id = true := postable_of_alone (by simpa [State.request, queue] using alone)
  unfold State.settle
  rw [tidy_of_no_waits waits]
  exact (post_first_wakes (by rw [queue, finished]) (by simpa using room) first).trans (settleAccess_wakes _)

/-! ### The allocations served -/

/-- On the way from `s` to `t` no record has been fixed or posted, and no request has changed its chain. -/
structure SameEnds (s t : State) : Prop where
  finished : t.queue.finished = s.queue.finished
  chains   : t.queue.held.map (fun r => (r.id, r.chain)) = s.queue.held.map (fun r => (r.id, r.chain))

theorem SameEnds.trans {s t u : State} (h : SameEnds s t) (g : SameEnds t u) : SameEnds s u :=
  ⟨g.finished.trans h.finished, g.chains.trans h.chains⟩

theorem useReserved_sameEnds (s : State) (id : Nat) : SameEnds s (s.modify id Request.useReserved) := by
  refine ⟨rfl, ?_⟩
  rw [modify_held, List.map_map]
  refine List.map_congr_left (fun r _ => ?_)
  simp only [Function.comp]
  split <;> rfl

theorem giveFrame_sameEnds (s : State) (w : AllocWait) (f : Nat) : SameEnds s (s.giveFrame w f) := by
  unfold State.giveFrame
  repeat' split
  · exact ⟨rfl, rfl⟩
  · exact ⟨rfl, rfl⟩
  · next r _ _ => exact ⟨rfl, (useReserved_sameEnds s r.id).chains⟩
  · next r _ _ => exact ⟨rfl, (useReserved_sameEnds s r.id).chains⟩

theorem serveList_sameEnds (s : State) (l : List AllocWait) : SameEnds s (s.serveList l) := by
  induction l generalizing s with
  | nil => exact ⟨rfl, rfl⟩
  | cons w ws ih =>
    unfold State.serveList
    split
    · exact ⟨rfl, rfl⟩
    · next f t h =>
      have queue := allocate_queue h
      have given : SameEnds s (t.giveFrame w f) := by
        obtain ⟨finished, chains⟩ := giveFrame_sameEnds t w f
        exact ⟨by rw [finished, queue], by rw [chains, queue]⟩
      exact given.trans (ih _)

theorem tidy_sameEnds (s : State) : SameEnds s s.tidy := by
  obtain ⟨finished, chains⟩ := serveList_sameEnds s.sweep s.sweep.cache.waits
  rw [State.sweep_queue] at finished chains
  exact ⟨finished, chains⟩

end Sys2Proof.Machine

namespace Sys2Proof.Proofs
open Sys2Proof.Machine

/-- Settles O25: the allocations served first change no record and no chain, so the first finished request is posted first. -/
theorem freedPlaceGoesToTheFirstFinished : Obligations.FreedPlaceGoesToTheFirstFinished := by
  unfold Obligations.FreedPlaceGoesToTheFirstFinished
  intro s id c rest power finished room alone
  refine ⟨s.settle, live_of_powered power State.settle, ?_⟩
  obtain ⟨same, chains⟩ := tidy_sameEnds s
  have outside : ∀ r ∈ s.tidy.queue.held, r.id = id → r.chain = none := by
    intro r hr e
    have mem : (r.id, r.chain) ∈ s.queue.held.map (fun r => (r.id, r.chain)) := chains ▸ List.mem_map_of_mem hr
    obtain ⟨q, hq, eq⟩ := List.mem_map.mp mem
    obtain ⟨ids, chain⟩ := Prod.mk.inj eq
    exact chain ▸ alone q hq (ids.trans e)
  have first : s.tidy.postable id = true :=
    postable_of_alone (fun r hr => outside r (List.mem_of_find?_eq_some hr) (request_id hr))
  have posted := post_first_wakes (same.trans finished) (by simpa using room) first
  have settled : Wakes (s.tidy.recordPlaced id c) s.settle := posted.trans (settleAccess_wakes _)
  constructor
  · have fifo : (s.tidy.recordPlaced id c).port.fifo = s.port.fifo ++ [c] := by rw [← tidy_fifo s]; rfl
    exact fifo ▸ settled.fifo
  · intro r hr e
    obtain ⟨q, hq, same_⟩ := settled.ids r hr
    exact absurd (same_.trans e) (by simpa using (List.mem_filter.mp hq).2)

end Sys2Proof.Proofs
end

section
/-! PROOF. A request that ended, its record posted among others; the CANCEL of a lone request (O36). -/

namespace Sys2Proof.Machine

/-- The request held in `s` has ended with record `c`, which is in the FIFO of `t` behind the others: it is held no more, no job and no
STAGED frame of it is left (R54, R55). -/
structure Gone (s : State) (r : Request) (c : Completion) (t : State) : Prop where
  fifo    : s.port.fifo ++ [c] <+: t.port.fifo
  held    : ∀ q ∈ t.queue.held, q.id ≠ r.id
  jobs    : ∀ j ∈ t.allJobs, j.isFor r.id = false
  frames  : ∀ g, (s.frame g).owner = some r.id → (s.frame g).state = .staged → t.frame g = Frame.free
  free    : ∀ g, s.frame g = Frame.free → t.frame g = Frame.free
  entries : t.faults.entries = s.faults.entries
  store   : t.cache.store = s.cache.store
  moved   : t.port.dmaOut = s.port.dmaOut
  intake  : t.port.waiting = s.port.waiting

theorem Ended.request {s u : State} {r : Request} {o : ReqOutcome} {c : Completion} (h : Ended s r o c u) (hr : s.request r.id = some r) :
    u.request r.id = some (r.finishedWith o) := by
  have same : u.request r.id = (s.modify r.id (·.finishedWith o)).request r.id := by
    simp only [State.request, h.held, modify_held]
  rw [same, request_modify hr (fun _ => by rfl)]

/-- What follows the posting of an ended request's record changes nothing of this, whatever frames were swept before. -/
theorem Ended.gone {s u v t : State} {r : Request} {o : ReqOutcome} {c : Completion} (h : Ended s r o c u) (swept : Wakes u v)
    (port : v.port = u.port) (after : Wakes (v.recordPlaced r.id c) t) : Gone s r c t := by
  have placed := recordPlaced_wakes v r.id c
  have all := ((h.wakes.trans swept).trans placed).trans after
  have left (q : Request) (hq : q ∈ (v.recordPlaced r.id c).queue.held) : q.id ≠ r.id := by simpa using (List.mem_filter.mp hq).2
  refine ⟨?_, fun q hq => ?_, fun j hj => ?_, fun g owner staged => ?_, all.free, all.entries, all.store, all.moved, all.intake⟩
  · have fifo : (v.recordPlaced r.id c).port.fifo = s.port.fifo ++ [c] := by rw [← h.sheds.fifo, ← port]; rfl
    exact fifo ▸ after.fifo
  · obtain ⟨p, hp, e⟩ := after.ids q hq
    exact e ▸ left p hp
  · rcases after.jobs j hj with old | ⟨q, hq, e⟩
    · refine (h.noJobs j ?_).2
      simpa [State.allJobs, State.recordPlaced, port] using old
    · have other : (j.req == r.id) = false := beq_eq_false_iff_ne.mpr (e ▸ left q hq)
      simp [Job.isFor, other]
  · have unread : (s.frame g).unreadOf r.id = true := by simp [Frame.unreadOf, owner, staged]
    refine after.free g (placed.free g (swept.free g ?_))
    rcases h.sheds.frames g with same | ⟨-, free⟩
    · have cleared := h.cleared g
      rw [same, unread] at cleared
      cases cleared
    · exact free

/-- At a station with no allocation waiting, everything taken up after a command (R55, R116). -/
theorem settle_wakes {s : State} (waits : s.cache.waits = []) : Wakes s s.settle := by
  unfold State.settle
  rw [tidy_of_no_waits waits]
  exact ((sweep_wakes s).trans (postUpTo_wakes _ _)).trans (settleAccess_wakes _)

/-- Where no other record waits, the one of a request ended outside any chain is posted as the rest is taken up. -/
theorem Ended.settles {s u : State} {r : Request} {o : ReqOutcome} {c : Completion} (h : Ended s r o c u) (waits : s.cache.waits = [])
    (finished : s.queue.finished = []) (hr : s.request r.id = some r) (chain : r.chain = none) (room : s.port.fifo.length < 16) :
    Gone s r c u.settle := by
  have record : u.queue.finished = (r.id, c) :: [] := by rw [h.finished, finished]; rfl
  have alone (q : Request) (hq : u.request r.id = some q) : q.chain = none := by
    rw [h.request hr] at hq
    cases hq
    exact chain
  exact h.gone (sweep_wakes u) (by simp)
    (settle_first_wakes (h.sheds.waits waits) record (by rw [h.sheds.fifo]; exact room) alone)

/-! ### The records of failures and of plain successes -/

/-- The words of a failure of a drive request (R68). -/
theorem finishRecord_of_failure (s : State) {r : Request} {o : ReqOutcome} (fails : o.isFailure = true) (drive : r.kind.isDrive = true) :
    (s.finishRecord r o).wordA = (r.failAt.getD r.firstUndone).word := by
  simp [State.finishRecord, State.failureWords, fails, drive, Request.record]

/-- A success other than an UPDATE's has no words (R68). -/
theorem finishRecord_of_done (s : State) {r : Request} (plain : r.kind ≠ .update) :
    (s.finishRecord r .done).wordA = 0 ∧ (s.finishRecord r .done).wordB = 0 := by
  simp [State.finishRecord, State.failureWords, ReqOutcome.isFailure, plain, Request.record]

end Sys2Proof.Machine

namespace Sys2Proof.Proofs
open Sys2Proof.Machine

/-- Settles O36: the target ends and is posted, and the CANCEL's own record follows. -/
theorem cancelWithdraws : Obligations.CancelWithdraws := by
  unfold Obligations.CancelWithdraws
  intro s b r quiet ids pass room found drive chain noFail state settled
  have accepted : s.refusal { kindCode := Kind.cancel.code, body := b } = none := by
    rw [refusal_of_plain pass quiet.staged]
    rcases state with e | e <;> simp [State.immediateVerdict, State.cancelVerdict, found, chain, drive, e, settled]
  have target : s.blockTaken.cancelTargets b = [r.id] := by
    have same : s.blockTaken.queue.held.find? (fun q => q.tag == b.opA.extractLsb' 0 8) = some r := found
    simp [State.cancelTargets, same, State.groupIds, State.group, chain]
  have places : s.port.fifo.length + s.blockTaken.placesOf .cancel b ≤ 16 := by
    rw [State.placesOf, target]
    exact room
  have open_ : r.state ≠ .finished := by rcases state with e | e <;> simp [e]
  have hr : s.blockTaken.request r.id = some r := request_of_mem (s := s) ids.unlike (List.mem_of_find?_eq_some found)
  let c := s.blockTaken.finishRecord r .cancelled
  let u := s.blockTaken.finish r.id .cancelled
  let v := u.postRecord r.id c
  have ended : Ended s.blockTaken r .cancelled c u := finish_ended hr open_ .cancelled
  have posted : u.postUpTo 1 = v := by
    have record : u.queue.finished = [(r.id, c)] := by rw [ended.finished, show s.blockTaken.queue.finished = [] from quiet.finished]; rfl
    have alone (q : Request) (hq : u.request r.id = some q) : q.chain = none := by
      rw [ended.request hr] at hq
      cases hq
      exact chain
    have found : u.queue.finished.find? (fun p => u.postable p.1) = some (r.id, c) := by simp [record, postable_of_alone alone]
    have fits : u.port.fifo.length < Config.fifoPlaces := by
      rw [ended.sheds.fifo]
      exact Nat.lt_of_succ_lt room
    rw [State.postUpTo, if_pos fits, found]
    rfl
  let w := v.place (v.answer { kindCode := Kind.cancel.code, body := b } .done .disk 0)
  have carried : s.blockTaken.carryOut .cancel { kindCode := Kind.cancel.code, body := b } = w.post := by
    unfold State.carryOut State.cancelTarget
    rw [target]
    exact congrArg (fun x : State => (x.place (x.answer { kindCode := Kind.cancel.code, body := b } .done .disk 0)).post) posted
  have answer : v.answer { kindCode := Kind.cancel.code, body := b } .done .disk 0 = plainRecord s .cancel b .done .disk 0 := by
    have clock : v.clock = s.clock := by simp [v, u]; rfl
    rw [State.answer, clock]
    rfl
  have placed : Wakes v w := place_wakes v _
  have waits : w.post.cache.waits = [] :=
    (postUpTo_wakes w _).waits ((postRecord_wakes u r.id c).waits (ended.sheds.waits quiet.waits))
  have after : Wakes w w.post.settle := (postUpTo_wakes w _).trans (settle_wakes waits)
  have gone := ended.gone (.refl u) rfl ((postRecord_wakes u r.id c).trans (placed.trans after))
  have fifo : w.port.fifo = s.port.fifo ++ [c, plainRecord s .cancel b .done .disk 0] := by
    change v.port.fifo ++ [_] = _
    rw [answer, postRecord_fifo, ended.sheds.fifo, List.append_assoc]
    rfl
  have unwritten : c.written = false := by simp [c, State.finishRecord, Request.record, ReqOutcome.isSuccess]
  refine ⟨w.post.settle, c, (quiet.exec_accepted accepted (.inr places)).trans (by rw [carried]), rfl, rfl, rfl, ?_, unwritten, rfl, ?_, rfl,
    fifo ▸ after.fifo, gone.held, gone.jobs, gone.frames, ?_, ?_, ?_, ?_⟩
  · simp [c, State.finishRecord, Request.record, Request.isLate]
  · rw [finishRecord_of_failure _ (by rfl) drive, noFail]
    rfl
  all_goals
    simp [w, v, u, State.place]
    rfl

end Sys2Proof.Proofs
end

section
/-! PROOF. The end of a whole chain and the posting of its records in submission order (O28). -/

namespace Sys2Proof.Machine

/-! ### Several ends -/

/-- The requests `ms` of `s` have entered FINISHED, each with the outcome that `f` gives it, their records `recs` waiting in that order
(R54). -/
structure EndedAll (s : State) (f : Request → ReqOutcome) (ms : List Request) (recs : List Completion) (t : State) : Prop where
  records  : List.Forall₂ (fun m c => ∃ u : State, c = u.finishRecord m (f m)) ms recs
  finished : t.queue.finished = s.queue.finished ++ (ms.map (·.id)).zip recs
  chains   : t.queue.held.map (fun r => (r.id, r.chain)) = s.queue.held.map (fun r => (r.id, r.chain))
  others   : ∀ id, id ∉ ms.map (·.id) → t.request id = s.request id
  wakes    : Wakes s t
  fifo     : t.port.fifo = s.port.fifo
  jobs     : ∀ j ∈ t.allJobs, j ∈ s.allJobs ∧ ∀ m ∈ ms, j.isFor m.id = false
  length   : t.cache.frames.length = s.cache.frames.length
  frames   : ∀ g, t.frame g = s.frame g ∨ t.frame g = Frame.free
  cleared  : ∀ m ∈ ms, ∀ g, (t.frame g).unreadOf m.id = false

theorem Ended.chains {s t : State} {r : Request} {o : ReqOutcome} {c : Completion} (h : Ended s r o c t) :
    t.queue.held.map (fun r => (r.id, r.chain)) = s.queue.held.map (fun r => (r.id, r.chain)) := by
  rw [h.held, List.map_map]
  refine List.map_congr_left (fun q _ => ?_)
  simp only [Function.comp]
  split <;> rfl

theorem Ended.request_other {s t : State} {r : Request} {o : ReqOutcome} {c : Completion} (h : Ended s r o c t) {id : Nat} (other : id ≠ r.id) :
    t.request id = s.request id := by
  have keeps : (fun q : Request => q.id == id) ∘ (fun q => if q.id == r.id then q.finishedWith o else q) = fun q => q.id == id := by
    funext q
    simp only [Function.comp]
    split <;> rfl
  rw [State.request, h.held, List.find?_map, keeps]
  unfold State.request
  cases found : s.queue.held.find? (fun q => q.id == id) with
  | none => rfl
  | some q =>
    have at_id : q.id = id := by simpa using List.find?_some found
    simp [at_id, other]

/-- FREE frames have no owner. -/
theorem not_unread_of_free {s : State} {g : Nat} (h : s.frame g = Frame.free) (id : Nat) : (s.frame g).unreadOf id = false := by
  rw [h]
  rfl

/-- Requests that are held under ids of their own enter FINISHED in turn. -/
theorem finishAll_endedAll (f : Request → ReqOutcome) {ms : List Request} : ∀ {s : State}, (∀ m ∈ ms, s.request m.id = some m) →
    (∀ m ∈ ms, m.state ≠ .finished) → (ms.map (·.id)).Nodup → ∃ recs, EndedAll s f ms recs (s.finishAll (ms.map (fun m => (m.id, f m)))) := by
  induction ms with
  | nil =>
    intro s _ _ _
    change ∃ recs, EndedAll s f [] recs s
    exact ⟨[], .nil, (List.append_nil _).symm, rfl, fun _ _ => rfl, .refl s, rfl, fun j hj => ⟨hj, fun _ h => absurd h List.not_mem_nil⟩, rfl,
      fun _ => .inl rfl, fun _ h => absurd h List.not_mem_nil⟩
  | cons m ms ih =>
    intro s there open_ unlike
    obtain ⟨notIn, unlike⟩ := List.nodup_cons.mp unlike
    have ended := finish_ended (there m List.mem_cons_self) (open_ m List.mem_cons_self) (f m)
    have later (p : Request) (hp : p ∈ ms) : (s.finish m.id (f m)).request p.id = some p := by
      have other : p.id ≠ m.id := fun e => notIn (List.mem_map.mpr ⟨p, hp, e⟩)
      rw [ended.request_other other]
      exact there p (List.mem_cons_of_mem m hp)
    obtain ⟨recs, rest⟩ := ih later (fun p hp => open_ p (List.mem_cons_of_mem m hp)) unlike
    refine ⟨s.finishRecord m (f m) :: recs, .cons ⟨s, rfl⟩ rest.records, ?_, rest.chains.trans ended.chains, fun id hid => ?_,
      ended.wakes.trans rest.wakes, rest.fifo.trans ended.sheds.fifo, fun j hj => ?_, rest.length.trans ended.sheds.length, fun g => ?_, ?_⟩
    · refine rest.finished.trans ?_
      rw [ended.finished, List.append_assoc]
      rfl
    · obtain ⟨first, others⟩ := not_or.mp (fun h => hid (List.mem_cons.mpr h))
      exact (rest.others id others).trans (ended.request_other first)
    · obtain ⟨old, none_⟩ := rest.jobs j hj
      obtain ⟨before, own⟩ := ended.noJobs j old
      exact ⟨before, List.forall_mem_cons.mpr ⟨own, none_⟩⟩
    · rcases rest.frames g with same | free
      · rcases ended.sheds.frames g with same₁ | ⟨-, free⟩
        · exact .inl (same.trans same₁)
        · exact .inr (same.trans free)
      · exact .inr free
    · refine List.forall_mem_cons.mpr ⟨fun g => ?_, rest.cleared⟩
      rcases rest.frames g with same | free
      · exact (congrArg (Frame.unreadOf · m.id) same).trans (ended.cleared g)
      · exact not_unread_of_free free m.id

/-- The STAGED frames of the requests are FREE. -/
theorem EndedAll.staged {s t : State} {f : Request → ReqOutcome} {ms : List Request} {recs : List Completion} (h : EndedAll s f ms recs t)
    {m : Request} (hm : m ∈ ms) {g : Nat} (owner : (s.frame g).owner = some m.id) (staged : (s.frame g).state = .staged) :
    t.frame g = Frame.free := by
  rcases h.frames g with same | free
  · have cleared := h.cleared m hm g
    rw [same] at cleared
    simp [Frame.unreadOf, owner, staged] at cleared
  · exact free

/-! ### Records posted in submission order -/

/-- The members of one chain do not block one another (R59, R149). -/
theorem blockedIds_of_chain {s : State} {c : Nat} (chain : ∀ r ∈ s.queue.held, r.chain = some c) : s.blockedIds = [] := by
  have none_ : s.queue.held.filter s.blocked = [] := by
    refine List.filter_eq_nil_iff.mpr (fun r hr => ?_)
    have free : ∀ o ∈ s.queue.held, o.blocks r = false := fun o ho => by
      simp [Request.blocks, Request.sameChain, chain o ho, chain r hr]
    simpa [State.blocked] using free
  rw [State.blockedIds, none_]
  rfl

/-- Where the held requests are the members of one chain and the records of the first of them wait in submission order, each is posted in
its turn (R55). -/
theorem postUpTo_chain {c : Nat} {xs : List (Nat × Completion)} : ∀ {s : State} {n : Nat}, s.queue.finished = xs →
    (∀ r ∈ s.queue.held, r.chain = some c) → s.queue.held.Pairwise (fun p q => p.id < q.id) →
    (s.queue.held.map (·.id)).take xs.length = xs.map Prod.fst → s.port.fifo.length + xs.length ≤ 16 → xs.length ≤ n →
    s.postUpTo n = { s with port := { s.port with fifo := s.port.fifo ++ xs.map Prod.snd }
                            queue := { s.queue with held := s.queue.held.drop xs.length, finished := [] } } := by
  induction xs with
  | nil =>
    intro s n finished _ _ _ _ _
    rw [postUpTo_of_nil s n finished]
    have same : s.queue = { s.queue with finished := [] } := by rw [← finished]
    simp only [List.map_nil, List.append_nil, List.length_nil, List.drop_zero]
    exact congrArg (fun q => ({ s with queue := q } : State)) same
  | cons x xs ih =>
    intro s n finished chain ascending ids room fuel
    obtain ⟨n, rfl⟩ : ∃ m, n = m + 1 := ⟨n - 1, by simp only [List.length_cons] at fuel; omega⟩
    cases held : s.queue.held with
    | nil => simp [held] at ids
    | cons h rest =>
      rw [held] at ids chain ascending
      obtain ⟨firstId, restIds⟩ : h.id = x.1 ∧ (rest.map (·.id)).take xs.length = xs.map Prod.fst := by simpa using ids
      obtain ⟨least, ascending⟩ := List.pairwise_cons.mp ascending
      have first : s.postable x.1 = true := by
        have there : s.request x.1 = some h := by simp [State.request, held, firstId]
        have older (o : Request) (ho : o ∈ s.queue.held) : h.id ≤ o.id := by
          rw [held] at ho
          rcases List.mem_cons.mp ho with rfl | later
          · exact le_refl _
          · exact (least o later).le
        rw [State.postable, there]
        simpa using fun o ho _ => older o ho
      have found : s.queue.finished.find? (fun p => s.postable p.1) = some x := by simp [finished, first]
      have left : s.queue.held.filter (fun r => r.id != x.1) = rest := by
        rw [held, List.filter_cons_of_neg (by simp [firstId])]
        refine List.filter_eq_self.mpr (fun r hr => ?_)
        have later := least r hr
        simp
        omega
      have records : s.queue.finished.filter (fun p => p.1 != x.1) = xs := by
        rw [finished, List.filter_cons_of_neg (by simp)]
        refine List.filter_eq_self.mpr (fun p hp => ?_)
        have mem : p.1 ∈ rest.map (·.id) := List.mem_of_mem_take (restIds ▸ List.mem_map_of_mem hp)
        obtain ⟨r, hr, e⟩ := List.mem_map.mp mem
        have later := least r hr
        simp
        omega
      let t : State := { s with port := { s.port with fifo := s.port.fifo ++ [x.2] }
                                queue := { s.queue with held := rest, finished := xs } }
      have posted : s.postRecord x.1 x.2 = t := by
        unfold State.postRecord
        rw [blockedIds_of_chain (c := c) (by rw [held]; exact chain), left, records]
        rfl
      have fits : s.port.fifo.length < Config.fifoPlaces := by
        simp only [List.length_cons] at room
        exact Nat.lt_of_lt_of_le (by omega) room
      rw [State.postUpTo, if_pos fits, found]
      dsimp only
      rw [posted, ih (s := t) rfl (fun r hr => chain r (List.mem_cons_of_mem h hr)) ascending restIds
        (by simp only [t, List.length_append, List.length_cons, List.length_nil] at room ⊢; omega)
        (by simp only [List.length_cons] at fuel; omega)]
      simp [t]

/-- The held requests of `s` are `ms`, the members of one chain in submission order. -/
structure OneChain (s : State) (c : Nat) (ms : List Request) : Prop where
  held      : s.queue.held = ms
  chain     : ∀ m ∈ ms, m.chain = some c
  ascending : ms.Pairwise (fun p q => p.id < q.id)
  open_     : ∀ m ∈ ms, m.state ≠ .finished
  finished  : s.queue.finished = []

/-- From `s` to `t` the members of the one chain held have ended and been posted in submission order, each with the outcome that `f` gives
it (R57, R148). -/
structure ChainGone (s : State) (f : Request → ReqOutcome) (ms : List Request) (recs : List Completion) (t : State) : Prop where
  records  : List.Forall₂ (fun m c => ∃ u : State, c = u.finishRecord m (f m)) ms recs
  fifo     : t.port.fifo = s.port.fifo ++ recs
  held     : t.queue.held = []
  finished : t.queue.finished = []
  jobs     : ∀ j ∈ t.allJobs, j ∈ s.allJobs ∧ ∀ m ∈ ms, j.isFor m.id = false
  staged   : ∀ m ∈ ms, ∀ g, (s.frame g).owner = some m.id → (s.frame g).state = .staged → t.frame g = Frame.free
  frames   : ∀ g, t.frame g = s.frame g ∨ t.frame g = Frame.free
  length   : t.cache.frames.length = s.cache.frames.length
  wakes    : Wakes s t

theorem OneChain.unlike {s : State} {c : Nat} {ms : List Request} (h : OneChain s c ms) : (ms.map (·.id)).Nodup :=
  List.Pairwise.map _ (fun _ _ hlt => hlt.ne) h.ascending

theorem OneChain.there {s : State} {c : Nat} {ms : List Request} (h : OneChain s c ms) : ∀ m ∈ ms, s.request m.id = some m :=
  fun _ hm => request_of_mem (by rw [h.held]; exact h.unlike) (h.held ▸ hm)

/-- The records of the one chain held are posted, whatever frames were swept before. -/
theorem OneChain.posted {s t v : State} {c : Nat} {ms : List Request} (h : OneChain s c ms) {f : Request → ReqOutcome} {recs : List Completion}
    (ended : EndedAll s f ms recs t) (swept : Wakes t v) (queue : v.queue = t.queue) (port : v.port = t.port)
    (length : v.cache.frames.length = t.cache.frames.length) (frames : ∀ g, v.frame g = t.frame g ∨ v.frame g = Frame.free)
    (room : s.port.fifo.length + ms.length ≤ 16) {n : Nat} (fuel : ms.length ≤ n) : ChainGone s f ms recs (v.postUpTo n) := by
  have count : ms.length = recs.length := ended.records.length_eq
  have waiting : v.queue.finished = (ms.map (·.id)).zip recs := by rw [queue, ended.finished, h.finished]; rfl
  have chains : v.queue.held.map (fun r => (r.id, r.chain)) = ms.map (fun r => (r.id, r.chain)) := by rw [queue, ended.chains, h.held]
  have ids : v.queue.held.map (·.id) = ms.map (·.id) := by
    simpa [Function.comp_def] using congrArg (List.map Prod.fst) chains
  have chain : ∀ r ∈ v.queue.held, r.chain = some c := fun r hr => by
    obtain ⟨m, hm, e⟩ := List.mem_map.mp (chains ▸ List.mem_map_of_mem hr : (r.id, r.chain) ∈ ms.map (fun r => (r.id, r.chain)))
    exact (Prod.mk.inj e).2 ▸ h.chain m hm
  have ascending : v.queue.held.Pairwise (fun p q => p.id < q.id) := by
    have mapped : (v.queue.held.map (·.id)).Pairwise (· < ·) := ids ▸ List.Pairwise.map _ (fun _ _ hlt => hlt) h.ascending
    exact List.pairwise_map.mp mapped
  have zipped : ((ms.map (·.id)).zip recs).length = ms.length := by simp [count]
  have fifo : v.port.fifo = s.port.fifo := by rw [port, ended.fifo]
  have posted := postUpTo_chain (n := n) waiting chain ascending
    (by rw [zipped, ids, List.map_fst_zip (by simp [count]), List.take_of_length_le (by simp)])
    (by rw [zipped, fifo]; exact room) (by rw [zipped]; exact fuel)
  have heldLength : v.queue.held.length = ms.length := by simpa using congrArg List.length ids
  have wakes : Wakes s (v.postUpTo n) := (ended.wakes.trans swept).trans (postUpTo_wakes v n)
  have records : ((ms.map (·.id)).zip recs).map Prod.snd = recs := List.map_snd_zip (by simp [count])
  have left (g : Nat) : v.frame g = s.frame g ∨ v.frame g = Frame.free := by
    rcases frames g with same | free
    · rw [same]
      exact ended.frames g
    · exact .inr free
  rw [zipped, records] at posted
  rw [posted] at wakes ⊢
  refine ⟨ended.records, by rw [← fifo], List.drop_of_length_le heldLength.le, rfl, fun j hj => ?_, fun m hm g owner staged => ?_, left,
    length.trans ended.length, wakes⟩
  · exact ended.jobs j (by simpa [State.allJobs, port] using hj)
  · exact swept.free g (ended.staged hm owner staged)

/-- Every member of the one chain held ends, and the records are posted. -/
theorem OneChain.gone {s : State} {c : Nat} {ms : List Request} (h : OneChain s c ms) (f : Request → ReqOutcome)
    (room : s.port.fifo.length + ms.length ≤ 16) {n : Nat} (fuel : ms.length ≤ n) :
    ∃ recs, ChainGone s f ms recs ((s.finishAll (ms.map (fun m => (m.id, f m)))).postUpTo n) := by
  obtain ⟨recs, ended⟩ := finishAll_endedAll f h.there h.open_ h.unlike
  exact ⟨recs, h.posted ended (.refl _) rfl rfl rfl (fun _ => .inl rfl) room fuel⟩

/-! ### A block refused while a chain is open -/

/-- A block refused with the staged members of its chain waiting: they end first, and its record follows (R47, R57, R148). -/
theorem OneChain.process_of_refused {s : State} {c : Nat} {ms : List Request} (h : OneChain s c ms) (staged : s.stagedMembers = ms) {blk : Block}
    {o : ReqOutcome} (refused : s.refusal blk = some o) (room : s.port.fifo.length + ms.length + 1 ≤ 16) :
    ∃ v recs, ChainGone s (fun m => m.mark.getD .chainAborted) ms recs v ∧ s.process blk = (v.place (v.answer blk o .disk 0)).settle
      ∧ v.clock = s.clock ∧ v.zones = s.zones ∧ v.cart = s.cart ∧ v.seq = s.seq ∧ v.drive = s.drive := by
  have needed : s.placesNeeded blk = 1 + ms.length := by simp [State.placesNeeded, refused, staged]
  have enough : s.lacksPlaces blk = false := by
    simp [State.lacksPlaces, needed, State.finishedWaiting, h.finished, Config.fifoPlaces]
    omega
  obtain ⟨recs, gone⟩ := h.gone (fun m => m.mark.getD .chainAborted) (by omega) (le_refl ms.length)
  refine ⟨_, recs, gone, ?_, by simp, by simp, by simp, by simp, by simp⟩
  rw [State.process, enough, if_neg Bool.false_ne_true, refused]
  refine congrArg State.settle ?_
  unfold State.refuse
  rw [staged]
  exact post_of_nil _ gone.finished

end Sys2Proof.Machine

namespace Sys2Proof.Proofs
open Sys2Proof.Machine

/-- Settles O28: a lone block by its record, one behind an open chain by the end of the whole chain. -/
theorem refusalLeavesOnlyARecord : Obligations.RefusalLeavesOnlyARecord := by
  unfold Obligations.RefusalLeavesOnlyARecord
  constructor
  · intro s k b o quiet room refused
    rw [exec_blockCommand k b s quiet.powered, quiet.completeBlock_refused room refused]
    rfl
  · intro s k b o ms c still intake held members ascending room refused
    have staged : s.stagedMembers = ms := by
      rw [State.stagedMembers, held]
      exact List.filter_eq_self.mpr (fun m hm => by simp [(members m hm).1])
    have free : s.configureHeld = false := by
      rw [State.configureHeld, held, List.any_eq_false]
      intro m hm
      obtain ⟨-, drive, -⟩ := members m hm
      cases kind : m.kind <;> simp_all [Kind.isDrive]
    have one : OneChain s.blockTaken c ms :=
      ⟨held, fun m hm => (members m hm).2.2, ascending, fun m hm => by simp [(members m hm).1], still.finished⟩
    obtain ⟨v, recs, gone, processed, clock, zones, cart, seq, drive⟩ := one.process_of_refused staged refused room
    let w := v.place (v.answer { kindCode := k.code, body := b } o .disk 0)
    have placed : Wakes v w := place_wakes v _
    have after : Wakes w w.settle := settle_wakes (gone.wakes.waits still.waits)
    have all : Wakes s.blockTaken w.settle := (gone.wakes.trans placed).trans after
    have settled : w.settle = w.sweep.settleAccess := settle_of_empty (gone.wakes.waits still.waits) gone.finished
    have answer : v.answer { kindCode := k.code, body := b } o .disk 0 = plainRecord s k b o .disk 0 := by
      rw [State.answer, clock]
      rfl
    have held : w.settle.queue.held = [] := by
      rw [settled]
      simpa [w, State.place] using gone.held
    refine ⟨w.settle, recs, ?_, ?_, ?_, held, ?_, ?_, fun m hm j hj => ?_, all.intake.trans intake, all.words, all.entries, ?_, ?_, ?_, ?_⟩
    · rw [exec_blockCommand k b s still.powered, completeBlock_taken intake free, processed]
    · refine gone.records.imp ?_
      rintro m d ⟨u, rfl⟩
      exact ⟨rfl, rfl, rfl, rfl⟩
    · rw [settled]
      simp only [State.settleAccess_port, State.sweep_port]
      change v.port.fifo ++ [_] = _
      rw [gone.fifo, answer]
      rfl
    · rw [settled]
      simpa [w, State.place] using gone.finished
    · intro m hm g owner staged
      exact after.free g (placed.free g (gone.staged m hm g owner staged))
    · rcases after.jobs j hj with old | ⟨q, hq, -⟩
      · exact (gone.jobs j old).2 m hm
      · have none_ : q ∈ v.queue.held := hq
        rw [gone.held] at none_
        cases none_
    all_goals simp [w, State.place, zones, cart, seq, drive, State.blockTaken]

end Sys2Proof.Proofs
end

section
/-! PROOF. The ends of the data channel's jobs (O41). -/

namespace Sys2Proof.Machine

/-! ### The channel -/

section Channel
variable {s : State} {j : Job} (power : s.powered = true) (running : s.port.running = some j) (ws : List Word)
include power running

theorem exec_dmaJobEnds : exec (.dmaJobEnds ws) s = .next (s.leftByConfigure (s.jobDone j ws).settle) := by
  refine (live_of_powered power (·.jobEnds ws)).trans (congrArg _ ?_)
  rw [State.jobEnds, running]

theorem exec_dmaNoAnswer (n : Nat) : exec (.dmaNoAnswer n ws) s = .next (s.leftByConfigure (s.jobRefused j n ws).settle) := by
  refine (live_of_powered power (·.jobStops n ws)).trans (congrArg _ ?_)
  rw [State.jobStops, running]

end Channel

/-- With no block in the intake a CONFIGURE's end leaves it to none (R168). -/
theorem leftByConfigure_of_free (s : State) {t : State} (free : t.port.waiting = none) : s.leftByConfigure t = t := by
  have taken : t.takeBlock = t := by rw [State.takeBlock, free]
  rw [State.leftByConfigure, taken, ite_self]

/-- The job that leaves the channel counts in the hold of the frame that it read (R116). -/
theorem hold_of_ended {s t : State} {j : Job} (running : s.port.running = some j) (free : t.port.running = none)
    (jobs : t.port.jobs = s.port.jobs) (f : Nat) : s.hold f = t.hold f + if j.delivers f = true then 1 else 0 := by
  simp only [State.hold, State.allJobs, running, free, jobs, Option.toList_some, Option.toList_none, List.nil_append, List.singleton_append,
    List.filter_cons]
  split <;> simp

/-- A sweep frees the frames that nothing reads any more, and those alone (R116). -/
theorem sweep_frame (s : State) (n : Nat) : s.sweep.frame n = if s.spent n = true then Frame.free else s.frame n := by
  let spent (f : Nat) (fr : Frame) : Bool :=
    s.hold f == 0 && ((fr.retiring && !s.refreshing f) || (fr.state == .filling && fr.filled))
  have swept := (foldl_frames (g := fun t f => if t.spent f then t.freeFrame f else t)
    (φ := fun f fr => if spent f fr = true then Frame.free else fr) (I := fun t => t.port = s.port ∧ t.seq = s.seq) (l := s.frameNumbers)
    List.nodup_range (fun t f _ same => by
      obtain ⟨port, seq⟩ := same
      have judged : t.spent f = spent f (t.frame f) := by
        simp only [State.spent, spent, State.refreshing, seq, hold_of_port (congrArg Port.running port) (congrArg Port.jobs port)]
      rw [judged]
      by_cases free : spent f (t.frame f) = true
      · exact ⟨by simp [free, port, seq], fun k => by simp [free, freeFrame_frame]⟩
      · exact ⟨by simp [free, port, seq], fun k => by by_cases e : k = f <;> simp [free, e]⟩) (s := s) ⟨rfl, rfl⟩).2 n
  refine swept.trans ?_
  by_cases inside : n < s.cache.frames.length
  · exact if_pos (by simpa [State.frameNumbers] using inside)
  · rw [frame_of_out (Nat.le_of_not_lt inside), ite_self, ite_self, ite_self]

/-! ### Held captures -/

/-- The monitor after a delivery from frame `f` has ended: an abandonment for the frame is over, and a capture held for it is dealt with
(R120, R138). -/
def Monitor.applied (m : Monitor) (f : Nat) (tenure : Bool) : Monitor :=
  (if m.abandonedFor = some f then { m with abandonedFor := none } else m).unheld tenure

/-- A capture held for the frame gives its words, or invalidates the frame (R120). -/
theorem applyHeld_of_held {s : State} {f : Nat} (held : s.monitor.heldFor = some f) : s.applyHeld f =
    if s.monitor.verdict = some .good then State.takeWords { s with monitor := s.monitor.applied f s.peerTenure } f (s.monitor.data.take 256)
    else State.invalidate { s with monitor := s.monitor.applied f s.peerTenure } f := by
  unfold State.applyHeld Monitor.applied
  by_cases abandoned : s.monitor.abandonedFor = some f
  · simp only [abandoned, if_true, held]
    rfl
  · simp only [abandoned, if_false, held, if_true]

/-- With no capture held for the frame at most an abandonment is over. -/
theorem applyHeld_of_other {s : State} {f : Nat} (other : s.monitor.heldFor ≠ some f) : ∃ m : Monitor, s.applyHeld f = { s with monitor := m } := by
  unfold State.applyHeld
  by_cases abandoned : s.monitor.abandonedFor = some f
  · exact ⟨{ s.monitor with abandonedFor := none }, by simp [abandoned, other]⟩
  · exact ⟨s.monitor, by simp [abandoned, other]⟩

theorem OnFrame.of_monitor {f : Nat} {s t : State} {m : Monitor} (h : OnFrame f { s with monitor := m } t) : OnFrame f s t :=
  ⟨h.only, h.waits, h.length, h.others⟩

theorem applyHeld_onFrame (s : State) (f : Nat) : OnFrame f s (s.applyHeld f) := by
  by_cases held : s.monitor.heldFor = some f
  · rw [applyHeld_of_held held]
    split
    · exact (takeWords_onFrame _ f _).of_monitor
    · exact (invalidate_onFrame _ f).of_monitor
  · obtain ⟨m, e⟩ := applyHeld_of_other held
    rw [e]
    exact ⟨rfl, rfl, rfl, fun _ _ => rfl⟩

/-- The monitor that leaves HOLDING (R138). -/
theorem applied_of_holding {m : Monitor} (holding : m.state = .holding) (f : Nat) (tenure : Bool) :
    (m.applied f tenure).state = (if tenure = true then .watching else .idle) ∧ (m.applied f tenure).heldFor = none
      ∧ (m.applied f tenure).header = [] ∧ (m.applied f tenure).data = [] ∧ (m.applied f tenure).arm = m.arm := by
  unfold Monitor.applied Monitor.unheld
  by_cases abandoned : m.abandonedFor = some f
  · simp [abandoned, holding, Monitor.emptied]
  · simp [abandoned, holding, Monitor.emptied]

/-! ### The ends by their kinds -/

/-- The last staging job of a lone write in STAGING (R53). -/
theorem jobDone_of_staging {s : State} {j : Job} {r : Request} {f i : Nat} (waits : s.cache.waits = []) (kind : j.kind = .staging f i)
    (own : j.orphan = false) (found : s.request j.req = some r) (staging : r.state = .staging) (alone : r.chain = none)
    (last : s.port.jobs.all (fun x => x.req != j.req) = true) (ws : List Word) :
    s.jobDone j ws = (s.putWords f ws).channelFree.modify j.req (fun q => { q with state := .waiting }) := by
  let p := (s.putWords f ws).channelFree
  have same : r.id = j.req := request_id found
  have jobs : p.allJobs.any (fun x => x.isFor j.req && x.isStaging) = false := by
    refine List.any_eq_false.mpr (fun x hx => ?_)
    have other : x.req ≠ j.req := by simpa using List.all_eq_true.mp last x hx
    simp [Job.isFor, other]
  have closed : p.stagingOpen j.req = false := by
    rw [State.stagingOpen, jobs, show p.cache.waits = [] from waits]
    rfl
  have group : p.groupIds r = [j.req] := by simp [State.groupIds, State.group, alone, same]
  have words : s.stageWords j f ws = s.putWords f ws := if_neg (by simp [own])
  have ended : p.stagingEnded j.req = p.modify j.req (fun q => { q with state := .waiting }) := by
    have there : p.request j.req = some r := found
    rw [State.stagingEnded, there]
    dsimp only
    rw [group, if_pos (by simp [staging, closed])]
    rfl
  rw [State.jobDone, kind]
  dsimp only
  rw [words, if_neg (by simp [own])]
  exact ended

/-- A delivery's end up to the request: the words moved, a held capture dealt with, the frames swept (R116, R120). -/
def State.delivered (s : State) (j : Job) (f : Nat) : State :=
  (((s.movedOut j.base (readFrame s.cache.store f)).channelFree.applyHeld f).sweep)

/-- It leaves all but the job, the words moved, the frames and the monitor. -/
theorem delivered_kept (s : State) (j : Job) (f : Nat) : (s.delivered j f).queue = s.queue
    ∧ (s.delivered j f).port = { s.port with
        running := none, dmaOut := (List.range' j.base 256).zip (readFrame s.cache.store f) }
    ∧ (s.delivered j f).faults = s.faults ∧ (s.delivered j f).zones = s.zones ∧ (s.delivered j f).cart = s.cart
    ∧ (s.delivered j f).seq = s.seq ∧ (s.delivered j f).drive = s.drive ∧ (s.delivered j f).clock = s.clock := by
  have only := (applyHeld_onFrame (s.movedOut j.base (readFrame s.cache.store f)).channelFree f).only
  have length := readFrame_length s.cache.store f
  unfold State.delivered
  simp only [State.sweep_queue, State.sweep_port, State.sweep_faults, State.sweep_zones, State.sweep_cart, State.sweep_seq, State.sweep_drive,
    State.sweep_clock]
  rw [only, State.movedOut, length]
  exact ⟨rfl, rfl, rfl, rfl, rfl, rfl, rfl, rfl⟩

theorem delivered_waits {s : State} (waits : s.cache.waits = []) (j : Job) (f : Nat) : (s.delivered j f).cache.waits = [] :=
  (sweep_wakes _).waits ((applyHeld_onFrame _ f).waits.trans waits)

/-- The last delivery job of a lone request in DELIVERING (R54). -/
theorem jobDone_of_last_delivery {s : State} {j : Job} {r : Request} {f i : Nat} (kind : j.kind = .delivery f i) (own : j.orphan = false)
    (found : s.request j.req = some r) (delivering : r.state = .delivering) (outcome : r.outcome = some .done)
    (last : s.port.jobs.all (fun x => x.req != j.req) = true) (ws : List Word) :
    s.jobDone j ws = (s.delivered j f).finish j.req .done := by
  obtain ⟨queue, port, -⟩ := delivered_kept s j f
  have quiet : (s.delivered j f).delivering j.req = false := by
    have jobs : (s.delivered j f).allJobs = s.port.jobs := by simp [State.allJobs, port]
    rw [State.delivering, jobs]
    refine List.any_eq_false.mpr (fun x hx => ?_)
    have other : x.req ≠ j.req := by simpa using List.all_eq_true.mp last x hx
    simp [Job.isFor, other]
  have there : (s.delivered j f).request j.req = some r := by rw [State.request, queue]; exact found
  rw [State.jobDone, kind]
  dsimp only
  rw [if_neg (by simp [own])]
  change (s.delivered j f).deliveryEnded j.req = _
  rw [State.deliveryEnded, there]
  dsimp only
  rw [if_pos (by simp [delivering, quiet]), outcome]
  rfl

/-- A delivery whose request does not wait for it, or is gone (R180). -/
theorem jobDone_of_delivery {s : State} {j : Job} {f i : Nat} (kind : j.kind = .delivery f i)
    (apart : j.orphan = true ∨ ∀ r, s.request j.req = some r → r.state ≠ .delivering) (ws : List Word) : s.jobDone j ws = s.delivered j f := by
  rw [State.jobDone, kind]
  dsimp only
  split
  · rfl
  · next own =>
    have still := apart.resolve_left own
    have queue := (delivered_kept s j f).1
    change (s.delivered j f).deliveryEnded j.req = _
    unfold State.deliveryEnded
    rw [State.request, queue]
    cases found : s.queue.held.find? (fun r => r.id == j.req) with
    | none => rfl
    | some r => exact if_neg (by simp [still r found])

/-- The station `u` behind the end of a delivery from frame `f`, which a capture is held for in `s`: the capture has given its words, or the
frame is invalidated, and nothing stands ready to be taken up (R119, R120, R138). -/
structure HeldApplied (s : State) (f : Nat) (u : State) : Prop where
  still   : Still u
  monitor : u.monitor = s.monitor.applied f s.peerTenure
  others  : ∀ n, n ≠ f → u.frame n = s.frame n
  words   : f < 64 → ∀ n, n ≠ f → readFrame u.cache.store n = readFrame s.cache.store n
  good    : s.monitor.verdict = some .good → (f < 64 → readFrame u.cache.store f = s.monitor.data.take 256)
    ∧ u.frame f = { s.frame f with state := .valid } ∧ (∀ e ∈ u.cache.refresh, e.frame ≠ f)
    ∧ u.cache.lru = s.cache.lru.filter (fun g => g != f) ++ [f]
  bad     : s.monitor.verdict ≠ some .good → u.cache.store = s.cache.store
    ∧ ((s.frame f).pinned = true → u.frame f = s.frame f ∧ ∃ e ∈ u.cache.refresh, e.frame = f)
    ∧ ((s.frame f).pinned = false → s.hold f = 1 → u.frame f = Frame.free)

/-- A VALID frame that has taken a capture's words is not spent. -/
theorem takeWords_still {b : State} (still : Still b) {f : Nat} (lt : f < b.cache.frames.length) (ws : List Word) : Still (b.takeWords f ws) := by
  have onFrame := takeWords_onFrame b f ws
  refine still.of_frames (by rfl) (by rfl) (by rfl) (by rfl) (by rfl) (by rfl) onFrame.length (fun n => ?_)
  by_cases e : n = f
  · subst e
    have taken := takeWords_frame lt ws
    exact .inr (not_spent_of_frame (by simp [taken]) (by simp [taken, Frame.retiring]))
  · exact .inl (onFrame.others n e)

/-- A directory frame invalidated is not spent. -/
theorem invalidate_still {b : State} (still : Still b) {f : Nat} (lt : f < b.cache.frames.length) (dir : (b.frame f).inDir = true) :
    Still (b.invalidate f) := by
  have onFrame := invalidate_onFrame b f
  have port : (b.invalidate f).port = b.port := by rw [onFrame.only]
  have hold (n : Nat) : (b.invalidate f).hold n = b.hold n := hold_of_port (by rw [port]) (by rw [port]) n
  refine still.of_frames (by rw [onFrame.only]) onFrame.waits (by rw [onFrame.only]) (by rw [port]) (by rw [port]) (by rw [onFrame.only])
    onFrame.length (fun n => ?_)
  by_cases e : n = f
  · subst e
    exact .inr ((invalidate_invalidated lt).not_spent dir hold)
  · exact .inl (onFrame.others n e)

/-- The station right after the end of a delivery from the frame that a capture is held for, the capture's words apart. -/
def State.deliveryOver (s : State) (j : Job) (f : Nat) : State :=
  { (s.movedOut j.base (readFrame s.cache.store f)).channelFree with monitor := s.monitor.applied f s.peerTenure }

section Over
variable {s : State} {j : Job} {f i : Nat} (running : s.port.running = some j) (kind : j.kind = .delivery f i)
include running kind

theorem deliveryOver_hold (n : Nat) : s.hold n = (s.deliveryOver j f).hold n + if f = n then 1 else 0 := by
  have counted := hold_of_ended (t := s.deliveryOver j f) running rfl rfl n
  simpa [Job.delivers, kind] using counted

/-- Only the frame that was read has lost a delivery. -/
theorem deliveryOver_still (still : Still s) (stale : (s.frame f).state = .stale) (dir : (s.frame f).inDir = true) :
    Still (s.deliveryOver j f) := by
  refine ⟨still.powered, still.waits, still.finished, fun n hn => ?_⟩
  have here : (s.deliveryOver j f).frame n = s.frame n := rfl
  by_cases e : f = n
  · subst e
    exact not_spent_of_frame (by simp [here, stale]) (by simp [here, Frame.retiring, dir])
  · have before := still.spent n hn
    have same := deliveryOver_hold running kind n
    rw [if_neg e, Nat.add_zero] at same
    rw [State.spent, same] at before
    exact before

end Over

/-- The end of a delivery from a STALE directory frame that a capture is held for (R120). -/
theorem delivered_heldApplied {s : State} {j : Job} {f i : Nat} (still : Still s) (store : StoreInv s) (running : s.port.running = some j)
    (kind : j.kind = .delivery f i) (stale : (s.frame f).state = .stale) (dir : (s.frame f).inDir = true)
    (holding : s.monitor.state = .holding) (held : s.monitor.heldFor = some f) (length : s.monitor.data.length = 257) :
    HeldApplied s f (s.delivered j f) := by
  let b := s.deliveryOver j f
  have lt : f < b.cache.frames.length := lt_of_frame (s := s) (by simp [stale])
  have bstill : Still b := deliveryOver_still running kind still stale dir
  have applied : s.delivered j f =
      (if s.monitor.verdict = some .good then b.takeWords f (s.monitor.data.take 256) else b.invalidate f).sweep :=
    congrArg State.sweep (applyHeld_of_held (s := (s.movedOut j.base (readFrame s.cache.store f)).channelFree) held)
  have unheld : b.monitor.heldFor ≠ some f := by
    rw [show b.monitor.heldFor = none from (applied_of_holding holding f s.peerTenure).2.1]
    exact nofun
  by_cases verdict : s.monitor.verdict = some .good
  · rw [if_pos verdict, sweep_of_unspent _ (takeWords_still bstill lt _).spent] at applied
    rw [applied]
    exact ⟨takeWords_still bstill lt _, rfl, (takeWords_onFrame b f _).others, fun inside n other => readFrame_writeFrame_other store inside _ other,
      fun _ => ⟨fun inside => readFrame_writeFrame_same store inside (by simp [length]), takeWords_frame lt _,
        fun e he => by simpa using (List.mem_filter.mp he).2, rfl⟩, fun bad => absurd verdict bad⟩
  · rw [if_neg verdict, sweep_of_unspent _ (invalidate_still bstill lt dir).spent] at applied
    rw [applied]
    have invalid : Invalidated f b (b.invalidate f) := invalidate_invalidated lt
    refine ⟨invalidate_still bstill lt dir, invalidate_monitor unheld, (invalidate_onFrame b f).others, fun _ n _ => by rw [invalidate_store]; rfl,
      fun good => absurd good verdict, fun _ => ⟨invalidate_store b f, fun pinned => ⟨?_, (invalid.pinned pinned).2⟩, fun unpinned one => ?_⟩⟩
    · rw [(invalid.pinned pinned).1, ← stale]
      rfl
    · have counted : s.hold f = b.hold f + if f = f then 1 else 0 := deliveryOver_hold running kind f
      rw [one, if_pos rfl] at counted
      exact invalid.freed unpinned (by omega)

end Sys2Proof.Machine

namespace Sys2Proof.Proofs
open Sys2Proof.Machine

/-- Settles O41: each kind of job by what its end leaves, and the records behind it. -/
theorem jobsEnd : Obligations.JobsEnd := by
  unfold Obligations.JobsEnd
  refine ⟨?_, ?_, ?_, ?_⟩
  · intro s j r f i ws still store intake running kind own inside length found staging alone last
    let t := (s.putWords f ws).channelFree.modify j.req (fun q => { q with state := .waiting })
    have hold (g : Nat) : t.hold g = s.hold g := by
      have counted := hold_of_ended (t := t) running rfl rfl g
      simpa [Job.delivers, kind] using counted.symm
    have rest : Still t := still.of_hold rfl still.waits rfl hold rfl rfl (fun _ => .inl rfl)
    have port : t.settleAccess.port = { s.port with running := none } := by rw [State.settleAccess_port]; rfl
    refine ⟨t.settleAccess, ?_, ?_, fun g other => ?_, ?_, port, ?_, ?_, ?_, ?_, ?_, ?_⟩
    · rw [exec_dmaJobEnds still.powered running, jobDone_of_staging still.waits kind own found staging alone last, settle_of_still rest,
        leftByConfigure_of_free s (by rw [port]; exact intake)]
    · rw [State.settleAccess_cache]
      exact readFrame_writeFrame_same store inside length
    · rw [State.settleAccess_cache]
      exact readFrame_writeFrame_other store inside ws other
    · rw [State.settleAccess_queue, show t.queue.held = _ from modify_held _ _ _]
      exact List.map_congr_left (fun q _ => by simp)
    all_goals
      simp
      rfl
  · intro s j r f i ws still intake running kind own found delivering outcome alone read last room
    have same : r.id = j.req := request_id found
    let p := s.delivered j f
    obtain ⟨queue, port, faults, zones, cart, seq, drive, clock⟩ := delivered_kept s j f
    have there : p.request j.req = some r := by rw [State.request, queue]; exact found
    have ended : Ended p r .done (p.finishRecord r .done) (p.finish j.req .done) := finish_ended there (by simp [delivering]) .done
    have gone := ended.settles (delivered_waits still.waits j f) (by rw [queue]; exact still.finished) (by rw [same]; exact there) alone
      (by rw [port]; exact room)
    obtain ⟨wordA, wordB⟩ := finishRecord_of_done p (r := r) (by simp [read])
    refine ⟨(p.finish j.req .done).settle, p.finishRecord r .done, ?_, ?_, rfl, rfl, rfl, wordA, wordB, ?_, ?_, ?_, gone.held, ?_, ?_, ?_, ?_, ?_⟩
    · rw [exec_dmaJobEnds still.powered running, jobDone_of_last_delivery kind own found delivering outcome last,
        leftByConfigure_of_free s (by rw [gone.intake, port]; exact intake)]
    · rw [gone.moved, port]
    · change p.clock.extractLsb' 0 16 = _
      rw [clock]
    · change r.isLate p.clock .done = _
      rw [clock, Request.isLate, show ReqOutcome.done != .expired from rfl, show ReqOutcome.done != .cancelled from rfl, Bool.and_true,
        Bool.and_true]
      rfl
    · rw [show s.port.fifo = p.port.fifo by rw [port]]
      exact gone.fifo
    · intro filling filled one other
      let a := (s.movedOut j.base (readFrame s.cache.store f)).channelFree
      obtain ⟨m, apart⟩ := applyHeld_of_other (s := a) other
      have unread : a.hold f = 0 := by
        have counted := hold_of_ended (t := a) running rfl rfl f
        simp only [Job.delivers, kind, beq_self_eq_true, if_true] at counted
        omega
      have spent : (a.applyHeld f).spent f = true := by
        rw [apart]
        have here : a.frame f = s.frame f := rfl
        change (a.hold f == 0 && (((a.frame f).retiring && !a.refreshing f) || ((a.frame f).state == .filling && (a.frame f).filled))) = true
        simp [unread, here, filling, filled]
      refine gone.free f ?_
      exact (sweep_frame (a.applyHeld f) f).trans (if_pos spent)
    all_goals simp [zones, cart, seq, drive, p]
  · intro s j r out ws still intake running kind found report state alone room
    have same : r.id = j.req := request_id found
    let p := (s.movedOut j.base out).channelFree
    have there : p.request j.req = some r := found
    have ended : Ended p r .done (p.finishRecord r .done) (p.finish j.req .done) := finish_ended there (by simp [state]) .done
    have gone := ended.settles still.waits still.finished (by rw [same]; exact there) alone room
    obtain ⟨wordA, wordB⟩ := finishRecord_of_done p (r := r) (by simp [report])
    refine ⟨(p.finish j.req .done).settle, p.finishRecord r .done, ?_, gone.moved, rfl, rfl, wordA, wordB, gone.fifo, gone.held, gone.entries,
      ?_, ?_, gone.store⟩
    · have done : s.jobDone j ws = p.finish j.req .done := by rw [State.jobDone, kind]
      rw [exec_dmaJobEnds still.powered running, done, leftByConfigure_of_free s (gone.intake.trans intake)]
    all_goals
      simp
      rfl
  · intro s j f i ws still store intake running kind apart inside frames stale dir holding held length
    have u := delivered_heldApplied still store running kind stale dir holding held length
    obtain ⟨mstate, mheld, mheader, mdata, marm⟩ := applied_of_holding holding f s.peerTenure
    obtain ⟨queue, port, -⟩ := delivered_kept s j f
    refine ⟨(s.delivered j f).settleAccess, ?_, ?_⟩
    · rw [exec_dmaJobEnds still.powered running, jobDone_of_delivery kind apart, settle_of_still u.still,
        leftByConfigure_of_free s (by rw [State.settleAccess_port, port]; exact intake)]
    · simp only [State.settleAccess_port, State.settleAccess_queue, State.settleAccess_monitor, State.settleAccess_cache, settleAccess_frame,
        port, queue, u.monitor]
      refine ⟨trivial, trivial, trivial, ?_, mheld, mheader, mdata, marm, fun g other => ⟨u.others g other, u.words inside g other⟩,
        fun verdict => ⟨(u.good verdict).1 inside, (u.good verdict).2⟩, u.bad⟩
      rw [mstate]
      simp [State.peerTenure]

end Sys2Proof.Proofs
end

section
/-! PROOF. Jobs that a memory does not answer (O43). -/

namespace Sys2Proof.Machine

theorem sweep_length (s : State) : s.sweep.cache.frames.length = s.cache.frames.length := by
  refine foldl_keeps (fun t => t.cache.frames.length) _ (fun t f => ?_) _ s
  split
  · rw [freeFrame_eq]
    simp [Cache.without]
  · rfl

/-- The one chain held ends as one, and its records are posted as the rest is taken up (R55, R148). -/
theorem OneChain.settles {s : State} {c : Nat} {ms : List Request} (h : OneChain s c ms) (waits : s.cache.waits = [])
    (f : Request → ReqOutcome) (room : s.port.fifo.length + ms.length ≤ 16) :
    ∃ recs, ChainGone s f ms recs (s.finishAll (ms.map (fun m => (m.id, f m)))).settle := by
  obtain ⟨recs, ended⟩ := finishAll_endedAll f h.there h.open_ h.unlike
  refine ⟨recs, ?_⟩
  let t := s.finishAll (ms.map (fun m => (m.id, f m)))
  have fuel : ms.length ≤ t.sweep.queue.held.length + t.sweep.queue.finished.length := by
    have held : t.queue.held.length = ms.length := by simpa [h.held] using congrArg List.length ended.chains
    rw [State.sweep_queue, held]
    exact Nat.le_add_right _ _
  have posted := h.posted ended (sweep_wakes t) (State.sweep_queue t) (State.sweep_port t) (sweep_length t)
    (fun g => (ite_eq_or_eq _ _ _).symm.imp (sweep_frame t g).trans (sweep_frame t g).trans) room fuel
  change ChainGone s f ms recs t.settle
  rw [State.settle, tidy_of_no_waits (ended.wakes.waits waits)]
  exact ⟨posted.records, by rw [State.settleAccess_port]; exact posted.fifo, by rw [State.settleAccess_queue]; exact posted.held,
    by rw [State.settleAccess_queue]; exact posted.finished,
    fun j hj => posted.jobs j (by rw [State.allJobs, State.settleAccess_port] at hj; exact hj),
    fun m hm g owner staged => by rw [settleAccess_frame]; exact posted.staged m hm g owner staged,
    fun g => by rw [settleAccess_frame]; exact posted.frames g, by rw [State.settleAccess_cache]; exact posted.length,
    posted.wakes.trans (settleAccess_wakes _)⟩

theorem forall₂_pair {P : Request → Completion → Prop} {p q : Request} {recs : List Completion} (h : List.Forall₂ P [p, q] recs) :
    ∃ c e, recs = [c, e] ∧ P p c ∧ P q e := by
  obtain _ | ⟨first, rest⟩ := h
  obtain _ | ⟨second, rest⟩ := rest
  cases rest
  exact ⟨_, _, rfl, first, second⟩

section Staging
variable {s : State} {j : Job} {f i : Nat} (kind : j.kind = .staging f i) (own : j.orphan = false) (n : Nat) (ws : List Word)
include kind own

/-- The words moved stand in the frame, and the request deals with the refusal (R148). -/
theorem jobRefused_staging : s.jobRefused j n ws = ((s.putWords f (ws.take n)).channelFree).stagingRefused j.req := by
  have words : s.stageWords j f (ws.take n) = s.putWords f (ws.take n) := if_neg (by simp [own])
  rw [State.jobRefused, kind]
  dsimp only
  rw [words, if_neg (by simp [own])]

end Staging

/-- A staging job holds no frame (R116). -/
theorem hold_of_staging {s t : State} {j : Job} {f i : Nat} (running : s.port.running = some j) (kind : j.kind = .staging f i)
    (free : t.port.running = none) (jobs : t.port.jobs = s.port.jobs) (n : Nat) : t.hold n = s.hold n := by
  have counted := hold_of_ended running free jobs n
  simpa [Job.delivers, kind] using counted.symm

/-- The member of an open chain is marked, its staging at an end (R148). -/
def State.markedRefused (s : State) (id : Nat) : State :=
  (((s.dropStaging id).dropWaits id).releaseOwned id).modify id (fun q => { q with mark := some (q.mark.getD .memoryError) })

theorem markedRefused_sheds (s : State) (id : Nat) : Sheds id s (s.markedRefused id) :=
  (((dropStaging_sheds s id).trans (dropWaits_sheds _ id)).trans (releaseOwned_sheds _ id)).trans (modify_sheds _ id id _)

theorem markedRefused_port (s : State) (id : Nat) : (s.markedRefused id).port = (s.dropStaging id).port := by
  simp [State.markedRefused, State.modify, State.dropWaits]

theorem markedRefused_held (s : State) (id : Nat) : (s.markedRefused id).queue.held =
    s.queue.held.map (fun q => if q.id == id then { q with mark := some (q.mark.getD .memoryError) } else q) := by
  rw [State.markedRefused, modify_held]
  simp [State.dropWaits]

theorem markedRefused_hold (s : State) (id n : Nat) : (s.markedRefused id).hold n = s.hold n := by
  have port := markedRefused_port s id
  exact (hold_of_port (by rw [port]) (by rw [port]) n).trans (dropStaging_hold s id n)

/-- The running READ whose delivery the memory has refused goes on (R100). -/
theorem deliveryRefused_of_running {s : State} {id : Nat} {r : Request} (found : s.request id = some r) (running : r.state = .running) (idx : Nat) :
    s.deliveryRefused id idx = (s.dropDeliveries id).modify id (fun q => { q with refusedAt := some idx }) := by
  rw [State.deliveryRefused, found]
  simp [running]

/-- A delivery of a running READ, no capture held: the jobs queued for it go, and the frames that nothing reads any more (R100, R116). -/
theorem jobRefused_of_reading {s : State} {j : Job} {r : Request} {f i : Nat} (kind : j.kind = .delivery f i) (own : j.orphan = false)
    (found : s.request j.req = some r) (state : r.state = .running) (unheld : s.monitor.heldFor = none) (n : Nat) (ws : List Word) :
    ∃ m : Monitor, s.jobRefused j n ws =
      ((State.dropDeliveries { (s.movedOut j.base ((readFrame s.cache.store f).take n)).channelFree with monitor := m } j.req).modify j.req
        (fun q => { q with refusedAt := some i })).sweep := by
  let a := (s.movedOut j.base ((readFrame s.cache.store f).take n)).channelFree
  obtain ⟨m, apart⟩ := applyHeld_of_other (s := a) (f := f) (by rw [show a.monitor.heldFor = none from unheld]; exact nofun)
  refine ⟨m, ?_⟩
  rw [State.jobRefused, kind]
  dsimp only
  rw [if_neg (by simp [own])]
  refine congrArg State.sweep ?_
  rw [← deliveryRefused_of_running (r := r) (by exact found) state i, ← apart]

/-- The chain of two with a write member whose staging the memory refuses (R148). -/
theorem jobRefused_of_chain {s : State} {j : Job} {p q : Request} {f i : Nat} (kind : j.kind = .staging f i) (own : j.orphan = false)
    (req : j.req = q.id) (held : s.queue.held = [p, q]) (older : p.id < q.id) (pchain : p.chain = some p.id) (qchain : q.chain = some p.id)
    (state : q.state = .staging) (n : Nat) (ws : List Word) :
    s.jobRefused j n ws = ((s.putWords f (ws.take n)).channelFree).finishAll
      ([p, q].map (fun m => (m.id, if m.id = q.id then .memoryError else .chainAborted))) := by
  let a := (s.putWords f (ws.take n)).channelFree
  have there : a.request q.id = some q := by simp [State.request, show a.queue.held = [p, q] from held, older.ne]
  have group : a.group q = [p, q] := by simp [State.group, qchain, show a.queue.held = [p, q] from held, pchain]
  rw [jobRefused_staging kind own, req]
  change a.stagingRefused q.id = _
  rw [State.stagingRefused, there]
  dsimp only
  rw [if_neg (by simp [state]), group]

/-- A member of an open chain (R148). -/
theorem jobRefused_of_member {s : State} {j : Job} {m : Request} {f i : Nat} (kind : j.kind = .staging f i) (own : j.orphan = false)
    (found : s.request j.req = some m) (state : m.state = .pendingChain) (n : Nat) (ws : List Word) :
    s.jobRefused j n ws = ((s.putWords f (ws.take n)).channelFree).markedRefused m.id := by
  have same : m.id = j.req := request_id found
  let a := (s.putWords f (ws.take n)).channelFree
  have there : a.request j.req = some m := found
  rw [jobRefused_staging kind own]
  change a.stagingRefused j.req = _
  rw [State.stagingRefused, there]
  dsimp only
  rw [if_pos state, ← same]
  rfl

theorem markedRefused_still {s : State} (still : Still s) (id : Nat) : Still (s.markedRefused id) := by
  have sheds := markedRefused_sheds s id
  refine still.of_hold (by rw [sheds.only]) (sheds.waits still.waits) ?_ (markedRefused_hold s id) (by rw [sheds.only]) sheds.length (fun g => ?_)
  · simp [State.markedRefused, State.modify, State.dropWaits]
  · rcases sheds.frames g with e | ⟨-, free⟩
    · exact .inl e
    · exact .inr (not_spent_of_free free)

theorem markedRefused_elsewhere (s : State) (id : Nat) :
    (s.markedRefused id).faults = s.faults ∧ (s.markedRefused id).zones = s.zones ∧ (s.markedRefused id).cart = s.cart
    ∧ (s.markedRefused id).seq = s.seq ∧ (s.markedRefused id).drive = s.drive := by
  refine ⟨?_, ?_, ?_, ?_, ?_⟩ <;> simp [State.markedRefused, State.modify, State.dropWaits]

/-- The frames of the marked member: the STAGED are FREE, those of others stand. -/
theorem markedRefused_frames (s : State) (id : Nat) :
    (∀ g, (s.frame g).owner = some id → (s.frame g).state = .staged → (s.markedRefused id).frame g = Frame.free)
    ∧ ∀ g, (s.frame g).owner ≠ some id → (s.markedRefused id).frame g = s.frame g := by
  have sheds := markedRefused_sheds s id
  refine ⟨fun g owner staged => ?_, fun g other => ?_⟩
  · rcases sheds.frames g with e | ⟨-, free⟩
    · have cleared : ((s.markedRefused id).frame g).unreadOf id = false := releaseOwned_clears _ id g
      rw [e] at cleared
      simp [Frame.unreadOf, owner, staged] at cleared
    · exact free
  · rcases sheds.frames g with e | ⟨unread, -⟩
    · exact e
    · have both : (s.frame g).owner == some id := (Bool.and_eq_true_iff.mp unread).1
      exact absurd (by simpa using both) other

end Sys2Proof.Machine

namespace Sys2Proof.Proofs
open Sys2Proof.Machine

/-- Settles O43: the request alone, its chain, its mark, or its deliveries, by the kind of job and the request's state. -/
theorem memoryDoesNotAnswer : Obligations.MemoryDoesNotAnswer := by
  unfold Obligations.MemoryDoesNotAnswer
  refine ⟨?_, ?_, ?_, ?_, ?_⟩
  · intro s j r n ws still intake running kind found held state alone room
    have same : r.id = j.req := request_id found
    obtain ⟨p, done, there, waits, finished, fifo, free, moved, entries, zones, cart⟩ : ∃ p : State,
        s.jobRefused j n ws = p.finish j.req .memoryError ∧ p.request j.req = some r ∧ p.cache.waits = [] ∧ p.queue.finished = []
        ∧ p.port.fifo = s.port.fifo ∧ p.port.waiting = none
        ∧ (∀ out, j.kind = .report out → p.port.dmaOut = (List.range' j.base (out.take n).length).zip (out.take n))
        ∧ p.faults = s.faults ∧ p.zones = s.zones ∧ p.cart = s.cart := by
      rcases kind with ⟨out, kind⟩ | kind
      · refine ⟨(s.movedOut j.base (out.take n)).channelFree, by rw [State.jobRefused, kind], found, still.waits, still.finished, rfl, intake,
          fun x hx => ?_, rfl, rfl, rfl⟩
        rw [kind] at hx
        cases hx
        rfl
      · refine ⟨s.channelFree, by rw [State.jobRefused, kind], found, still.waits, still.finished, rfl, intake,
          fun x hx => ?_, rfl, rfl, rfl⟩
        rw [kind] at hx
        cases hx
    have ended : Ended p r .memoryError (p.finishRecord r .memoryError) (p.finish j.req .memoryError) :=
      finish_ended there (by simp [state]) .memoryError
    have gone := ended.settles waits finished (by rw [same]; exact there) alone (by rw [fifo]; exact room)
    refine ⟨(p.finish j.req .memoryError).settle, p.finishRecord r .memoryError, ?_, rfl, rfl, fifo ▸ gone.fifo, gone.held, by simp [zones],
      gone.entries.trans (by rw [entries]), by simp [cart], fun out report => gone.moved.trans (moved out report)⟩
    rw [exec_dmaNoAnswer still.powered running, done, leftByConfigure_of_free s (gone.intake.trans free)]
  · intro s j r f i n ws still intake running kind own found write staging alone room
    have same : r.id = j.req := request_id found
    let p := (s.putWords f (ws.take n)).channelFree
    have there : p.request j.req = some r := found
    have ended : Ended p r .memoryError (p.finishRecord r .memoryError) (p.finish j.req .memoryError) :=
      finish_ended there (by simp [staging]) .memoryError
    have gone := ended.settles still.waits still.finished (by rw [same]; exact there) alone room
    have done : s.jobRefused j n ws = p.finish j.req .memoryError := by
      rw [jobRefused_staging kind own]
      change p.stagingRefused j.req = _
      rw [State.stagingRefused, there]
      simp [staging, State.group, alone, State.finishAll, same]
    refine ⟨(p.finish j.req .memoryError).settle, p.finishRecord r .memoryError, ?_, rfl, rfl, rfl, gone.fifo, gone.held, fun x hx => ?_,
      fun g _ owner staged => gone.frames g owner staged, gone.entries, ?_, ?_⟩
    · rw [exec_dmaNoAnswer still.powered running, done, leftByConfigure_of_free s (gone.intake.trans intake)]
    · exact gone.jobs x (List.mem_append_right _ hx)
    all_goals
      simp
      rfl
  · intro s j r f i n ws still intake running kind own found read state unheld
    obtain ⟨m, done⟩ := jobRefused_of_reading kind own found state unheld n ws
    let b : State := { (s.movedOut j.base ((readFrame s.cache.store f).take n)).channelFree with monitor := m }
    let u := (b.dropDeliveries j.req).modify j.req (fun q => { q with refusedAt := some i })
    have waits : u.sweep.cache.waits = [] := (sweep_wakes u).waits still.waits
    have settled : u.sweep.settle = u.sweep.sweep.settleAccess := settle_of_empty waits (by rw [State.sweep_queue]; exact still.finished)
    have port : u.sweep.settle.port = u.port := by rw [settled, State.settleAccess_port, State.sweep_port, State.sweep_port]
    have queue : u.sweep.settle.queue = u.queue := by rw [settled, State.settleAccess_queue, State.sweep_queue, State.sweep_queue]
    have faults : u.sweep.settle.faults = u.faults := by rw [settled, State.settleAccess_faults, State.sweep_faults, State.sweep_faults]
    refine ⟨u.sweep.settle, ?_, ?_, by rw [port]; rfl, by rw [port]; rfl, by rw [port]; rfl, by rw [port]; rfl,
      (settle_wakes waits).store.trans (sweep_wakes u).store, faults.trans (by simp [u, b]),
      by simp [u, b], by simp [u, b], fun v q x g refused => if_pos refused⟩
    · rw [exec_dmaNoAnswer still.powered running, done, leftByConfigure_of_free s (by rw [port]; exact intake)]
    · rw [queue, show u.queue.held = _ from modify_held _ _ _]
      exact List.map_congr_left (fun q _ => by simp)
  · intro s j p q f i n ws still intake running kind own req held older pchain qchain pdrive qwrite pstate qstate room
    let a := (s.putWords f (ws.take n)).channelFree
    let o (m : Request) : ReqOutcome := if m.id = q.id then .memoryError else .chainAborted
    have done : s.jobRefused j n ws = a.finishAll ([p, q].map (fun m => (m.id, o m))) :=
      jobRefused_of_chain kind own req held older pchain qchain qstate n ws
    have chain : OneChain a p.id [p, q] :=
      ⟨held, by simp [pchain, qchain], by simpa using older, by simp [pstate, qstate], still.finished⟩
    obtain ⟨recs, gone⟩ := chain.settles still.waits o room
    obtain ⟨c, e, rfl, ⟨u, rfl⟩, v, rfl⟩ := forall₂_pair gone.records
    have first : o p = .chainAborted := if_neg older.ne
    have second : o q = .memoryError := if_pos rfl
    refine ⟨_, _, _, ?_, rfl, first, rfl, second, gone.fifo, gone.held, fun x hx => ?_, fun g owner staged => ?_, gone.wakes.entries,
      by rw [State.settle_zones, State.finishAll_zones]; rfl, by rw [State.settle_cart, State.finishAll_cart]; rfl⟩
    · rw [exec_dmaNoAnswer still.powered running, done, leftByConfigure_of_free s (gone.wakes.intake.trans intake)]
    · obtain ⟨-, none_⟩ := gone.jobs x (List.mem_append_right _ hx)
      exact ⟨none_ p (by simp), none_ q (by simp)⟩
    · rcases owner with owner | owner
      · exact gone.staged p (by simp) g owner staged
      · exact gone.staged q (by simp) g owner staged
  · intro s j m f i n ws still intake running kind own found state
    let a := (s.putWords f (ws.take n)).channelFree
    have astill : Still a :=
      still.of_hold rfl still.waits rfl (hold_of_staging running kind rfl rfl) rfl rfl (fun _ => .inl rfl)
    have rest := markedRefused_still astill m.id
    have port := markedRefused_port a m.id
    obtain ⟨faults, zones, cart, seq, drive⟩ := markedRefused_elsewhere a m.id
    obtain ⟨staged, others⟩ := markedRefused_frames a m.id
    refine ⟨(a.markedRefused m.id).settleAccess, ?_, ?_, by rw [State.settleAccess_port, port]; rfl, by rw [State.settleAccess_port, port]; rfl,
      fun x hx mine => ?_, fun g owner free => (settleAccess_frame _ g).trans (staged g owner free),
      fun g other => (settleAccess_frame _ g).trans (others g other), ?_, ?_, ?_, ?_, ?_⟩
    · rw [exec_dmaNoAnswer still.powered running, jobRefused_of_member kind own found state, settle_of_still rest,
        leftByConfigure_of_free s (by rw [State.settleAccess_port, port]; exact intake)]
    · rw [State.settleAccess_queue, markedRefused_held]
      exact List.map_congr_left (fun q _ => by simp)
    · rw [State.settleAccess_port, port] at hx
      simpa [mine] using (List.mem_filter.mp hx).2
    · rw [State.settleAccess_faults, faults]
      rfl
    · rw [State.settleAccess_zones, zones]
      rfl
    · rw [State.settleAccess_cart, cart]
      rfl
    · rw [State.settleAccess_seq, seq]
      rfl
    · rw [State.settleAccess_drive, drive]
      rfl

end Sys2Proof.Proofs
end

section
/-! PROOF. What the cache serves at admission: the READ and the PIN whose sectors are all VALID (O32, O33). -/

namespace Sys2Proof.Machine

/-! ### The checks of a block that the cache serves -/

/-- No request on the cylinder holds the block back (R59). -/
theorem blocked_of_apart {s : State} {r : Request} (apart : ∀ o ∈ s.queue.held, o.addr.cyl ≠ r.addr.cyl) : s.blocked r = false := by
  rw [State.blocked, List.any_eq_false]
  intro o ho
  simp [Request.blocks, apart o ho]

/-- The sectors are all VALID (R50). -/
theorem allValid_of_frames {s : State} {b : BlockBody} {k : Kind} {g : Nat → Nat}
    (valid : ∀ i ∈ blockIndices b, s.validFrame (blockSector b i) = some (g i)) : s.allValid (s.draft k b) = true := by
  rw [State.allValid, List.all_eq_true]
  intro i hi
  have here := valid i hi
  exact Option.isSome_iff_exists.mpr ⟨g i, here⟩

/-- A drive block that the cache serves is refused neither for the cartridge's state nor for want of frames (R50, R51). -/
theorem refusal_of_served {s : State} {k : Kind} {b : BlockBody} (pass : Passes s k b) (staged : s.stagedMembers = [])
    (alone : b.continues = false) (served : (s.readServed k b || s.pinServed k b) = true)
    (slot : s.pinServed k b = true ∨ s.queue.held.length < 16) (pins : k = .pin → s.overPinLimit (s.draft k b) = false) :
    s.refusal { kindCode := k.code, body := b } = none := by
  have drive := pass.drive
  have operation : (k == .update && (opOfCode b.opCode).isNone) = false := by
    by_cases update : k = .update
    · rw [opOfCode_isSome (pass.operation update).1, Bool.and_false]
    · simp [update]
  have tag : s.queue.held.any (fun r => r.tag == b.tag) = false := by simpa [freshTag] using pass.tag
  have cached : (k == .pin && !s.zones.caches b.cyl.toNat) = false := by
    by_cases pin : k = .pin
    · simp [Zones.caches, pass.cached pin]
    · simp [pin]
  have full : ((k == .report || (k.isDrive && !s.pinServed k b)) && decide (Config.maxHeld ≤ s.queue.held.length)) = false := by
    have plain : (k == .report) = false := by cases k <;> simp_all [Kind.isDrive]
    rcases slot with pin | few
    · simp [plain, pin]
    · simp [Config.maxHeld, few]
  have limit : (k == .pin && s.overPinLimit (s.draft k b)) = false := by
    by_cases pin : k = .pin
    · rw [pins pin, Bool.and_false]
    · simp [pin]
  rw [refusal_of_drive drive]
  refine firstFailed_of_pass ?_
  simp only [State.checks, served, full, limit]
  simp [staged, State.inChain, alone, pass.configured, operation, condOfCode_isSome pass.condition, pass.badAddress, pass.badMemory, tag,
    pass.refusedNoWrite, cached, Config.maxChain]

/-! ### The PIN -/

/-- On the way from `s` to `t` the frames `g i` of the sectors in the list have been pinned, most recent (R111). -/
structure PinnedNow (s : State) (g : Nat → Nat) (l : List Nat) (t : State) : Prop where
  only   : t = { s with cache := { s.cache with lru := t.cache.lru, frames := t.cache.frames } }
  length : t.cache.frames.length = s.cache.frames.length
  frames : ∀ f, t.frame f = if f ∈ l.map g then { s.frame f with pinned := true } else s.frame f

section Pinned
variable {s t : State} {g : Nat → Nat} {l : List Nat} (h : PinnedNow s g l t)
include h

theorem PinnedNow.frame_eq (f : Nat) : ∃ p, t.frame f = { s.frame f with pinned := p } := by
  rw [h.frames f]
  split
  · exact ⟨true, rfl⟩
  · exact ⟨_, rfl⟩

theorem PinnedNow.validFrame (a : SectorAddr) : t.validFrame a = s.validFrame a := by
  have holds (n : Nat) : (t.frame n).holds a = (s.frame n).holds a := by
    obtain ⟨p, e⟩ := h.frame_eq n
    rw [e, Frame.holds, Frame.holds]
  have state (n : Nat) : (t.frame n).state = (s.frame n).state := by
    obtain ⟨p, e⟩ := h.frame_eq n
    rw [e]
  rw [State.validFrame, State.validFrame, dirFrame_congr h.length holds]
  simp only [state]

theorem PinnedNow.next {i : Nat} (inside : g i < s.cache.frames.length) :
    PinnedNow s g (l ++ [i]) ((t.setFrame (g i) { t.frame (g i) with pinned := true }).touch (g i)) := by
  have fits : g i < t.cache.frames.length := h.length ▸ inside
  refine ⟨by rw [h.only]; rfl, by simp [State.setFrame, State.touch, h.length], fun f => ?_⟩
  rw [frame_of_set (s := t) (f := g i) (by rfl), List.map_append, List.map_cons, List.map_nil]
  by_cases e : f = g i
  · subst e
    have mem : g i ∈ l.map g ++ [g i] := by simp
    rw [if_pos ⟨rfl, fits⟩, if_pos mem, h.frames]
    split <;> rfl
  · rw [if_neg (fun both => e both.1), h.frames f]
    simp [e]

theorem PinnedNow.still (still : Still s) : Still t := by
  have hold (f : Nat) : t.hold f = s.hold f := hold_of_port (by rw [h.only]) (by rw [h.only]) f
  refine ⟨by rw [h.only]; exact still.powered, by rw [h.only]; exact still.waits, by rw [h.only]; exact still.finished, fun f hf => ?_⟩
  obtain ⟨p, e⟩ := h.frame_eq f
  have before := still.spent f (by simpa [State.frameNumbers, h.length] using hf)
  have work : t.seq.work = s.seq.work := by rw [h.only]
  simpa [State.spent, State.refreshing, Frame.retiring, hold, e, work] using before

end Pinned

/-- A PIN carried out at processing pins the VALID frames of its sectors (R50, R111). -/
theorem pinNow_pinned {s : State} {r : Request} {g : Nat → Nat}
    (valid : ∀ i ∈ r.indices, s.validFrame (sectorAt r.addr.cyl i) = some (g i)) : PinnedNow s g r.indices (s.pinNow r) := by
  have run : ∀ (l done : List Nat) (t : State), (∀ i ∈ l, s.validFrame (sectorAt r.addr.cyl i) = some (g i)) → PinnedNow s g done t →
      PinnedNow s g (done ++ l) (l.foldl (fun t i =>
        match t.validFrame (sectorAt r.addr.cyl i) with
        | some f => (t.setFrame f { t.frame f with pinned := true }).touch f
        | none => t) t) := by
    intro l
    induction l with
    | nil => exact fun done t _ h => by simpa using h
    | cons i l ih =>
      intro done t each h
      have here := each i (by simp)
      have inside : g i < s.cache.frames.length := (dirFrame_spec (Option.mem_filter_iff.mp (here : g i ∈ s.validFrame _)).1).1
      rw [List.foldl_cons, h.validFrame, here]
      simpa using ih (done ++ [i]) _ (fun x hx => each x (by simp [hx])) (h.next inside)
  exact run r.indices [] s valid ⟨rfl, rfl, fun f => by simp⟩

/-! ### The READ -/

/-- The last request held. -/
theorem request_of_last {s : State} {before : List Request} {q : Request} (held : s.queue.held = before ++ [q])
    (fresh : ∀ p ∈ before, p.id ≠ q.id) : s.request q.id = some q := by
  have none_ : before.find? (fun p => p.id == q.id) = none := by simpa using fresh
  simp [State.request, held, List.find?_append, none_]

theorem modify_of_last {s : State} {before : List Request} {q : Request} (held : s.queue.held = before ++ [q])
    (fresh : ∀ p ∈ before, p.id ≠ q.id) (g : Request → Request) :
    s.modify q.id g = { s with queue := { s.queue with held := before ++ [g q] } } := by
  have others : before.map (fun p => if p.id == q.id then g p else p) = before :=
    (List.map_congr_left (fun p hp => by simp [fresh p hp])).trans (List.map_id before)
  rw [State.modify, held, List.map_append, others]
  simp

/-- The station with the sectors of the list taken for the last request held, a READ, the LRU order as given (R110). -/
def State.hitsTaken (s : State) (before : List Request) (r : Request) (hits lru : List Nat) : State :=
  { s with queue := { s.queue with held := before ++ [r.withHits hits] }
           port := { s.port with jobs := s.port.jobs ++ hits.map (s.hitJob r) }
           cache := { s.cache with lru := lru } }

section Hits
variable {s : State} {before : List Request} {r : Request} (fresh : ∀ p ∈ before, p.id ≠ r.id) (read : r.kind = .read)
  (going : r.refusedAt = none)
include fresh read going

theorem hit_hitsTaken {i f : Nat} (here : s.validFrame (sectorAt r.addr.cyl i) = some f) (hits lru : List Nat) :
    (s.hitsTaken before r hits lru).hit r i f = s.hitsTaken before r (hits ++ [i]) (lru.filter (· != f) ++ [f]) := by
  have job : s.hitJob r i = { req := r.id, orphan := false, kind := .delivery f i, base := r.sectorBase i } := by
    simp [State.hitJob, here]
  have marked := modify_of_last (s := s.hitsTaken before r hits lru) (q := r.withHits hits) rfl
    (fun p hp => by rw [withHits_id]; exact fresh p hp) (fun q => (q.markDone i .cache).useReserved)
  rw [withHits_id, ← withHits_append] at marked
  unfold State.hit
  rw [marked]
  dsimp only
  rw [if_neg (by simp [read]), State.queueDelivery, going, if_neg (by simp)]
  simp [State.hitsTaken, State.queueJob, State.touch, job]

/-- A READ all of whose sectors are VALID takes them in index order (R43, R110). -/
theorem takeHits_hitsTaken (held : s.queue.held = before ++ [r])
    (valid : ∀ i ∈ r.undone, (s.validFrame (sectorAt r.addr.cyl i)).isSome = true) :
    ∃ lru, s.takeHits r = s.hitsTaken before r r.undone lru := by
  have start : s = s.hitsTaken before r [] s.cache.lru := by
    simp only [State.hitsTaken, Request.withHits, List.foldl_nil, List.map_nil, List.append_nil, ← held]
  have run : ∀ (l hits lru : List Nat), (∀ i ∈ l, (s.validFrame (sectorAt r.addr.cyl i)).isSome = true) → ∃ lru', l.foldl (fun t idx =>
      match t.validFrame (sectorAt r.addr.cyl idx) with
      | some f => t.hit r idx f
      | none => t) (s.hitsTaken before r hits lru) = s.hitsTaken before r (hits ++ l) lru' := by
    intro l
    induction l with
    | nil => exact fun hits lru _ => ⟨lru, by simp⟩
    | cons i l ih =>
      intro hits lru each
      obtain ⟨f, here⟩ := Option.isSome_iff_exists.mp (each i (by simp))
      have same : (s.hitsTaken before r hits lru).validFrame (sectorAt r.addr.cyl i) = s.validFrame (sectorAt r.addr.cyl i) := rfl
      rw [List.foldl_cons, same, here]
      dsimp only
      rw [hit_hitsTaken fresh read going here]
      simpa using ih (hits ++ [i]) (lru.filter (· != f) ++ [f]) (fun x hx => each x (by simp [hx]))
  obtain ⟨lru, h⟩ := run r.undone [] s.cache.lru valid
  rw [← start] at h
  exact ⟨lru, h⟩

end Hits

/-- Deliveries queued leave no frame that nothing reads. -/
theorem Still.of_more_jobs {s t : State} (still : Still s) {js : List Job} (power : t.powered = s.powered) (waits : t.cache.waits = s.cache.waits)
    (finished : t.queue.finished = s.queue.finished) (running : t.port.running = s.port.running) (jobs : t.port.jobs = s.port.jobs ++ js)
    (work : t.seq.work = s.seq.work) (frames : t.cache.frames = s.cache.frames) : Still t := by
  refine ⟨power ▸ still.powered, waits ▸ still.waits, finished ▸ still.finished, fun f hf => ?_⟩
  by_cases read : t.hold f = 0
  · have all : t.allJobs = s.allJobs ++ js := by simp [State.allJobs, running, jobs]
    have unread : s.hold f = 0 := by
      rw [State.hold, all, List.filter_append, List.length_append] at read
      exact Nat.eq_zero_of_add_eq_zero_right read
    have before := still.spent f (by simpa [State.frameNumbers, frames] using hf)
    have same : t.frame f = s.frame f := by rw [State.frame, frames]; rfl
    simp only [State.spent, State.refreshing, unread] at before
    simp only [State.spent, State.refreshing, read, same, work]
    exact before
  · exact not_spent_of_hold read

/-- A request that has promised no pin promises none after its hits (R117). -/
theorem withHits_promised {r : Request} (none_ : r.promised = []) (hits : List Nat) : (r.withHits hits).promised = [] := by
  induction hits using List.reverseRecOn with
  | nil => exact none_
  | append_singleton hits i ih =>
    rw [withHits_append, Request.useReserved]
    unfold Request.markDone
    split
    · exact ih
    · simp [ih]

/-- The station with every sector of the last request held, a READ, taken from the cache, and its deliveries outstanding (R54, R110). -/
def State.servedRead (s : State) (before : List Request) (r : Request) (lru : List Nat) : State :=
  { s.hitsTaken before r r.undone lru with queue := { s.queue with
      held := before ++ [{ (r.withHits r.undone).fixed .done none CondFlags.clear with state := .delivering }] } }

/-- A READ that the cache serves awaits its deliveries alone (R53, R79, R110). -/
theorem consult_of_served {s : State} {before : List Request} {r : Request} (held : s.queue.held = before ++ [r])
    (fresh : ∀ p ∈ before, p.id ≠ r.id) (read : r.kind = .read) (waiting : r.state = .waiting) (alone : r.chain = none)
    (around : r.bypass = false) (going : r.refusedAt = none) (apart : ∀ o ∈ before, o.addr.cyl ≠ r.addr.cyl) (waits : s.cache.waits = [])
    (unowned : ∀ fr ∈ s.cache.frames, fr.owner ≠ some r.id) (some_ : r.undone ≠ [])
    (valid : ∀ i ∈ r.undone, (s.validFrame (sectorAt r.addr.cyl i)).isSome = true) :
    ∃ lru, s.consult r.id = s.servedRead before r lru := by
  obtain ⟨lru, taken⟩ := takeHits_hitsTaken fresh read going held valid
  refine ⟨lru, ?_⟩
  let q := r.withHits r.undone
  let t := s.hitsTaken before r r.undone lru
  have same : q.id = r.id := withHits_id r _
  have freshq : ∀ p ∈ before, p.id ≠ q.id := fun p hp => same ▸ fresh p hp
  have there : t.request q.id = some q := request_of_last rfl freshq
  have consults : s.consults r = true := by
    have free : s.blocked r = false := by
      rw [State.blocked, held, List.any_append, Bool.or_eq_false_iff, List.any_eq_false]
      exact ⟨fun o ho => by simp [Request.blocks, apart o ho], by simp [Request.blocks]⟩
    simp [State.consults, waiting, alone, read, around, free]
  have all : q.undone = [] := by
    have none_ := (withHits_undone r (p := fun _ => true)).mpr (by simp)
    simpa [q] using none_
  have done : t.allDone r.id = true := by simp [State.allDone, ← same, there, all]
  have kind : q.kind = .read := by rw [show q = r.withHits r.undone from rfl, withHits_only]; exact read
  have chain : q.chain = none := by rw [show q = r.withHits r.undone from rfl, withHits_only]; exact alone
  have refused : q.refusedAt = none := by rw [show q = r.withHits r.undone from rfl, withHits_only]; exact going
  let v : State := { t with queue := { t.queue with held := before ++ [q.fixed .done none CondFlags.clear] } }
  have fixed : t.fixOutcome q .done none = v := by
    rw [State.fixOutcome, modify_of_last rfl freshq]
    simp [v, Request.endOutcome, Request.endAddr, Request.refusal, refused, kind, chain, ReqOutcome.isSuccess]
  have outstanding : v.delivering r.id = true := by
    obtain ⟨i, rest, e⟩ := List.exists_cons_of_ne_nil some_
    have job : s.hitJob r i ∈ v.allJobs := by simp [State.allJobs, v, t, State.hitsTaken, e]
    exact (delivering_iff v r.id).mpr ⟨_, job, by simp [State.hitJob, Job.isFor], rfl⟩
  have ended : t.endRequest r.id .done none = s.servedRead before r lru := by
    rw [← same, endRequest_eq there, fixed, if_pos (by rw [same]; exact outstanding), dropWaits_of_none (by exact waits),
      releaseOwned_of_none (by rw [same]; exact unowned), show q.id = (q.fixed .done none CondFlags.clear).id from rfl,
      modify_of_last (s := v) rfl freshq]
    rfl
  rw [State.consult, request_of_last held fresh]
  dsimp only
  rw [if_pos consults, taken, if_pos done, ended]

/-- The record of the READ that is served at admission (R50, R69). -/
theorem delivered_fields {s : State} {b : BlockBody} (some_ : (loneRequest s .read b .waiting 0).undone ≠ []) :
    let r := loneRequest s .read b .waiting 0
    { (r.withHits r.undone).fixed .done none CondFlags.clear with state := .delivering } =
      { loneRequest s .read b .delivering 0 with done := r.undone, source := some .cache, outcome := some .done } := by
  intro r
  have done := withHits_done r (undone_nodup r) (fun i hi => undone_not_done hi)
  have source := withHits_source r (undone_nodup r) (fun i hi => undone_not_done hi)
  rw [if_neg some_, if_pos (.inl rfl)] at source
  have reserved : (r.withHits r.undone).reserved = 0 := by rw [withHits_reserved]; exact Nat.zero_sub _
  have promised : (r.withHits r.undone).promised = [] := withHits_promised rfl _
  rw [withHits_only, done, source, reserved, promised]
  rfl

end Sys2Proof.Machine

namespace Sys2Proof.Proofs
open Sys2Proof.Machine

/-- Settles O33: the checks behind that of the deadline pass a PIN that the cache serves, and its frames are pinned in turn. -/
theorem pinServedAtProcessing : Obligations.PinServedAtProcessing := by
  unfold Obligations.PinServedAtProcessing
  intro s b g quiet pass room alone apart valid fresh spare limit
  let p := s.blockTaken
  have within : p.overPinLimit (p.draft .pin b) = false := by
    rw [State.overPinLimit, decide_eq_false_iff_not]
    exact not_lt.mpr limit
  have served : p.pinServed .pin b = true := by
    have free : p.blocked (p.draft .pin b) = false := blocked_of_apart (s := p) (r := p.draft .pin b) apart
    have all : p.allValid (p.draft .pin b) = true := allValid_of_frames (s := p) valid
    have promise : p.canPromise (p.unpinnedSectors (p.draft .pin b)).length = true := by
      rw [State.canPromise, decide_eq_true_eq]
      exact spare
    simp [State.pinServed, free, all, promise, within]
  have accepted : s.refusal { kindCode := Kind.pin.code, body := b } = none := by
    have passed : Passes p .pin b := { pass with }
    have none_ : p.refusal { kindCode := Kind.pin.code, body := b } = none :=
      refusal_of_served passed quiet.staged alone (by simp [served]) (.inl served) (fun _ => within)
    exact none_
  have places : s.port.fifo.length + p.placesOf .pin b ≤ 16 := by
    rw [State.placesOf, if_pos served]
    exact room
  let t := p.pinNow (p.draft .pin b)
  have pinned : PinnedNow p g (blockIndices b) t := pinNow_pinned (s := p) (r := p.draft .pin b) valid
  let u := t.place (p.answer { kindCode := Kind.pin.code, body := b } .done .cache b.count.toNat)
  have carried : p.carryOut .pin { kindCode := Kind.pin.code, body := b } = u := by
    rw [State.carryOut]
    exact if_pos served
  have rest : Still u := (pinned.still quiet.blockTaken.toStill).of_records (by rfl) (by rfl) (by rfl) (by rfl) (by rfl) (by rfl)
  refine ⟨u.settleAccess, ?_, ?_, ?_, fun i hi => ?_, fun f other => ?_, ?_, ?_, ?_, ?_, ?_⟩
  · refine (quiet.exec_accepted accepted (.inr places)).trans ?_
    rw [carried, settle_of_still rest]
  · have port : t.port = p.port := by rw [pinned.only]
    rw [State.settleAccess_port]
    change { t.port with fifo := t.port.fifo ++ [p.answer { kindCode := Kind.pin.code, body := b } .done .cache b.count.toNat] } = _
    rw [port]
    rfl
  · rw [State.settleAccess_queue, show u.queue = t.queue from rfl, pinned.only]
    rfl
  · rw [settleAccess_frame]
    exact (pinned.frames (g i)).trans (if_pos (List.mem_map_of_mem hi))
  · rw [settleAccess_frame]
    refine (pinned.frames f).trans (if_neg ?_)
    simpa using other
  · rw [State.settleAccess_cache, show u.cache = t.cache from rfl, pinned.only]
    rfl
  · rw [State.settleAccess_faults, show u.faults = t.faults from rfl, pinned.only]
    rfl
  · rw [State.settleAccess_zones, show u.zones = t.zones from rfl, pinned.only]
    rfl
  · rw [State.settleAccess_cart, show u.cart = t.cart from rfl, pinned.only]
    rfl
  · rw [State.settleAccess_seq, show u.seq = t.seq from rfl, pinned.only]
    rfl

/-- Settles O32: the READ takes every sector from the cache as it is accepted, and waits for its deliveries alone. -/
theorem readServedAtAdmission : Obligations.ReadServedAtAdmission := by
  unfold Obligations.ReadServedAtAdmission
  intro s b g quiet fresh pass slot around alone apart valid
  let p := s.blockTaken
  have plain : p.pinServed .read b = false := pinServed_of_other (by simp) b
  have draft : p.draft .read b = loneRequest s .read b .waiting 0 := draft_of_alone (s := p) quiet.staged alone
  have served : p.readServed .read b = true := by
    have free : p.blocked (p.draft .read b) = false := blocked_of_apart (s := p) (r := p.draft .read b) apart
    have all : p.allValid (p.draft .read b) = true := allValid_of_frames (s := p) valid
    rw [State.readServed, free, all, draft, around]
    rfl
  have accepted : s.refusal { kindCode := Kind.read.code, body := b } = none := by
    have passed : Passes p .read b := { pass with }
    have none_ : p.refusal { kindCode := Kind.read.code, body := b } = none :=
      refusal_of_served passed quiet.staged alone (by simp [served]) (.inr slot) nofun
    exact none_
  have places : p.placesOf .read b = 0 := by
    have unmarked : p.closesMarked b = false := by simp [State.closesMarked, show p.stagedMembers = [] from quiet.staged]
    simp [State.placesOf, plain, unmarked]
  let r := loneRequest s .read b .waiting 0
  have carried : p.carryOut .read { kindCode := Kind.read.code, body := b } = (p.insert r).enterWaiting r.id := by
    change p.acceptDrive .read b = _
    unfold State.acceptDrive
    simp only [draft, served, if_true]
    rfl
  have freshIds : ∀ q ∈ s.queue.held, q.id ≠ r.id := fun q hq => (fresh.held q hq).ne
  have undone : r.undone = blockIndices b := List.filter_eq_self.mpr (fun _ _ => by rfl)
  have some_ : r.undone ≠ [] := by rw [undone]; exact blockIndices_ne_nil pass.range
  have present : ∀ i ∈ r.undone, ((p.insert r).validFrame (sectorAt r.addr.cyl i)).isSome = true := by
    intro i hi
    have here : (p.insert r).validFrame (sectorAt r.addr.cyl i) = some (g i) := valid i (undone ▸ hi)
    rw [here]
    rfl
  obtain ⟨lru, consulted⟩ := consult_of_served (s := p.insert r) (before := s.queue.held) (r := r) rfl freshIds rfl rfl rfl around rfl
    apart quiet.waits fresh.frames some_ present
  have jobs : r.undone.map ((p.insert r).hitJob r) = (blockIndices b).map (fun i =>
      { req := s.queue.nextId, orphan := false, kind := .delivery (g i) i, base := b.mem.toNat + 256 * (i - blockIndex b) }) := by
    rw [undone]
    refine List.map_congr_left (fun i hi => ?_)
    have here : (p.insert r).validFrame (sectorAt r.addr.cyl i) = some (g i) := valid i hi
    rw [State.hitJob, here]
    rfl
  have outstanding := delivered_fields (s := s) (b := b) some_
  let u := (p.insert r).servedRead s.queue.held r lru
  have entered : (p.insert r).enterWaiting r.id = u := by
    rw [State.enterWaiting, consulted]
    exact post_of_nil u quiet.finished
  have rest : Still u := quiet.toStill.of_more_jobs (by rfl) (by rfl) (by rfl) (by rfl) (by rfl) (by rfl) (by rfl)
  refine ⟨u.settleAccess, ?_, ?_, ?_, ?_, ?_, ?_, ?_, ?_, ?_, ?_, ?_, ?_, ?_, ?_, ?_⟩
  · refine (quiet.exec_accepted accepted (.inl places)).trans ?_
    rw [carried, entered, settle_of_still rest]
  · rw [State.settleAccess_queue, ← undone]
    exact congrArg (fun q => s.queue.held ++ [q]) outstanding
  · rw [State.settleAccess_port, ← jobs]
    rfl
  all_goals
    simp
    rfl

end Sys2Proof.Proofs
end

section
/-! PROOF. The frames over a range acted on, each once: UNPIN and DISCARD (O35). -/

namespace Sys2Proof.Machine

/-! ### The frames over a range -/

theorem sectorAt_injective {c i j : Nat} (h : sectorAt c i = sectorAt c j) : i = j := by
  obtain ⟨-, head, sec⟩ := SectorAddr.mk.inj h
  rw [← Nat.div_add_mod i Config.sectorsPerTrack, ← Nat.div_add_mod j Config.sectorsPerTrack, head, sec]

/-- The directory frames of the sectors in the list that meet the test. -/
def State.framesOver (s : State) (cyl : Nat) (test : Frame → Bool) (l : List Nat) : List Nat :=
  l.filterMap (fun i => (s.dirFrame (sectorAt cyl i)).filter (fun f => test (s.frame f)))

theorem mem_framesOver {s : State} {cyl : Nat} {test : Frame → Bool} {l : List Nat} {f : Nat} :
    f ∈ s.framesOver cyl test l ↔ ∃ i ∈ l, s.dirFrame (sectorAt cyl i) = some f ∧ test (s.frame f) = true := by
  simp [State.framesOver, Option.filter_eq_some_iff]

/-- Different sectors have different directory frames (R106). -/
theorem framesOver_nodup (s : State) (cyl : Nat) (test : Frame → Bool) {l : List Nat} (unlike : l.Nodup) : (s.framesOver cyl test l).Nodup := by
  refine List.Nodup.filterMap (fun i j f hi hj => ?_) unlike
  obtain ⟨-, -, ai⟩ := dirFrame_spec (Option.filter_eq_some_iff.mp hi).1
  obtain ⟨-, -, aj⟩ := dirFrame_spec (Option.filter_eq_some_iff.mp hj).1
  rw [ai] at aj
  exact sectorAt_injective (Option.some.inj aj)

theorem framesOver_length (s : State) (cyl : Nat) (test : Frame → Bool) (l : List Nat) :
    (s.framesOver cyl test l).length = (l.filter (fun i => (s.dirFrame (sectorAt cyl i)).any (fun f => test (s.frame f)))).length := by
  induction l with
  | nil => rfl
  | cons i l ih =>
    unfold State.framesOver at ih ⊢
    rw [List.filterMap_cons, List.filter_cons]
    cases h : s.dirFrame (sectorAt cyl i) with
    | none => simpa using ih
    | some f =>
      cases meets : test (s.frame f) with
      | false =>
        have none_ : (some f).filter (fun f => test (s.frame f)) = none := by simp [Option.filter, meets]
        simpa [none_, meets] using ih
      | true =>
        have some_ : (some f).filter (fun f => test (s.frame f)) = some f := by simp [Option.filter, meets]
        simpa [some_, meets] using ih

theorem framesOver_inside {s : State} {cyl : Nat} {test : Frame → Bool} {l : List Nat} {f : Nat} (h : f ∈ s.framesOver cyl test l) :
    f < s.cache.frames.length := by
  obtain ⟨i, -, dir, -⟩ := mem_framesOver.mp h
  exact (dirFrame_spec dir).1

/-- An action on one frame of the cache, which enters no sector in the directory. -/
structure Acts (act : State → Nat → State) : Prop where
  onFrame : ∀ t f, OnFrame f t (act t f)
  enters  : ∀ t f, f < t.cache.frames.length → ∀ a, (t.frame f).holds a = false → ((act t f).frame f).holds a = false

/-- An action on the directory frame of one sector leaves those of the others (R106). -/
theorem Acts.dirFrame {act : State → Nat → State} (h : Acts act) {t : State} {f : Nat} (inside : f < t.cache.frames.length) {a : SectorAddr}
    (other : (t.frame f).addr ≠ some a) : (act t f).dirFrame a = t.dirFrame a := by
  have onFrame := h.onFrame t f
  refine dirFrame_congr onFrame.length (fun n => ?_)
  by_cases e : n = f
  · subst e
    have without : (t.frame n).holds a = false := by simp [Frame.holds, other]
    rw [h.enters t n inside a without, without]
  · rw [onFrame.others n e]

/-- The run over a range acts on the frames that meet the test when it begins, each once (R64). -/
theorem overRange_eq {act : State → Nat → State} (h : Acts act) (s : State) (b : BlockBody) (test : Frame → Bool) :
    s.overRange b test act = ((s.framesOver b.cyl.toNat test (blockIndices b)).foldl act s,
      (s.framesOver b.cyl.toNat test (blockIndices b)).length) := by
  have run : ∀ (l : List Nat) (t : State) (n : Nat), l.Nodup →
      l.foldl (fun p i => State.overSector test act p (sectorAt b.cyl.toNat i)) (t, n)
        = ((t.framesOver b.cyl.toNat test l).foldl act t, n + (t.framesOver b.cyl.toNat test l).length) := by
    intro l
    induction l with
    | nil => exact fun _ _ _ => rfl
    | cons i l ih =>
      intro t n unlike
      obtain ⟨notIn, unlike⟩ := List.nodup_cons.mp unlike
      rw [List.foldl_cons]
      cases found : t.dirFrame (sectorAt b.cyl.toNat i) with
      | none =>
        have rest : t.framesOver b.cyl.toNat test (i :: l) = t.framesOver b.cyl.toNat test l := by
          simp [State.framesOver, found]
        rw [rest, State.overSector, found]
        exact ih t n unlike
      | some f =>
        obtain ⟨inside, -, addr⟩ := dirFrame_spec found
        cases meets : test (t.frame f) with
        | false =>
          have rest : t.framesOver b.cyl.toNat test (i :: l) = t.framesOver b.cyl.toNat test l := by
            simp [State.framesOver, found, meets]
          rw [rest, State.overSector, found]
          simpa [meets] using ih t n unlike
        | true =>
          have rest : t.framesOver b.cyl.toNat test (i :: l) = f :: t.framesOver b.cyl.toNat test l := by
            simp [State.framesOver, found, Option.filter, meets]
          have later : (act t f).framesOver b.cyl.toNat test l = t.framesOver b.cyl.toNat test l := by
            refine List.filterMap_congr (fun k hk => ?_)
            have apart : (t.frame f).addr ≠ some (sectorAt b.cyl.toNat k) := by
              rw [addr]
              intro e
              exact notIn (sectorAt_injective (Option.some.inj e) ▸ hk)
            rw [h.dirFrame inside apart]
            cases kth : t.dirFrame (sectorAt b.cyl.toNat k) with
            | none => rfl
            | some g =>
              have other : g ≠ f := by
                rintro rfl
                exact apart (dirFrame_spec kth).2.2
              simp [Option.filter, (h.onFrame t f).others g other]
          rw [rest, State.overSector, found]
          dsimp only
          rw [if_pos meets, ih (act t f) (n + 1) unlike, later, List.length_cons, List.foldl_cons, Nat.add_right_comm, Nat.add_assoc]
  have all := run (blockIndices b) s 0 List.nodup_range'
  rw [Nat.zero_add] at all
  exact all

/-! ### The two actions -/

theorem release_acts : Acts State.release := by
  refine ⟨release_onFrame, fun t f inside a _ => ?_⟩
  rw [release_frame inside, State.releasedRecord]
  split <;> rfl

theorem setPinned_onFrame (t : State) (f : Nat) : OnFrame f t (t.setFrame f { t.frame f with pinned := false }) := by
  refine ⟨rfl, rfl, by simp [State.setFrame], fun n other => ?_⟩
  rw [frame_of_set (s := t) (f := f) (by rfl), if_neg (fun both => other both.1)]

/-- The record that UNPIN leaves of a frame with this delivery hold (R64, R116). -/
def Frame.unpinned (fr : Frame) (hold : Nat) : Frame :=
  if fr.state = .stale then (if hold = 0 then Frame.free else fr.retired) else { fr with pinned := false }

theorem unpinFrame_onFrame (t : State) (f : Nat) : OnFrame f t (t.unpinFrame f) := by
  unfold State.unpinFrame
  split
  · exact release_onFrame t f
  · exact setPinned_onFrame t f

theorem unpinFrame_frame {t : State} {f : Nat} (inside : f < t.cache.frames.length) :
    (t.unpinFrame f).frame f = (t.frame f).unpinned (t.hold f) := by
  unfold State.unpinFrame Frame.unpinned
  split
  · exact release_frame inside
  · rw [frame_of_set (s := t) (f := f) (by rfl), if_pos ⟨rfl, inside⟩]

theorem unpinFrame_acts : Acts State.unpinFrame := by
  refine ⟨unpinFrame_onFrame, fun t f inside a without => ?_⟩
  rw [unpinFrame_frame inside, Frame.unpinned]
  split
  · split <;> rfl
  · exact without

theorem unpinFrame_store (t : State) (f : Nat) : (t.unpinFrame f).cache.store = t.cache.store := by
  unfold State.unpinFrame
  split
  · exact release_store t f
  · rfl

/-! ### A run over different frames -/

/-- From `s` to `t` the frames in the list have been acted on, each by itself, and the cache and the monitor alone have changed. -/
structure RangeActed (φ : Nat → Frame → Frame) (s : State) (fs : List Nat) (t : State) : Prop where
  only   : t = { s with cache := t.cache, monitor := t.monitor }
  waits  : t.cache.waits = s.cache.waits
  store  : t.cache.store = s.cache.store
  length : t.cache.frames.length = s.cache.frames.length
  frames : ∀ n, t.frame n = if n ∈ fs then φ n (s.frame n) else s.frame n

theorem rangeActed {act : State → Nat → State} {φ : Nat → Frame → Frame} {s : State} {fs : List Nat} (onFrame : ∀ t f, OnFrame f t (act t f))
    (store : ∀ t f, (act t f).cache.store = t.cache.store)
    (frame : ∀ t f, (∀ n, t.hold n = s.hold n) → f < t.cache.frames.length → (act t f).frame f = φ f (t.frame f)) (unlike : fs.Nodup)
    (inside : ∀ f ∈ fs, f < s.cache.frames.length) : RangeActed φ s fs (fs.foldl act s) := by
  let I (t : State) : Prop := t = { s with cache := t.cache, monitor := t.monitor } ∧ t.cache.waits = s.cache.waits
    ∧ t.cache.store = s.cache.store ∧ t.cache.frames.length = s.cache.frames.length
  obtain ⟨⟨only, waits, words, length⟩, frames⟩ := foldl_frames (φ := φ) (I := I) (g := act) unlike (fun t f hf same => by
    obtain ⟨only, waits, words, length⟩ := same
    have one := onFrame t f
    have hold (n : Nat) : t.hold n = s.hold n := by rw [only]; rfl
    refine ⟨⟨by rw [one.only, only], one.waits.trans waits, (store t f).trans words, one.length.trans length⟩, fun n => ?_⟩
    by_cases e : n = f
    · subst e
      rw [if_pos rfl, frame t n hold (length ▸ inside n hf)]
    · rw [if_neg e, one.others n e]) (s := s) ⟨rfl, rfl, rfl, rfl⟩
  exact ⟨only, waits, words, length, frames⟩

/-- Where no frame acted on is spent, the station is still. -/
theorem RangeActed.still {φ : Nat → Frame → Frame} {s t : State} {fs : List Nat} (h : RangeActed φ s fs t) (still : Still s)
    (unspent : ∀ n ∈ fs, t.spent n = false) : Still t := by
  refine still.of_frames (by rw [h.only]) h.waits (by rw [h.only]) (by rw [h.only]) (by rw [h.only]) (by rw [h.only]) h.length (fun n => ?_)
  by_cases mem : n ∈ fs
  · exact .inr (unspent n mem)
  · exact .inl ((h.frames n).trans (if_neg mem))

/-! ### The answer behind the run -/

/-- The block is answered DONE, with the frames over its range acted on (R64, R68). -/
structure RangeAnswered (φ : Nat → Frame → Frame) (s : State) (k : Kind) (b : BlockBody) (fs : List Nat) (t u : State) : Prop where
  exec    : exec (blockCommand k b) s = .next u
  port    : u.port = { s.port with partialBlock := [], fifo := s.port.fifo ++ [plainRecord s k b .done .disk fs.length] }
  frames  : ∀ n, u.frame n = if n ∈ fs then φ n (s.frame n) else s.frame n
  cache   : u.cache = t.cache
  monitor : u.monitor = t.monitor
  store   : u.cache.store = s.cache.store
  queue   : u.queue = s.queue
  faults  : u.faults = s.faults
  zones   : u.zones = s.zones
  cart    : u.cart = s.cart

theorem RangeActed.answered {φ : Nat → Frame → Frame} {s t : State} {fs : List Nat} {k : Kind} {b : BlockBody} (quiet : Quiet s)
    (pass : PassesPlain s k b) (room : s.port.fifo.length < 16) (test : s.immediateVerdict k b = none) (places : s.blockTaken.placesOf k b = 1)
    (carried : s.blockTaken.carryOut k { kindCode := k.code, body := b }
      = t.place (t.answer { kindCode := k.code, body := b } .done .disk fs.length))
    (acted : RangeActed φ s.blockTaken fs t) (unspent : ∀ n ∈ fs, t.spent n = false) :
    RangeAnswered φ s k b fs t (t.place (t.answer { kindCode := k.code, body := b } .done .disk fs.length)).settleAccess := by
  have accepted : s.refusal { kindCode := k.code, body := b } = none := (refusal_of_plain pass quiet.staged).trans test
  let u := t.place (t.answer { kindCode := k.code, body := b } .done .disk fs.length)
  have rest : Still u := (acted.still quiet.blockTaken.toStill unspent).of_records (by rfl) (by rfl) (by rfl) (by rfl) (by rfl) (by rfl)
  have only := acted.only
  refine ⟨?_, ?_, fun n => (settleAccess_frame u n).trans (acted.frames n), State.settleAccess_cache u, State.settleAccess_monitor u, ?_, ?_, ?_, ?_, ?_⟩
  · refine (quiet.exec_accepted accepted (.inr (by rw [places]; exact room))).trans ?_
    rw [carried, settle_of_still rest]
  · rw [State.settleAccess_port]
    change { t.port with fifo := t.port.fifo ++ [t.answer { kindCode := k.code, body := b } .done .disk fs.length] } = _
    rw [only]
    rfl
  · rw [State.settleAccess_cache, show u.cache = t.cache from rfl, acted.store]
    rfl
  · rw [State.settleAccess_queue, show u.queue = t.queue from rfl, only]
    rfl
  · rw [State.settleAccess_faults, show u.faults = t.faults from rfl, only]
    rfl
  · rw [State.settleAccess_zones, show u.zones = t.zones from rfl, only]
    rfl
  · rw [State.settleAccess_cart, show u.cart = t.cart from rfl, only]
    rfl

theorem RangeActed.hold {φ : Nat → Frame → Frame} {s t : State} {fs : List Nat} (h : RangeActed φ s fs t) (n : Nat) : t.hold n = s.hold n := by
  rw [h.only]
  rfl

/-- The frames that UNPIN acts on (R64). -/
def State.unpins (s : State) (b : BlockBody) : List Nat := s.framesOver b.cyl.toNat (·.pinned) (blockIndices b)

/-- The frames that DISCARD acts on (R64). -/
def State.discards (s : State) (b : BlockBody) : List Nat :=
  s.framesOver b.cyl.toNat (fun fr => fr.state == .valid && !fr.pinned) (blockIndices b)

theorem unpins_acted (s : State) (b : BlockBody) :
    RangeActed (fun n fr => fr.unpinned (s.hold n)) s (s.unpins b) ((s.unpins b).foldl State.unpinFrame s) :=
  rangeActed unpinFrame_onFrame unpinFrame_store (fun _ f same inside => by rw [unpinFrame_frame inside, same f])
    (framesOver_nodup s _ _ List.nodup_range') (fun _ => framesOver_inside)

/-- The record that a release leaves of a frame with this delivery hold (R116). -/
def Frame.released (fr : Frame) (hold : Nat) : Frame := if hold = 0 then Frame.free else fr.retired

theorem discards_acted (s : State) (b : BlockBody) :
    RangeActed (fun n fr => fr.released (s.hold n)) s (s.discards b) ((s.discards b).foldl State.release s) :=
  rangeActed release_onFrame release_store (fun t f same inside => by rw [release_frame inside, State.releasedRecord, Frame.released, same f])
    (framesOver_nodup s _ _ List.nodup_range') (fun _ => framesOver_inside)

/-- UNPIN leaves a spent frame only where one was spent. -/
theorem unpinned_unspent {s t : State} {n : Nat} (before : s.spent n = false) (frame : t.frame n = (s.frame n).unpinned (s.hold n))
    (hold : t.hold n = s.hold n) (work : t.seq.work = s.seq.work) : t.spent n = false := by
  rw [Frame.unpinned] at frame
  split at frame
  · exact not_spent_of_releasedRecord hold frame
  · simpa [State.spent, State.refreshing, Frame.retiring, frame, hold, work] using before

theorem unpin_answered {s : State} {b : BlockBody} (quiet : Quiet s) (pass : PassesPlain s .unpin b) (room : s.port.fifo.length < 16) :
    ∃ u, RangeAnswered (fun n fr => fr.unpinned (s.hold n)) s .unpin b (s.unpins b) ((s.unpins b).foldl State.unpinFrame s.blockTaken) u := by
  have acted : RangeActed (fun n fr => fr.unpinned (s.hold n)) s.blockTaken (s.unpins b) ((s.unpins b).foldl State.unpinFrame s.blockTaken) :=
    unpins_acted s.blockTaken b
  refine ⟨_, acted.answered quiet pass room rfl rfl ?_ (fun n hn => ?_)⟩
  · simp only [State.carryOut, State.unpinRange, overRange_eq unpinFrame_acts]
    rfl
  · have inside : n ∈ s.frameNumbers := by simpa [State.frameNumbers] using framesOver_inside hn
    exact unpinned_unspent (s := s.blockTaken) (quiet.blockTaken.spent n inside) ((acted.frames n).trans (if_pos hn)) (acted.hold n)
      (by rw [acted.only])

theorem discard_answered {s : State} {b : BlockBody} (quiet : Quiet s) (pass : PassesPlain s .discard b) (room : s.port.fifo.length < 16) :
    ∃ u, RangeAnswered (fun n fr => fr.released (s.hold n)) s .discard b (s.discards b) ((s.discards b).foldl State.release s.blockTaken) u := by
  have acted : RangeActed (fun n fr => fr.released (s.hold n)) s.blockTaken (s.discards b) ((s.discards b).foldl State.release s.blockTaken) :=
    discards_acted s.blockTaken b
  refine ⟨_, acted.answered quiet pass room rfl rfl ?_ (fun n hn => ?_)⟩
  · simp only [State.carryOut, State.discardRange, overRange_eq release_acts]
    rfl
  · exact not_spent_of_releasedRecord (s := s.blockTaken) (acted.hold n) ((acted.frames n).trans (if_pos hn))

/-! ### The capture held for a frame that UNPIN releases -/

/-- The monitor keeps nothing of the capture that was held (R138). -/
def State.captureDropped (s : State) : Monitor := s.monitor.unheld s.peerTenure

/-- Another frame's UNPIN keeps the monitor. -/
theorem unpinFrame_monitor {t : State} {f : Nat} (other : t.monitor.heldFor ≠ some f) : (t.unpinFrame f).monitor = t.monitor := by
  unfold State.unpinFrame
  split
  · exact release_monitor other
  · rfl

/-- UNPIN enters no frame in the LRU order or the refresh set. -/
theorem unpinFrame_lists (t : State) (f : Nat) :
    (∀ n ∈ (t.unpinFrame f).cache.lru, n ∈ t.cache.lru) ∧ ∀ e ∈ (t.unpinFrame f).cache.refresh, e ∈ t.cache.refresh := by
  unfold State.unpinFrame
  split
  · rw [release_eq]
    exact ⟨fun n hn => (List.mem_filter.mp hn).1, fun e he => (List.mem_filter.mp he).1⟩
  · exact ⟨fun _ hn => hn, fun _ he => he⟩

/-- The frame is in neither list, and no capture is held any more (R116, R138). -/
structure Dropped (m : Monitor) (f : Nat) (t : State) : Prop where
  monitor : t.monitor = m
  lru     : f ∉ t.cache.lru
  refresh : ∀ e ∈ t.cache.refresh, e.frame ≠ f

/-- The station is as at the run's beginning in what the release of the frame turns on. -/
structure Awaits (s : State) (f : Nat) (t : State) : Prop where
  access  : t.access = s.access
  monitor : t.monitor = s.monitor
  frame   : t.frame f = s.frame f

theorem Awaits.next {s t : State} {f n : Nat} (h : Awaits s f t) (held : s.monitor.heldFor = some f) (other : n ≠ f) :
    Awaits s f (t.unpinFrame n) := by
  have on := unpinFrame_onFrame t n
  refine ⟨by rw [on.only]; exact h.access, ?_, (on.others f other.symm).trans h.frame⟩
  rw [unpinFrame_monitor (by rw [h.monitor, held]; exact fun e => other (Option.some.inj e).symm), h.monitor]

theorem Awaits.reach {s t : State} {f : Nat} (h : Awaits s f t) (held : s.monitor.heldFor = some f) (stale : (s.frame f).state = .stale) :
    Dropped s.captureDropped f (t.unpinFrame f) := by
  have released : t.unpinFrame f = t.release f := if_pos (by rw [h.frame, stale])
  rw [released, release_eq]
  refine ⟨?_, fun mem => by simpa using (List.mem_filter.mp mem).2, fun e he => by simpa using (List.mem_filter.mp he).2⟩
  change (t.dropHeld f).monitor = _
  rw [State.dropHeld, if_pos (by rw [h.monitor, held])]
  change t.monitor.unheld t.peerTenure = s.monitor.unheld s.peerTenure
  rw [h.monitor, State.peerTenure, h.access]
  rfl

theorem Dropped.next {t : State} {m : Monitor} {f : Nat} (h : Dropped m f t) (none_ : m.heldFor = none) (n : Nat) :
    Dropped m f (t.unpinFrame n) := by
  obtain ⟨lru, refresh⟩ := unpinFrame_lists t n
  refine ⟨?_, fun mem => h.lru (lru f mem), fun e he => h.refresh e (refresh e he)⟩
  rw [unpinFrame_monitor (by rw [h.monitor, none_]; exact nofun), h.monitor]

theorem unpins_drop {s : State} {b : BlockBody} {f : Nat} (mem : f ∈ s.unpins b) (held : s.monitor.heldFor = some f)
    (stale : (s.frame f).state = .stale) : Dropped s.captureDropped f ((s.unpins b).foldl State.unpinFrame s) := by
  have none_ : s.captureDropped.heldFor = none := by
    unfold State.captureDropped Monitor.unheld
    split <;> rfl
  exact foldl_reaches (I := Awaits s f) mem (framesOver_nodup s _ _ List.nodup_range') (fun _ _ _ other h => h.next held other)
    (fun _ h => h.reach held stale) (fun _ n _ h => h.next none_ n) ⟨rfl, rfl, rfl⟩

end Sys2Proof.Machine

namespace Sys2Proof.Proofs
open Sys2Proof.Machine

/-- Settles O35: the run over the range acts on each frame that meets the test once, and the record counts them. -/
theorem unpinAndDiscard : Obligations.UnpinAndDiscard := by
  unfold Obligations.UnpinAndDiscard
  intro s k b quiet pass room covered
  have unpinsIff (f : Nat) : f ∈ s.unpins b ↔ covered f ∧ (s.frame f).pinned = true := by
    rw [State.unpins, mem_framesOver]
    exact ⟨fun ⟨i, hi, dir, pinned⟩ => ⟨⟨i, hi, dir⟩, pinned⟩, fun ⟨⟨i, hi, dir⟩, pinned⟩ => ⟨i, hi, dir, pinned⟩⟩
  have discardsIff (f : Nat) : f ∈ s.discards b ↔ covered f ∧ (s.frame f).state = .valid ∧ (s.frame f).pinned = false := by
    rw [State.discards, mem_framesOver]
    simp [covered, blockSector, and_assoc, ← exists_and_right]
  have unpinned : (s.unpins b).length = ((blockIndices b).filter (fun i => s.isPinned (blockSector b i))).length := framesOver_length s _ _ _
  have discarded : (s.discards b).length = ((blockIndices b).filter (fun i => (s.dirFrame (blockSector b i)).any (fun f =>
      (s.frame f).state == .valid && !(s.frame f).pinned))).length := framesOver_length s _ _ _
  refine ⟨?_, ?_, ?_⟩
  · rintro rfl unread
    obtain ⟨u, done⟩ := unpin_answered quiet pass room
    refine ⟨u, done.exec, unpinned ▸ done.port, fun f within pinned stale => ?_, fun f within state => ?_, fun f other => ?_,
      done.queue, done.store, done.faults, done.zones, done.cart⟩
    · rw [done.frames, if_pos ((unpinsIff f).mpr ⟨within, pinned⟩), Frame.unpinned, if_pos stale, if_pos (unread f within pinned stale)]
    · rw [done.frames]
      by_cases pinned : (s.frame f).pinned = true
      · rw [if_pos ((unpinsIff f).mpr ⟨within, pinned⟩), Frame.unpinned, if_neg state]
      · rw [if_neg (fun mem => pinned ((unpinsIff f).mp mem).2), ← Bool.eq_false_iff.mpr pinned]
    · rw [done.frames, if_neg]
      intro mem
      obtain ⟨within, pinned⟩ := (unpinsIff f).mp mem
      rcases other with out | free
      · exact out within
      · simp [free] at pinned
  · rintro rfl f within pinned stale read holding held
    have mem := (unpinsIff f).mpr ⟨within, pinned⟩
    obtain ⟨u, done⟩ := unpin_answered quiet pass room
    have dropped : Dropped s.captureDropped f ((s.unpins b).foldl State.unpinFrame s.blockTaken) := unpins_drop (s := s.blockTaken) mem held stale
    refine ⟨u, done.exec, unpinned ▸ done.port, ?_, by rw [done.cache]; exact dropped.lru, by rw [done.cache]; exact dropped.refresh, ?_⟩
    · rw [done.frames, if_pos mem, Frame.unpinned, if_pos stale, if_neg read]
      rfl
    · rw [done.monitor, dropped.monitor, State.captureDropped, Monitor.unheld, if_pos holding]
      simp [State.peerTenure, Monitor.emptied]
  · rintro rfl
    obtain ⟨u, done⟩ := discard_answered quiet pass room
    refine ⟨u, done.exec, discarded ▸ done.port, fun f within valid unpinned => ?_, fun f other => ?_,
      done.queue, done.store, done.faults, done.zones, done.cart⟩
    · rw [done.frames, if_pos ((discardsIff f).mpr ⟨within, valid, unpinned⟩), Frame.released]
      rfl
    · rw [done.frames, if_neg]
      intro mem
      obtain ⟨within, valid, unpinned⟩ := (discardsIff f).mp mem
      rcases other with out | state | pinned
      · exact out within
      · exact state valid
      · simp [pinned] at unpinned

end Sys2Proof.Proofs
end

section
/-! PROOF. A write's STAGED frames: FREE, evicted, or waited for (O34). -/

namespace Sys2Proof.Machine

/-! ### The staging of one sector -/

/-- A STAGED frame of a request's sector whose words have not arrived yet (R109). -/
def stagedFrame (id idx : Nat) : Frame := { Frame.free with state := .staged, owner := some id, idx := some idx }

/-- The staging job of a sector of the request (R52, R178). -/
def Request.stagingJob (r : Request) (idx f : Nat) : Job :=
  { req := r.id, orphan := false, kind := .staging f idx, base := r.sectorBase idx }

/-- The one allocation that waited has been given the frame. -/
def State.given (s : State) (r : Request) (idx f : Nat) : State :=
  let t := s.giveStaged r idx f
  { t with cache := { t.cache with waits := [] } }

/-- A STAGED allocation of the request (R109). -/
def Request.stagedWait (r : Request) (idx : Nat) : AllocWait := { req := some r.id, idx := idx, staged := true }

theorem serveList_of_found {s t : State} {f idx : Nat} {q : Request} (found : s.allocate = some (f, t)) (there : t.request q.id = some q) :
    s.serveList [q.stagedWait idx] = t.given q idx f := by
  have gives : t.giveFrame (q.stagedWait idx) f = t.giveStaged q idx f := by
    simp [State.giveFrame, Request.stagedWait, there]
  simp only [State.serveList, found, gives]
  rfl

theorem serveList_of_full {s : State} (full : s.allocate = none) (l : List AllocWait) :
    s.serveList l = { s with cache := { s.cache with waits := l } } := by
  cases l with
  | nil => rfl
  | cons w ws => simp only [State.serveList, full]

section Given
variable (s : State) (q : Request) (idx f : Nat)

theorem given_port : (s.given q idx f).port = { s.port with jobs := s.port.jobs ++ [q.stagingJob idx f] } := rfl

theorem given_held : (s.given q idx f).queue.held = s.queue.held.map (fun x => if x.id == q.id then x.useReserved else x) := rfl

theorem given_frames : (s.given q idx f).cache.frames = s.cache.frames.set f (stagedFrame q.id idx) := rfl

theorem given_frame (n : Nat) :
    (s.given q idx f).frame n = if n = f ∧ f < s.cache.frames.length then stagedFrame q.id idx else s.frame n :=
  frame_of_set (given_frames s q idx f) n

/-- A staging job reads no frame (R116). -/
theorem given_hold (n : Nat) : (s.given q idx f).hold n = s.hold n := by
  have jobs : (s.given q idx f).allJobs = s.allJobs ++ [q.stagingJob idx f] := by simp [State.allJobs, given_port]
  have reads : (q.stagingJob idx f).delivers n = false := rfl
  rw [State.hold, jobs]
  simp [State.hold, reads]

theorem given_length : (s.given q idx f).cache.frames.length = s.cache.frames.length := by
  rw [given_frames, List.length_set]

end Given

/-- The frame given to a sector of a write was the station's last that stood apart: it is still again. -/
theorem given_still {s t : State} (power : t.powered = s.powered) (queue : t.queue = s.queue) (port : t.port = s.port) (work : t.seq.work = s.seq.work)
    (length : t.cache.frames.length = s.cache.frames.length) {f : Nat} (inside : f < s.cache.frames.length)
    (others : ∀ n, n ≠ f → t.frame n = s.frame n) (on : s.powered = true) (finished : s.queue.finished = [])
    (unspent : ∀ n ∈ s.frameNumbers, s.spent n = false) (q : Request) (idx : Nat) : Still (t.given q idx f) := by
  refine ⟨power.trans on, rfl, (show (t.given q idx f).queue.finished = s.queue.finished by rw [← queue]; rfl).trans finished, fun n hn => ?_⟩
  have here := given_frame t q idx f n
  by_cases e : n = f
  · rw [if_pos ⟨e, length ▸ inside⟩] at here
    exact not_spent_of_frame (by simp [here, stagedFrame]) (by simp [here, stagedFrame, Frame.retiring])
  · rw [if_neg (fun both => e both.1), others n e] at here
    have before := unspent n (by simpa [State.frameNumbers, given_length, length] using hn)
    have hold : (t.given q idx f).hold n = s.hold n := (given_hold t q idx f n).trans (hold_of_port (by rw [port]) (by rw [port]) n)
    have sameWork : (t.given q idx f).seq.work = s.seq.work := work
    simpa [State.spent, State.refreshing, here, hold, sameWork] using before

/-! ### A write that finds FREE frames -/

/-- The frames `fs`, FREE in `s`, have become the STAGED frames of the sectors in the list, in their order (R109). -/
structure Staged (r : Request) (l fs : List Nat) (s t : State) : Prop where
  only   : t = { s with port := t.port, queue := t.queue, cache := t.cache }
  count  : fs.length = l.length
  unlike : fs.Nodup
  free   : ∀ f ∈ fs, f < s.cache.frames.length ∧ (s.frame f).state = .free
  port   : t.port = { s.port with jobs := s.port.jobs ++ (l.zip fs).map (fun p => r.stagingJob p.1 p.2) }
  held   : t.queue.held = s.queue.held.map (fun x => if x.id = r.id then { x with reserved := x.reserved - l.length } else x)
  ended  : t.queue.finished = s.queue.finished
  given  : ∀ p ∈ l.zip fs, t.frame p.2 = stagedFrame r.id p.1
  others : ∀ f, f ∉ fs → t.frame f = s.frame f
  waits  : t.cache.waits = []
  store  : t.cache.store = s.cache.store
  length : t.cache.frames.length = s.cache.frames.length

/-- A FREE frame is found, and another one fewer is left (R108). -/
theorem allocate_of_free {s : State} {n : Nat} (room : n + 1 ≤ s.freeCount) :
    ∃ f, s.allocate = some (f, s) ∧ f < s.cache.frames.length ∧ (s.frame f).state = .free
      ∧ ∀ (q : Request) (idx : Nat), n ≤ (s.given q idx f).freeCount := by
  cases found : s.cache.frames.findIdx? (·.state == .free) with
  | none =>
    have none_ : s.freeCount = 0 := by
      rw [State.freeCount, List.length_eq_zero_iff, List.filter_eq_nil_iff]
      exact fun fr hfr => by simpa using List.findIdx?_eq_none_iff.mp found fr hfr
    omega
  | some f =>
    obtain ⟨inside, free, -⟩ := List.findIdx?_eq_some_iff_getElem.mp found
    have here : s.frame f = s.cache.frames[f] := by simp [State.frame, inside]
    refine ⟨f, by simp only [State.allocate, found], inside, by simpa [here] using free, fun q idx => ?_⟩
    rw [State.freeCount, ← List.countP_eq_length_filter] at room ⊢
    rw [given_frames, List.countP_set inside, if_pos free]
    exact le_trans (Nat.le_sub_of_add_le room) (Nat.le_add_right _ _)

theorem stage_staged (r : Request) : ∀ (l : List Nat) (s : State), s.cache.waits = [] → l.length ≤ s.freeCount →
    (∃ q, s.request r.id = some q ∧ q.sectorBase = r.sectorBase) →
    ∃ fs, Staged r l fs s (l.foldl (fun t i => t.allocOrWait (r.stagedWait i)) s) := by
  intro l
  induction l with
  | nil => exact fun s waits _ _ => ⟨[], ⟨rfl, rfl, List.nodup_nil, nofun, by simp, by simp, rfl, nofun, fun _ _ => rfl, waits, rfl, rfl⟩⟩
  | cons i l ih =>
    intro s waits room there
    obtain ⟨q, there, base⟩ := there
    have same : q.id = r.id := request_id there
    obtain ⟨f, found, inside, free, left⟩ := allocate_of_free (n := l.length) (by simpa using room)
    let u := s.given q i f
    have first : s.allocOrWait (r.stagedWait i) = u := by
      rw [State.allocOrWait, waits, List.nil_append, show r.stagedWait i = q.stagedWait i by rw [Request.stagedWait, ← same]; rfl]
      exact serveList_of_found found (same ▸ there)
    have held : u.queue.held = s.queue.held.map (fun x => if x.id == r.id then x.useReserved else x) := by rw [← same]; exact given_held s q i f
    have next : u.request r.id = some q.useReserved := by
      have modified : u.request r.id = (s.modify r.id Request.useReserved).request r.id := by
        simp only [State.request, held, modify_held]
      rw [modified, request_modify there (fun _ => by rfl)]
    obtain ⟨fs, rest⟩ := ih u rfl (left q i) ⟨_, next, base⟩
    have length : u.cache.frames.length = s.cache.frames.length := given_length s q i f
    have here : u.frame f = stagedFrame r.id i := by rw [given_frame, if_pos ⟨rfl, inside⟩, same]
    have elsewhere (n : Nat) (other : n ≠ f) : u.frame n = s.frame n := by rw [given_frame, if_neg (fun both => other both.1)]
    have unused : f ∉ fs := by
      intro mem
      have taken := (rest.free f mem).2
      simp [here, stagedFrame] at taken
    have job : q.stagingJob i f = r.stagingJob i f := by rw [Request.stagingJob, Request.stagingJob, same, base]
    refine ⟨f :: fs, ?_⟩
    rw [List.foldl_cons, first]
    refine ⟨?_, by simp [rest.count], List.nodup_cons.mpr ⟨unused, rest.unlike⟩, ?_, ?_, ?_, rest.ended, ?_, ?_, rest.waits, rest.store,
      rest.length.trans length⟩
    · rw [rest.only]
      rfl
    · rintro g (_ | ⟨_, mem⟩)
      · exact ⟨inside, free⟩
      · obtain ⟨within, was⟩ := rest.free g mem
        rw [elsewhere g (fun e => unused (e ▸ mem))] at was
        exact ⟨length ▸ within, was⟩
    · rw [rest.port, show u.port = _ from given_port s q i f, job]
      simp
    · rw [rest.held, held, List.map_map]
      refine List.map_congr_left (fun x _ => ?_)
      by_cases mine : x.id = r.id
      · simp [mine, Request.useReserved, Nat.sub_sub, Nat.add_comm]
      · simp [mine]
    · rintro p mem
      rw [List.zip_cons_cons] at mem
      rcases List.mem_cons.mp mem with rfl | mem
      · exact (rest.others f unused).trans here
      · exact rest.given p mem
    · intro g out
      obtain ⟨other, out⟩ := not_or.mp (fun h => out (List.mem_cons.mpr h))
      exact (rest.others g out).trans (elsewhere g other)

/-- Staging jobs read no frame, and STAGED frames are not spent (R109, R116). -/
theorem Staged.still {r : Request} {l fs : List Nat} {s t : State} (h : Staged r l fs s t) (still : Still s) : Still t := by
  have jobs : t.allJobs = s.allJobs ++ (l.zip fs).map (fun p => r.stagingJob p.1 p.2) := by simp [State.allJobs, h.port]
  have hold (n : Nat) : t.hold n = s.hold n := by
    have none_ : ((l.zip fs).map (fun p => r.stagingJob p.1 p.2)).filter (·.delivers n) = [] := by
      rw [List.filter_eq_nil_iff]
      intro j mem
      obtain ⟨p, -, rfl⟩ := List.mem_map.mp mem
      exact Bool.false_ne_true
    rw [State.hold, jobs, List.filter_append, none_, List.append_nil, State.hold]
  refine still.of_hold (by rw [h.only]) h.waits h.ended hold (by rw [h.only]) h.length (fun n => ?_)
  by_cases mem : n ∈ fs
  · obtain ⟨i, hi, e⟩ := List.mem_iff_getElem.mp mem
    have pair : (l[i]'(h.count ▸ hi), n) ∈ l.zip fs := by
      rw [← e, ← List.getElem_zip (h := by simpa [h.count] using h.count ▸ hi)]
      exact List.getElem_mem _
    have frame := h.given _ pair
    exact .inr (not_spent_of_frame (by simp [frame, stagedFrame]) (by simp [frame, stagedFrame, Frame.retiring]))
  · exact .inl (h.others n mem)

/-! ### The write accepted -/

/-- A write that stands alone is accepted into STAGING, and asks for a frame a sector (R43, R52, R109). -/
theorem carryOut_of_write {s : State} {k : Kind} {b : BlockBody} (staged : s.stagedMembers = []) (alone : b.continues = false)
    (write : k.isWrite = true) : s.carryOut k { kindCode := k.code, body := b }
      = (blockIndices b).foldl (fun t i => t.allocOrWait ((loneRequest s k b .staging b.count.toNat).stagedWait i))
          (s.insert (loneRequest s k b .staging b.count.toNat)) := by
  have carried : s.carryOut k { kindCode := k.code, body := b } = s.acceptDrive k b := by
    unfold State.carryOut
    cases k <;> simp_all [Kind.isWrite]
  have unread : s.readServed k b = false := by
    have other : (k == .read) = false := by cases k <;> simp_all [Kind.isWrite]
    simp [State.readServed, other]
  have other : k ≠ .pin := by rintro rfl; cases write
  have need : k.need b.count.toNat = b.count.toNat := by cases k <;> simp_all [Kind.isWrite, Kind.need]
  let r := loneRequest s k b .staging b.count.toNat
  have accepted : s.acceptDrive k b = (s.insert r).stage r := by
    unfold State.acceptDrive
    simp only [draft_of_alone staged alone, unread, write, need, other]
    rfl
  rw [carried, accepted]
  exact if_pos write

/-- The write is accepted, and what it asks for settles (R47, R52). -/
theorem exec_write {s : State} {k : Kind} {b : BlockBody} (quiet : Quiet s) (accepts : Accepts s k b) (write : k.isWrite = true)
    (alone : b.continues = false) : exec (blockCommand k b) s
      = .next ((blockIndices b).foldl (fun t i => t.allocOrWait ((loneRequest s k b .staging b.count.toNat).stagedWait i))
          (s.blockTaken.insert (loneRequest s k b .staging b.count.toNat))).settle := by
  let p := s.blockTaken
  have accepted : s.refusal { kindCode := k.code, body := b } = none := refusal_of_accepts accepts quiet.staged alone
  have places : p.placesOf k b = 0 := by
    have unmarked : p.closesMarked b = false := by simp [State.closesMarked, show p.stagedMembers = [] from quiet.staged]
    have other : (k == .pin) = false := by cases k <;> simp_all [Kind.isWrite]
    cases k <;> simp_all [Kind.isWrite, State.placesOf, State.pinServed]
  rw [quiet.exec_accepted accepted (.inl places), carryOut_of_write (s := p) quiet.staged alone write]
  rfl

/-- The reservation of the last request held is used up, the others' stand. -/
theorem map_reserved_of_last {before : List Request} {r : Request} (fresh : ∀ q ∈ before, q.id ≠ r.id) (n : Nat) :
    (before ++ [r]).map (fun x => if x.id = r.id then { x with reserved := x.reserved - n } else x)
      = before ++ [{ r with reserved := r.reserved - n }] := by
  have others : before.map (fun x => if x.id = r.id then { x with reserved := x.reserved - n } else x) = before :=
    (List.map_congr_left (fun q hq => if_neg (fresh q hq))).trans (List.map_id _)
  rw [List.map_append, others]
  simp

/-! ### Eviction -/

/-- The frame may be evicted (R108), as the spec words it. -/
def State.mayEvict (s : State) (f : Nat) : Prop := (s.frame f).state = .valid ∧ (s.frame f).pinned = false ∧ s.hold f = 0

/-- A frame that no job reads is not busy (R116). -/
theorem evictable_iff (s : State) (f : Nat) : s.evictable f = true ↔ s.mayEvict f := by
  have idle (unread : s.hold f = 0) : s.busy f = false := by
    have none_ : s.allJobs.filter (·.delivers f) = [] := List.length_eq_zero_iff.mp unread
    rw [State.busy, Option.any_eq_false]
    intro j running
    have reads := List.filter_eq_nil_iff.mp none_ j (by simp [State.allJobs, running])
    simpa using reads
  unfold State.mayEvict
  constructor
  · intro evictable
    simp only [State.evictable, Bool.and_eq_true] at evictable
    obtain ⟨⟨⟨valid, unpinned⟩, -⟩, unread⟩ := evictable
    exact ⟨by simpa using valid, by simpa using unpinned, by simpa using unread⟩
  · rintro ⟨valid, unpinned, unread⟩
    simp [State.evictable, valid, unpinned, unread, idle unread]

/-- No frame is FREE. -/
def State.Full (s : State) : Prop := ∀ fr ∈ s.cache.frames, fr.state ≠ .free

theorem Full.findIdx {s : State} (full : s.Full) : s.cache.frames.findIdx? (·.state == .free) = none := by
  rw [List.findIdx?_eq_none_iff]
  exact fun fr hfr => by simpa using full fr hfr

theorem firstEvictable_of_append {s : State} {older newer : List Nat} {f : Nat} (lru : s.cache.lru = older ++ f :: newer)
    (may : s.mayEvict f) (before : ∀ g ∈ older, ¬ s.mayEvict g) : s.cache.lru.find? s.evictable = some f := by
  rw [lru, List.find?_append, List.find?_eq_none.mpr (fun g hg => by rw [evictable_iff]; exact before g hg), Option.none_or]
  exact List.find?_cons_of_pos ((evictable_iff s f).mpr may)

theorem firstEvictable_of_only {s : State} {f : Nat} (mem : f ∈ s.cache.lru) (may : s.mayEvict f)
    (only : ∀ g ∈ s.cache.lru, g ≠ f → ¬ s.mayEvict g) : s.cache.lru.find? s.evictable = some f := by
  cases first : s.cache.lru.find? s.evictable with
  | none => exact absurd ((evictable_iff s f).mpr may) (List.find?_eq_none.mp first f mem)
  | some g =>
    have goes : s.mayEvict g := (evictable_iff s g).mp (List.find?_some first)
    by_contra other
    exact only g (List.mem_of_find?_eq_some first) (fun e => other (congrArg some e)) goes

/-- With no frame FREE the least recently used one that may go is evicted (R108). -/
theorem allocate_of_evictable {s : State} (full : s.Full) {f : Nat} (first : s.cache.lru.find? s.evictable = some f) :
    s.allocate = some (f, s.freeFrame f) := by
  simp only [State.allocate, Full.findIdx full, first, Option.map_some]

/-- With none that may go either no frame is found (R108). -/
theorem allocate_of_none {s : State} (full : s.Full) (none_ : ∀ g ∈ s.cache.lru, ¬ s.mayEvict g) : s.allocate = none := by
  have first : s.cache.lru.find? s.evictable = none := List.find?_eq_none.mpr (fun g hg => by rw [evictable_iff]; exact none_ g hg)
  simp only [State.allocate, Full.findIdx full, first, Option.map_none]

/-- The frame that `s` evicts has become the STAGED frame of the sector (R108, R109). -/
structure Evicted (q : Request) (idx f : Nat) (s t : State) : Prop where
  frame  : t.frame f = stagedFrame q.id idx
  others : ∀ g, g ≠ f → t.frame g = s.frame g
  lru    : t.cache.lru = s.cache.lru.filter (fun g => g != f)
  waits  : t.cache.waits = []
  held   : t.queue.held = s.queue.held.map (fun x => if x.id = q.id then { x with reserved := x.reserved - 1 } else x)
  port   : t.port = { s.port with jobs := s.port.jobs ++ [q.stagingJob idx f] }
  store  : t.cache.store = s.cache.store
  still  : Still t

theorem evicted {s : State} {q : Request} {idx f : Nat} (on : s.powered = true) (finished : s.queue.finished = [])
    (unspent : ∀ n ∈ s.frameNumbers, s.spent n = false) (inside : f < s.cache.frames.length) :
    Evicted q idx f s ((s.freeFrame f).given q idx f) := by
  have eq := freeFrame_eq s f
  have length : (s.freeFrame f).cache.frames.length = s.cache.frames.length := by simp [eq, Cache.without]
  have others (n : Nat) (other : n ≠ f) : (s.freeFrame f).frame n = s.frame n := (freeFrame_frame s f n).trans (if_neg other)
  refine ⟨?_, fun g other => ?_, by rw [eq]; rfl, rfl, ?_, by rw [given_port, eq], by rw [eq]; rfl, ?_⟩
  · rw [given_frame, if_pos ⟨rfl, length ▸ inside⟩]
  · rw [given_frame, if_neg (fun both => other both.1), others g other]
  · rw [given_held, eq]
    exact List.map_congr_left (fun x _ => by simp [Request.useReserved])
  · exact given_still (by rw [eq]) (by rw [eq]) (by rw [eq]) (by rw [eq]) length inside others on finished unspent q idx

/-- Allocations asked for while no frame can be found wait in their order (R108). -/
theorem foldl_allocOrWait_of_full (r : Request) : ∀ (l : List Nat) (s : State), s.Full → (∀ g ∈ s.cache.lru, ¬ s.mayEvict g) →
    l.foldl (fun t i => t.allocOrWait (r.stagedWait i)) s = { s with cache := { s.cache with waits := s.cache.waits ++ l.map r.stagedWait } } := by
  intro l
  induction l with
  | nil => exact fun s _ _ => by simp
  | cons i l ih =>
    intro s full none_
    have waits : s.allocOrWait (r.stagedWait i) = { s with cache := { s.cache with waits := s.cache.waits ++ [r.stagedWait i] } } :=
      serveList_of_full (allocate_of_none full none_) _
    rw [List.foldl_cons, waits]
    let u : State := { s with cache := { s.cache with waits := s.cache.waits ++ [r.stagedWait i] } }
    refine (ih u full none_).trans ?_
    simp [u]

/-- Where no frame can be found the allocations go on waiting. -/
theorem settle_of_full {s : State} (finished : s.queue.finished = []) (unspent : ∀ n ∈ s.frameNumbers, s.spent n = false) (full : s.Full)
    (none_ : ∀ g ∈ s.cache.lru, ¬ s.mayEvict g) : s.settle = s.settleAccess := by
  have tidy : s.tidy = s := by
    rw [State.tidy, sweep_of_unspent s unspent, State.serveWaits, serveList_of_full (allocate_of_none full none_)]
  rw [State.settle, tidy, post_of_nil s finished]

/-- The one allocation that waits is served where a frame may be evicted (R108). -/
theorem settle_of_evicted {s : State} (on : s.powered = true) (finished : s.queue.finished = [])
    (unspent : ∀ n ∈ s.frameNumbers, s.spent n = false) (full : s.Full) {f : Nat} (inside : f < s.cache.frames.length)
    (first : s.cache.lru.find? s.evictable = some f)
    {q : Request} {idx : Nat} (there : s.request q.id = some q) (waits : s.cache.waits = [q.stagedWait idx]) :
    s.settle = ((s.freeFrame f).given q idx f).settleAccess := by
  have found := allocate_of_evictable full first
  have again : (s.freeFrame f).request q.id = some q := by rw [freeFrame_eq]; exact there
  have tidy : s.tidy = (s.freeFrame f).given q idx f := by
    rw [State.tidy, sweep_of_unspent s unspent, State.serveWaits, waits, serveList_of_found found again]
  have still := (evicted (q := q) (idx := idx) on finished unspent inside).still
  rw [State.settle, tidy, post_of_nil _ still.finished]

/-! ### The frame that a delivery's end gives up -/

/-- A delivery's end from a VALID frame with no capture held takes its hold and nothing else from a frame (R116). -/
theorem delivered_of_valid {s : State} {j : Job} {f i : Nat} (running : s.port.running = some j) (kind : j.kind = .delivery f i)
    (valid : (s.frame f).state = .valid) (unheld : s.monitor.heldFor ≠ some f) (unspent : ∀ n ∈ s.frameNumbers, s.spent n = false) :
    (s.delivered j f).cache = s.cache ∧ (s.delivered j f).powered = s.powered
      ∧ (∀ n, s.hold n = (s.delivered j f).hold n + if f = n then 1 else 0) ∧ ∀ n ∈ s.frameNumbers, (s.delivered j f).spent n = false := by
  let a := (s.movedOut j.base (readFrame s.cache.store f)).channelFree
  obtain ⟨m, apart⟩ := applyHeld_of_other (s := a) (f := f) unheld
  let b : State := { a with monitor := m }
  have hold (n : Nat) : s.hold n = b.hold n + if f = n then 1 else 0 := by
    simpa [Job.delivers, kind] using hold_of_ended (t := b) running rfl rfl n
  have rest : ∀ n ∈ s.frameNumbers, b.spent n = false := by
    intro n hn
    by_cases e : f = n
    · subst e
      have here : b.frame f = s.frame f := rfl
      exact not_spent_of_frame (by simp [here, valid]) (by simp [here, valid, Frame.retiring])
    · have same := hold n
      rw [if_neg e, Nat.add_zero] at same
      have before := unspent n hn
      rw [State.spent, same] at before
      exact before
  have done : s.delivered j f = b := by
    rw [State.delivered, apart]
    exact sweep_of_unspent b rest
  exact ⟨by rw [done]; rfl, by rw [done]; rfl, done ▸ hold, done ▸ rest⟩

end Sys2Proof.Machine

namespace Sys2Proof.Proofs
open Sys2Proof.Machine

/-- Settles O34: the frames are found one a sector, the lowest FREE one or the one evicted, or the sector waits. -/
theorem writeIsStaged : Obligations.WriteIsStaged := by
  unfold Obligations.WriteIsStaged
  refine ⟨?_, ?_, ?_⟩
  · intro s k b quiet fresh accepts write alone frames room
    let r := loneRequest s k b .staging b.count.toNat
    let p := s.blockTaken.insert r
    have freshIds : ∀ q ∈ s.queue.held, q.id ≠ r.id := fun q hq => (fresh.held q hq).ne
    have pstill : Still p := quiet.blockTaken.toStill.insert r
    have indices : (blockIndices b).length = b.count.toNat := List.length_range'
    obtain ⟨fs, given⟩ := stage_staged r (blockIndices b) p quiet.waits (indices ▸ room) ⟨r, request_of_last rfl freshIds, rfl⟩
    have rest := given.still pstill
    refine ⟨((blockIndices b).foldl (fun t i => t.allocOrWait (r.stagedWait i)) p).settleAccess, fs, ?_, given.count.trans indices,
      given.unlike, fun f hf => ?_, ?_, ?_, fun q hq => ?_, fun f hf => ?_, ?_, ?_, ?_, ?_, ?_, ?_, ?_, ?_⟩
    · rw [exec_write quiet accepts write alone, settle_of_still rest]
    · obtain ⟨inside, free⟩ := given.free f hf
      exact ⟨frames ▸ inside, free⟩
    · rw [State.settleAccess_queue, given.held]
      refine (map_reserved_of_last freshIds _).trans ?_
      rw [indices]
      simp [r, loneRequest]
    · rw [State.settleAccess_port, given.port]
      rfl
    · rw [settleAccess_frame]
      exact given.given q hq
    · rw [settleAccess_frame]
      exact given.others f hf
    · rw [State.settleAccess_port, given.port]
      rfl
    · rw [State.settleAccess_cache, given.store]
      rfl
    · rw [State.settleAccess_cache, given.waits]
    · rw [State.settleAccess_faults, given.only]
      rfl
    · rw [State.settleAccess_zones, given.only]
      rfl
    · rw [State.settleAccess_cart, given.only]
      rfl
    · rw [State.settleAccess_seq, given.only]
      rfl
    · rw [State.settleAccess_drive, given.only]
      rfl
  · intro s k b quiet fresh accepts write alone full
    let r := loneRequest s k b .staging b.count.toNat
    let p := s.blockTaken.insert r
    have freshIds : ∀ q ∈ s.queue.held, q.id ≠ r.id := fun q hq => (fresh.held q hq).ne
    have pstill : Still p := quiet.blockTaken.toStill.insert r
    refine ⟨fun f older newer one lru may before => ?_, fun none_ => ?_⟩
    · have inside : f < p.cache.frames.length := lt_of_frame (s := s) (by rw [may.1]; exact nofun)
      have found : p.allocate = some (f, p.freeFrame f) :=
        allocate_of_evictable (s := p) full (firstEvictable_of_append (s := p) lru may before)
      have there : (p.freeFrame f).request r.id = some r := by
        rw [freeFrame_eq]
        exact request_of_last rfl freshIds
      have indices : blockIndices b = [blockIndex b] := by rw [blockIndices, one]; rfl
      have staged : (blockIndices b).foldl (fun t i => t.allocOrWait (r.stagedWait i)) p = (p.freeFrame f).given r (blockIndex b) f := by
        rw [indices, List.foldl_cons, List.foldl_nil, State.allocOrWait, show p.cache.waits = [] from quiet.waits]
        exact serveList_of_found found there
      have done := evicted (q := r) (idx := blockIndex b) pstill.powered pstill.finished pstill.spent inside
      refine ⟨((p.freeFrame f).given r (blockIndex b) f).settleAccess, ?_, ?_, fun g other => ?_, ?_, ?_, ?_, ?_, ?_, ?_⟩
      · rw [exec_write quiet accepts write alone, staged, settle_of_still done.still]
      · exact (settleAccess_frame _ f).trans done.frame
      · exact (settleAccess_frame _ g).trans (done.others g other)
      · exact (congrArg Cache.lru (State.settleAccess_cache _)).trans done.lru
      · exact (congrArg Cache.waits (State.settleAccess_cache _)).trans done.waits
      · rw [State.settleAccess_queue, done.held]
        refine (map_reserved_of_last freshIds _).trans ?_
        simp [r, loneRequest, one]
      · rw [State.settleAccess_port, done.port]
        have base : r.sectorBase (blockIndex b) = b.mem.toNat := by
          change b.mem.toNat + 256 * (blockIndex b - blockIndex b) = _
          simp
        change s.port.jobs ++ [{ req := r.id, orphan := false, kind := .staging f (blockIndex b), base := r.sectorBase (blockIndex b) }] = _
        rw [base]
        rfl
      · rw [State.settleAccess_port, done.port]
        rfl
      · exact (congrArg Cache.store (State.settleAccess_cache _)).trans done.store
    · have waiting := foldl_allocOrWait_of_full r (blockIndices b) p full none_
      rw [show p.cache.waits = [] from quiet.waits, List.nil_append] at waiting
      rw [exec_write quiet accepts write alone]
      refine congrArg _ ((congrArg State.settle waiting).trans ?_)
      exact settle_of_full pstill.finished pstill.spent full none_
  · intro s j f i ws w q on intake finished unspent running kind apart waits mine staged there full valid unpinned one mem unheld others
    obtain ⟨cache, power, hold, rest⟩ := delivered_of_valid running kind valid unheld unspent
    obtain ⟨queue, port, -⟩ := delivered_kept s j f
    let u := s.delivered j f
    have frame (n : Nat) : u.frame n = s.frame n := by rw [State.frame, cache]; rfl
    have wait : w = q.stagedWait w.idx := by rw [Request.stagedWait, ← mine, ← staged]
    have inside : f < u.cache.frames.length := by rw [cache]; exact lt_of_frame (by rw [valid]; exact nofun)
    have unspentNow : ∀ n ∈ u.frameNumbers, u.spent n = false := fun n hn => rest n (by rw [State.frameNumbers, ← cache]; exact hn)
    have ended : u.queue.finished = [] := by rw [queue]; exact finished
    have may : u.mayEvict f := by
      have counted : s.hold f = u.hold f + if f = f then 1 else 0 := hold f
      rw [one, if_pos rfl] at counted
      exact ⟨by rw [frame, valid], by rw [frame, unpinned], by omega⟩
    have first : u.cache.lru.find? u.evictable = some f := by
      refine firstEvictable_of_only (by rw [cache]; exact mem) may (fun g hg other goes => ?_)
      obtain ⟨state, pins, read⟩ := goes
      have counted := hold g
      rw [if_neg other.symm, Nat.add_zero] at counted
      exact others g (by rw [← cache]; exact hg) other ⟨frame g ▸ state, frame g ▸ pins, counted.trans read⟩
    have settled : u.settle = ((u.freeFrame f).given q w.idx f).settleAccess :=
      settle_of_evicted (power.trans on) ended unspentNow (by rw [State.Full, cache]; exact full) inside first
        (by rw [State.request, queue]; exact there) (by rw [cache, waits, ← wait])
    have done := evicted (q := q) (idx := w.idx) (power.trans on) ended unspentNow inside
    have portEnd : u.settle.port = { u.port with jobs := u.port.jobs ++ [q.stagingJob w.idx f] } := by
      rw [settled, State.settleAccess_port, done.port]
    refine ⟨u.settle, ?_, ?_, fun g other => ?_, ?_, ?_, ?_, ?_, ?_, ?_, ?_⟩
    · rw [exec_dmaJobEnds on running, jobDone_of_delivery kind apart, leftByConfigure_of_free s (by rw [portEnd, port]; exact intake)]
    · rw [settled, settleAccess_frame, done.frame]
      rfl
    · rw [settled, settleAccess_frame, done.others g other, frame]
    · rw [settled, State.settleAccess_cache, done.waits]
    · rw [settled, State.settleAccess_cache, done.lru, cache]
    · rw [settled, State.settleAccess_queue, done.held, queue]
    · rw [portEnd, port]
    · rw [portEnd, port]
      rfl
    · rw [portEnd, port]
    · rw [settled, State.settleAccess_cache, done.store, cache]

end Sys2Proof.Proofs
end

section
/-! PROOF. A chain of two at work: the end of its members on the drive and the posting of their records (O31). -/

namespace Sys2Proof.Machine

/-! ### One member's end among the others -/

/-- Request `r` of `s` has entered FINISHED in `t`, its record `c` waiting behind the others (R54). -/
structure Finishes (s : State) (r : Request) (c : Completion) (t : State) : Prop where
  sheds    : Sheds r.id s t
  chains   : t.queue.held.map (fun q => (q.id, q.chain)) = s.queue.held.map (fun q => (q.id, q.chain))
  others   : ∀ id, id ≠ r.id → t.request id = s.request id
  finished : t.queue.finished = s.queue.finished ++ [(r.id, c)]
  jobs     : ∀ j ∈ t.allJobs, j ∈ s.allJobs
  cleared  : ∀ n, (t.frame n).unreadOf r.id = false

theorem Ended.finishes {s t : State} {r : Request} {o : ReqOutcome} {c : Completion} (h : Ended s r o c t) : Finishes s r c t :=
  ⟨h.sheds, h.chains, fun _ other => h.request_other other, h.finished, fun j hj => (h.noJobs j hj).1, h.cleared⟩

theorem request_modify_other {s : State} {id other : Nat} (h : other ≠ id) {g : Request → Request} (same : ∀ q, (g q).id = q.id) :
    (s.modify id g).request other = s.request other := by
  have keeps : (fun q : Request => q.id == other) ∘ (fun q => if q.id == id then g q else q) = fun q => q.id == other := by
    funext q
    simp only [Function.comp]
    split
    · rw [same]
    · rfl
  rw [State.request, modify_held, List.find?_map, keeps]
  unfold State.request
  cases found : s.queue.held.find? (fun q => q.id == other) with
  | none => rfl
  | some q =>
    have at_id : q.id = other := by simpa using List.find?_some found
    simp [at_id, h]

/-- The end of a member that no delivery is under way for (R54). -/
theorem endRequest_finishes {s : State} {r : Request} (hr : s.request r.id = some r) (open_ : r.state ≠ .finished)
    (quiet : s.delivering r.id = false) (o : ReqOutcome) (a : Option SectorAddr) :
    Finishes s r (s.endRecord r o a) (s.endRequest r.id o a) := by
  let u := s.fixOutcome r o a
  have there : u.request r.id = some (s.fixedRequest r o a) := request_modify hr (fun _ => by rfl)
  have ended : Finishes u (s.fixedRequest r o a) (s.endRecord r o a) (u.finish r.id (r.endOutcome o)) := (finish_ended there open_ _).finishes
  have chains : u.queue.held.map (fun q => (q.id, q.chain)) = s.queue.held.map (fun q => (q.id, q.chain)) := by
    rw [show u.queue.held = _ from modify_held _ _ _, List.map_map]
    refine List.map_congr_left (fun q _ => ?_)
    simp only [Function.comp]
    split <;> rfl
  rw [endRequest_eq hr, if_neg (by simpa [State.delivering, State.allJobs, State.fixOutcome, State.modify] using quiet)]
  exact ⟨(modify_sheds s r.id r.id _).trans ended.sheds, ended.chains.trans chains,
    fun id other => (ended.others id other).trans (request_modify_other other (fun _ => by rfl)), ended.finished, ended.jobs, ended.cleared⟩

/-! ### The posting of a chain of two -/

/-- Records of the first members of a chain of two are posted in submission order (R55). -/
theorem post_of_pair {u : State} {i k : Nat} {xs : List (Nat × Completion)}
    (chains : u.queue.held.map (fun q => (q.id, q.chain)) = [(i, some i), (k, some i)]) (older : i < k) (finished : u.queue.finished = xs)
    (ids : [i, k].take xs.length = xs.map Prod.fst) (few : xs.length ≤ 2) (room : u.port.fifo.length + xs.length ≤ 16) :
    u.post = { u with port := { u.port with fifo := u.port.fifo ++ xs.map Prod.snd }
                      queue := { u.queue with held := u.queue.held.drop xs.length, finished := [] } } := by
  have all : u.queue.held.map (·.id) = [i, k] := by simpa [Function.comp_def] using congrArg (List.map Prod.fst) chains
  have chain : ∀ r ∈ u.queue.held, r.chain = some i := fun r hr => by
    have mem : (r.id, r.chain) ∈ [(i, some i), (k, some i)] := chains ▸ List.mem_map_of_mem hr
    rcases List.mem_cons.mp mem with e | mem
    · exact (Prod.mk.inj e).2
    · exact (Prod.mk.inj (List.mem_singleton.mp mem)).2
  have ascending : u.queue.held.Pairwise (fun p q => p.id < q.id) := by
    have mapped : (u.queue.held.map (·.id)).Pairwise (· < ·) := by rw [all]; simpa using older
    exact List.pairwise_map.mp mapped
  have two : u.queue.held.length = 2 := by simpa using congrArg List.length all
  exact postUpTo_chain finished chain ascending (by rw [all]; exact ids) room (by rw [two]; exact few.trans (Nat.le_add_right 2 _))

/-- Two members of one chain are all that `s` holds, both at work with no job (R144). -/
structure Pair (s : State) (p q : Request) : Prop where
  still  : Still s
  held   : s.queue.held = [p, q]
  older  : p.id < q.id
  pchain : p.chain = some p.id
  qchain : q.chain = some p.id
  popen  : p.state ≠ .finished
  qopen  : q.state ≠ .finished
  jobs   : s.allJobs = []

section Pair
variable {s : State} {p q : Request} (pair : Pair s p q)
include pair

theorem Pair.chains : s.queue.held.map (fun r => (r.id, r.chain)) = [(p.id, some p.id), (q.id, some p.id)] := by
  simp [pair.held, pair.pchain, pair.qchain]

theorem Pair.first : s.request p.id = some p := by simp [State.request, pair.held]

theorem Pair.second : s.request q.id = some q := by simp [State.request, pair.held, pair.older.ne]

theorem Pair.quiet (id : Nat) : s.delivering id = false := by simp [State.delivering, pair.jobs]

/-- A member's end leaves the station still but for the records that wait. -/
theorem Pair.still_of {v : State} (power : v.powered = s.powered) (refreshing : ∀ f, v.refreshing f = s.refreshing f) (waits : v.cache.waits = [])
    (finished : v.queue.finished = []) (jobs : ∀ j ∈ v.allJobs, j ∈ s.allJobs) (length : v.cache.frames.length = s.cache.frames.length)
    (frames : ∀ n, v.frame n = s.frame n ∨ v.frame n = Frame.free) : Still v := by
  have none_ : v.allJobs = [] := List.eq_nil_iff_forall_not_mem.mpr (fun j hj => by simpa [pair.jobs] using jobs j hj)
  refine ⟨power.trans pair.still.powered, waits, finished, fun n hn => ?_⟩
  rcases frames n with same | free
  · have before := pair.still.spent n (by simpa [State.frameNumbers, length] using hn)
    have hold : v.hold n = s.hold n := by simp [State.hold, none_, pair.jobs]
    simpa [State.spent, same, hold, refreshing] using before
  · exact not_spent_of_free free

omit pair in
/-- What one end and then another leave of a frame. -/
theorem Finishes.frames {t u : State} {c e : Completion} (first : Finishes s p c t) (second : Finishes t q e u) (n : Nat) :
    u.frame n = s.frame n ∨ u.frame n = Frame.free := by
  rcases second.sheds.frames n with same | ⟨-, free⟩
  · rcases first.sheds.frames n with before | ⟨-, free⟩
    · exact .inl (same.trans before)
    · exact .inr (same.trans free)
  · exact .inr free

end Pair

/-- The station `t` at rest with a chain of two ended: its records `cs` are posted, the frames of its later member `q` are free (R36, R54, R55). -/
structure PairAtRest (s : State) (q : Request) (cs : List Completion) (t : State) : Prop where
  fifo    : t.port.fifo = s.port.fifo ++ cs
  held    : t.queue.held = []
  unit    : t.unit = s.unit
  seq     : t.seq = Sequencer.idle
  entries : t.faults.entries = s.faults.entries
  staged  : ∀ g, (s.frame g).owner = some q.id → (s.frame g).state = .staged → t.frame g = Frame.free
  access  : t.access.state = .idle
  hold    : t.lines.hold = false
  drivers : t.drive.enabled = false

/-- Both members have ended and nothing else is to do: the records are posted and the line released (R36, R55). -/
theorem Pair.rests {s t u : State} {p q : Request} (pair : Pair s p q) {c e : Completion} (first : Finishes s p c t) (second : Finishes t q e u)
    (room : s.port.fifo.length + 2 ≤ 16) (idle : s.seq = Sequencer.idle) (fresh : s.cache.refresh = []) (mounted : s.cart.state = .mounted) :
    PairAtRest s q [c, e] (u.post.tidy.selectionPoint).settle := by
  have fifo : u.port.fifo = s.port.fifo := second.sheds.fifo.trans first.sheds.fifo
  have finished : u.queue.finished = [(p.id, c), (q.id, e)] := by
    rw [second.finished, first.finished, pair.still.finished]
    rfl
  have chains := (second.chains.trans first.chains).trans pair.chains
  have two : u.queue.held.length = 2 := by simpa using congrArg List.length chains
  have posted := post_of_pair chains pair.older finished (by rfl) (le_refl 2) (by rw [fifo]; exact room)
  let v : State := { u with port := { u.port with fifo := u.port.fifo ++ [c, e] }
                            queue := { u.queue with held := u.queue.held.drop 2, finished := [] } }
  have posted : u.post = v := posted
  have only : u = { s with port := u.port, queue := u.queue, faults := u.faults, cache := u.cache, monitor := u.monitor, freeDraws := u.freeDraws } := by
    rw [second.sheds.only, first.sheds.only]
  have seq : v.seq = s.seq := by rw [show v.seq = u.seq from rfl, only]
  have cart : v.cart = s.cart := by rw [show v.cart = u.cart from rfl, only]
  have unit : v.unit = s.unit := by rw [show v.unit = u.unit from rfl, only]
  have frames (n : Nat) : v.frame n = s.frame n ∨ v.frame n = Frame.free := first.frames second n
  have still : Still v := pair.still_of (by rw [show v.powered = u.powered from rfl, only])
    (fun f => by rw [State.refreshing, seq]; rfl)
    (second.sheds.waits (first.sheds.waits pair.still.waits)) rfl (fun j hj => first.jobs j (second.jobs j hj))
    (second.sheds.length.trans first.sheds.length) frames
  have nothing : v.queue.held = [] := List.drop_eq_nil_of_le two.le
  have work : NoWork v := by
    refine ⟨nothing, fun _ => List.eq_nil_iff_forall_not_mem.mpr (fun x hx => ?_), by rw [cart, mounted]; decide⟩
    have before := first.sheds.refresh x (second.sheds.refresh x hx)
    simp [fresh] at before
  have rest := rests_of_noWork still (fun f => by simp [State.refreshing, seq, idle, Sequencer.idle]) work
  rw [post_of_nil v still.finished, ← posted] at rest
  refine ⟨?_, ?_, ?_, ?_, ?_, fun g owner staged => ?_, rest.access, rest.hold, rest.drivers⟩
  · rw [rest.port, posted, ← fifo]
  · rw [rest.queue, posted]
    exact nothing
  · rw [rest.unit, posted, unit]
  · rw [rest.seq, posted, seq, idle]
  · rw [rest.faults, posted]
    exact second.sheds.entries.trans first.sheds.entries
  · rw [rest.toSameRecords.frame, posted]
    rcases frames g with same | free
    · have cleared : (v.frame g).unreadOf q.id = false := second.cleared g
      rw [same] at cleared
      simp [Frame.unreadOf, owner, staged] at cleared
    · exact free

/-! ### The start of the next member -/

/-- The record of a sector that a write has yet to send (R88, R91). -/
def writeRec (i : Nat) : SectorRec := SectorRec.start .write i

/-- The sequencer has begun the write `q` (R82, R88, R89). -/
structure Begun (q : Request) (x : Sequencer) : Prop where
  work    : x.work = some (.request q.id)
  cyl     : x.cyl = q.addr.cyl
  visit   : x.visit = none
  retried : x.retried = false
  recs    : x.recs = q.undone.map writeRec

/-- The positioning sets the state, the visit and the pass of the sequencer alone, and the line stays as it is (R89). -/
theorem position_keeps (s : State) : s.position.seq.work = s.seq.work ∧ s.position.seq.cyl = s.seq.cyl ∧ s.position.seq.visit = none
    ∧ s.position.seq.retried = s.seq.retried ∧ s.position.seq.recs = s.seq.recs ∧ s.position.access = s.access ∧ s.position.lines = s.lines := by
  unfold State.position State.search State.beginSeek State.strobeSeek State.closeGates State.mapSeq
  dsimp only
  repeat' split
  all_goals exact ⟨rfl, rfl, rfl, rfl, rfl, rfl, rfl⟩

/-- A write's start allocates nothing: its frames are STAGED (R112). -/
theorem startMember_of_write (s : State) {q : Request} (write : q.kind.isWrite = true) :
    SameRecords s (s.startMember q) ∧ Begun q (s.startMember q).seq ∧ (s.startMember q).access = s.access
      ∧ (s.startMember q).lines = s.lines := by
  let t : State := { s with seq := { Sequencer.idle with
    work := some (.request q.id), cyl := q.addr.cyl, recs := q.undone.map (SectorRec.start q.kind.purpose) } }
  have none_ : q.fillIdx = [] := by cases kind : q.kind <;> simp_all [Request.fillIdx, Kind.isWrite]
  have purpose : q.kind.purpose = .write := if_pos write
  have started : s.startMember q = t.position := by
    unfold State.startMember
    rw [none_]
    rfl
  obtain ⟨work, cyl, visit, retried, recs, access, lines⟩ := position_keeps t
  have same := position_sameRecords t
  rw [started]
  exact ⟨⟨same.powered, same.zones, same.port, same.queue, same.faults, same.cache, same.unit, same.cart⟩,
    ⟨work, cyl, visit, retried, recs.trans (by rw [show t.seq.recs = q.undone.map (SectorRec.start q.kind.purpose) from rfl, purpose]; rfl)⟩,
    access, lines⟩

/-- The first member's record is posted behind the start of the next, a write, which stays held alone (R55, R144). -/
structure NextBegun (s : State) (q : Request) (c : Completion) (t : State) : Prop where
  fifo    : t.port.fifo = s.port.fifo ++ [c]
  held    : t.queue.held = [q]
  unit    : t.unit = s.unit
  begun   : Begun q t.seq
  access  : t.access = s.access
  lines   : t.lines = s.lines
  entries : t.faults.entries = s.faults.entries

theorem Pair.begins {s t : State} {p q : Request} (pair : Pair s p q) {c : Completion} (first : Finishes s p c t) (write : q.kind.isWrite = true)
    (room : s.port.fifo.length < 16) (idle : s.seq = Sequencer.idle) (tenure : s.access.state = .holding) :
    NextBegun s q c ((t.startMember q).post.tidy).settle := by
  obtain ⟨same, begun, access, lines⟩ := startMember_of_write t write
  let u := t.startMember q
  have fifo : u.port.fifo = s.port.fifo := by rw [same.port]; exact first.sheds.fifo
  have finished : u.queue.finished = [(p.id, c)] := by
    rw [same.queue, first.finished, pair.still.finished]
    rfl
  have chains : u.queue.held.map (fun r => (r.id, r.chain)) = [(p.id, some p.id), (q.id, some p.id)] := by
    rw [same.queue, first.chains, pair.chains]
  have posted := post_of_pair chains pair.older finished (by rfl) (Nat.le_succ 1) (by rw [fifo]; exact room)
  let v : State := { u with port := { u.port with fifo := u.port.fifo ++ [c] }
                            queue := { u.queue with held := u.queue.held.drop 1, finished := [] } }
  have posted : u.post = v := posted
  have only := first.sheds.only
  have left : v.queue.held = [q] := by
    have there : u.request q.id = some q := by
      rw [State.request, same.queue]
      exact (first.others q.id pair.older.ne').trans pair.second
    obtain ⟨x, y, e⟩ : ∃ x y, u.queue.held = [x, y] := List.length_eq_two.mp (by simpa using congrArg List.length chains)
    have ids : x.id = p.id ∧ y.id = q.id := by
      rw [e] at chains
      simp only [List.map_cons, List.map_nil, List.cons.injEq, Prod.mk.injEq] at chains
      exact ⟨chains.1.1, chains.2.1.1⟩
    have found : u.request q.id = some y := by simp [State.request, e, ids.1, ids.2, pair.older.ne]
    rw [there] at found
    cases found
    change u.queue.held.drop 1 = [q]
    rw [e]
    rfl
  have frames (n : Nat) : v.frame n = s.frame n ∨ v.frame n = Frame.free := by
    rw [show v.frame n = t.frame n from same.frame n]
    exact (first.sheds.frames n).imp_right And.right
  have refreshing (f : Nat) : v.refreshing f = s.refreshing f := by
    simp [State.refreshing, show v.seq.work = some (.request q.id) from begun.work, idle, Sequencer.idle]
  have still : Still v := by
    refine pair.still_of (same.powered.trans (by rw [only])) refreshing ?_ rfl (fun j hj => first.jobs j ?_) ?_ frames
    · rw [show v.cache = t.cache from same.cache]
      exact first.sheds.waits pair.still.waits
    · simpa [State.allJobs, v, u, same.port] using hj
    · rw [show v.cache = t.cache from same.cache]
      exact first.sheds.length
  have holding : v.access.state = .holding := by rw [show v.access = t.access from access, only]; exact tenure
  have settled : ((t.startMember q).post.tidy).settle = v := by
    rw [show t.startMember q = u from rfl, posted, tidy_of_still still, settle_of_steady still (steady_of_holding holding)]
  rw [settled]
  exact ⟨by rw [← fifo], left, same.unit.trans (by rw [only]), begun, access.trans (by rw [only]), lines.trans (by rw [only]),
    (congrArg Faults.entries same.faults).trans first.sheds.entries⟩

/-! ### The records -/

/-- A success without an update's words (R67, R68, R146). -/
theorem endRecord_of_success {s : State} {r : Request} {o : ReqOutcome} (ok : o = .done ∨ o = .doneRetried ∨ o = .skipped)
    (plain : r.kind ≠ .update ∨ o = .skipped) (accepted : r.refusedAt = none) :
    (s.endRecord r o none).tag = r.tag ∧ (s.endRecord r o none).outcome = o ∧ (s.endRecord r o none).sectors = r.done.length
      ∧ (s.endRecord r o none).wordA = 0 ∧ (s.endRecord r o none).wordB = 0 ∧ (s.endRecord r o none).source = r.recordSource
      ∧ (r.chain.isSome = true → (s.endRecord r o none).flags = s.unit.flags) := by
  have success : o.isSuccess = true := by rcases ok with rfl | rfl | rfl <;> rfl
  have fails : o.isFailure = false := by rcases ok with rfl | rfl | rfl <;> rfl
  have refused : r.refusal o = none := by simp [Request.refusal, accepted]
  have outcome : r.endOutcome o = o := by simp [Request.endOutcome, refused]
  have words : (s.fixOutcome r o none).failureWords (s.fixedRequest r o none) o = (0, 0, s.fixOutcome r o none) := by
    have kind : (s.fixedRequest r o none).kind = r.kind := rfl
    rcases plain with other | rfl
    · simp [State.failureWords, fails, kind, other]
    · simp [State.failureWords, fails]
  refine ⟨rfl, outcome, rfl, ?_, ?_, rfl, fun chained => ?_⟩
  · simp only [State.endRecord, Request.record, outcome, words]
  · simp only [State.endRecord, Request.record, outcome, words]
  · have flags : (s.fixedRequest r o none).flags = s.unit.flags := by simp [State.fixedRequest, Request.fixed, chained]
    simp only [State.endRecord, Request.record, outcome, success, if_true, flags]

end Sys2Proof.Machine
end

section
/-! PROOF. A chain opened, closed and run (O31). -/

namespace Sys2Proof.Machine

/-! ### The work of the first member ends -/

/-- The outcome of work that succeeds (R98, R99). -/
def State.goodEnd (s : State) : ReqOutcome := if s.seq.retried = true then .doneRetried else .done

theorem goodEnd_cases (s : State) : s.goodEnd = .done ∨ s.goodEnd = .doneRetried := (ite_eq_or_eq _ _ _).symm

/-- The end of a member's work goes on with the later ones (R99, R144). -/
theorem workSucceeds_eq (s : State) (r : Request) :
    s.workSucceeds r =
      let x := (s.requestDecided r s.goodEnd none).runChain (s.laterMembers r)
      if x.2 = true then x.1.post.tidy else x.1.post.tidy.selectionPoint := by
  unfold State.workSucceeds State.requestSucceeds
  rw [show (if s.seq.retried = true then ReqOutcome.doneRetried else .done) = s.goodEnd from rfl]
  dsimp only
  generalize (s.requestDecided r s.goodEnd none).runChain (s.laterMembers r) = x
  obtain ⟨t, started⟩ := x
  cases started with
  | true => rw [if_pos rfl]
  | false => rw [if_neg Bool.false_ne_true]

/-- The member behind the first of a pair at work (R144). -/
theorem laterMembers_of_pair {s : State} {p q : Request} (held : s.queue.held = [p, q]) (older : p.id < q.id) (pchain : p.chain = some p.id)
    (qchain : q.chain = some p.id) (running : q.state = .running) : s.laterMembers p = [q.id] := by
  simp [State.laterMembers, State.group, pchain, held, qchain, older, running]

/-- The unit at rest, its flags as given, and the sequencer IDLE (R88, R139). -/
def State.memberOver (s : State) (flags : CondFlags) : State := { s.seqIdle with unit := { inProgress := none, flags := flags } }

theorem memberOver_still {s : State} (still : Still s) {id : Nat} (work : s.seq.work = some (.request id)) (flags : CondFlags) :
    Still (s.memberOver flags) :=
  (still.seqIdle (fun f => by simp [State.refreshing, work])).of_frames rfl rfl rfl rfl rfl rfl rfl (fun _ => .inl rfl)

/-- The flags that a good end of a CHECK in a chain leaves (R146). -/
def State.zSet (s : State) : CondFlags := { s.unit.flags with z := true }

/-- The station when a CHECK's sector has been read good, its words in the frame and the sector done (R94). -/
def State.checkRead (s : State) (r : Request) (idx f : Nat) (ws : List Word) : State :=
  ((s.modify r.id (fun x => x.markDone idx .disk)).putWords f ws).recDone idx

/-- The CHECK that heads a chain of two has read its last sector good (R94, R99, R144). -/
theorem fieldRead_of_lastCheck {s : State} {d : DataField} {p q : Request} {idx f : Nat} (visiting : Visiting s .reading p idx)
    (frame : s.seq.frame = some f) (sync : d.sync = true) (good : fieldWordsGood d.words = true) (check : p.kind = .check)
    (last : s.seq.pendingIdx = [idx]) (held : s.queue.held = [p, q]) (older : p.id < q.id) (pchain : p.chain = some p.id)
    (qchain : q.chain = some p.id) (running : q.state = .running) :
    s.fieldRead d =
      let b := (s.checkRead p idx f (d.words.take 256)).memberOver s.zSet
      let x := (b.endRequest p.id s.goodEnd none).runChain [q.id]
      if x.2 = true then x.1.post.tidy else x.1.post.tidy.selectionPoint := by
  let t := s.checkRead p idx f (d.words.take 256)
  let p' := p.markDone idx .disk
  have id : p'.id = p.id := markDone_id p idx .disk
  have chain : p'.chain = some p.id := by rw [show p' = _ from markDone_only p idx .disk]; exact pchain
  have heldNow : t.queue.held = [p', q] := by
    change s.queue.held.map _ = _
    simp [held, older.ne', p']
  have pending : t.seq.noPending = true := by
    have none_ : t.seq.pendingIdx = [] := by
      rw [show t.seq.pendingIdx = _ from pendingIdx_recDone _ idx]
      change s.seq.pendingIdx.filter (· != idx) = []
      simp [last]
    simp [Sequencer.noPending, none_]
  have there : t.request p.id = some p' := by simp [State.request, heldNow, id]
  have later : t.laterMembers p' = [q.id] :=
    laterMembers_of_pair heldNow (by rw [id]; exact older) (by rw [id]; exact chain) (by rw [id]; exact qchain) running
  have flags (o : ReqOutcome) (ok : o.isSuccess = true) : endFlags p' o s.unit.flags = s.zSet := by
    have kind : p'.kind = .check := by rw [markDone_kind, check]
    simp [endFlags, ok, chain, kind, State.zSet]
  have decided : t.requestDecided p' s.goodEnd none
      = (t.memberOver s.zSet).endRequest p.id s.goodEnd none := by
    rw [State.requestDecided, id, show t.unit = s.unit from rfl, flags _ (by rcases goodEnd_cases s with e | e <;> rw [e] <;> rfl)]
    rfl
  have read : s.requestReadGood p idx f (d.words.take 256) = t.continueRequest p.id := by
    simp only [State.requestReadGood, check]
    rfl
  rw [fieldRead_update visiting frame sync good, read, State.continueRequest, if_pos pending, there]
  dsimp only
  rw [workSucceeds_eq, later, show t.goodEnd = s.goodEnd from rfl, decided]

/-- A chain's first member fails at a header marked bad, its fault the first listed (R93, R99, R103, R147). -/
theorem header_of_pair_markedBad {s : State} {h : HeaderField} {p q : Request} {idx : Nat} (visiting : Visiting s .searching p idx)
    (marked : headerClass h (sectorAt s.seq.cyl idx) = .matchingBad) (unsent : s.seq.unverified = []) (none_ : s.faults.entries = [])
    (configured : s.zones.configured = true) (held : s.queue.held = [p, q]) (older : p.id < q.id) (pchain : p.chain = some p.id)
    (qchain : q.chain = some p.id) (running : q.state = .running) :
    s.header h =
      let b := (s.withFirstFault (sectorAt s.seq.cyl idx)).memberOver CondFlags.clear
      ((b.endRequest p.id .markedBad (some (sectorAt s.seq.cyl idx))).finish q.id .chainAborted).post.tidy.selectionPoint := by
  let t := s.withFirstFault (sectorAt s.seq.cyl idx)
  have lists : s.listFault (.sector (sectorAt s.seq.cyl idx)) .markedBad .own = t := listFault_of_empty configured none_ _ _ _
  have solid : s.refreshVoid = false := by simp only [State.refreshVoid, visiting.work]
  have class_ : headerClass h (s.seq.sectorAddr idx) = .matchingBad := marked
  have there : t.request p.id = some p := visiting.held
  have torn : t.settleFailedWrite .markedBad = t := by
    unfold State.settleFailedWrite
    rw [show t.seq.unverified = [] from unsent]
    rfl
  have later : t.laterMembers p = [q.id] := laterMembers_of_pair held older pchain qchain running
  simp only [State.header, visiting.state, visiting.visit, State.takeHeader, class_, solid, State.workFails]
  rw [if_neg (by decide)]
  simp only [Sequencer.sectorAddr, lists, show t.seq.work = some (.request p.id) from visiting.work, there, torn, State.requestFails, later]
  rfl

/-! ### The next member is tested -/

/-- A member whose condition does not hold is SKIPPED (R145). -/
theorem runChain_of_skipped {s : State} {q : Request} (there : s.request q.id = some q) (fails : q.cond.holds s.unit.flags = false) :
    s.runChain [q.id] = (s.endRequest q.id .skipped none, false) := by
  simp only [State.runChain, there, fails]
  rfl

/-- One whose condition holds is started (R144). -/
theorem runChain_of_started {s : State} {q : Request} (there : s.request q.id = some q) (holds : q.cond.holds s.unit.flags = true) :
    s.runChain [q.id] = (s.startMember q, true) := by
  simp only [State.runChain, there, holds, if_true]

/-! ### The chain of two at work -/

/-- A chain of two at work in the station's own tenure, with no job and nothing else to do. -/
structure Running (s : State) (p q : Request) : Prop where
  still    : Still s
  held     : s.queue.held = [p, q]
  older    : p.id < q.id
  pchain   : p.chain = some p.id
  qchain   : q.chain = some p.id
  pstate   : p.state = .running
  qstate   : q.state = .running
  prefused : p.refusedAt = none
  qrefused : q.refusedAt = none
  jobs     : s.allJobs = []
  refresh  : s.cache.refresh = []
  mounted  : s.cart.state = .mounted
  room     : s.port.fifo.length + 2 ≤ 16

theorem Running.sample {s : State} {p q : Request} (h : Running s p q) (l : Lines) : Running (s.sample l) p q :=
  { h with still := h.still.of_frames rfl rfl rfl rfl rfl rfl rfl (fun _ => .inl rfl) }

theorem Visiting.sample {s : State} {st : SeqState} {r : Request} {idx : Nat} (h : Visiting s st r idx) (l : Lines) :
    Visiting (s.sample l) st r idx := { h with }

section CheckOver
variable {s : State} {p q : Request} (run : Running s p q) (idx f : Nat) (ws : List Word) (work : s.seq.work = some (.request p.id))
include run work

/-- The pair right before the CHECK's end is decided. -/
theorem Running.checkOver (flags : CondFlags) : Pair ((s.checkRead p idx f ws).memberOver flags) (p.markDone idx .disk) q := by
  have only := markDone_only p idx .disk
  have read : Still (s.checkRead p idx f ws) := run.still.of_frames rfl rfl rfl rfl rfl rfl rfl (fun _ => .inl rfl)
  have working : (s.checkRead p idx f ws).seq.work = some (.request p.id) := Eq.trans (by rfl) work
  have jobs : ((s.checkRead p idx f ws).memberOver flags).allJobs = [] := by
    rw [State.allJobs]
    exact run.jobs
  refine ⟨memberOver_still (id := p.id) read working flags, ?_, by rw [only]; exact run.older, by rw [only]; exact run.pchain,
    by rw [only]; exact run.qchain, by rw [only, run.pstate]; decide, by rw [run.qstate]; decide, jobs⟩
  change s.queue.held.map _ = _
  simp [run.held, run.older.ne']

/-- The CHECK's end decided: its record, and the next member as it was (R54, R146). -/
theorem Running.checkEnds {o : ReqOutcome} (ok : o = .done ∨ o = .doneRetried) (check : p.kind = .check) (left : idx ∉ p.done) :
    let b := (s.checkRead p idx f ws).memberOver s.zSet
    let t := b.endRequest p.id o none
    ∃ c, Finishes b (p.markDone idx .disk) c t ∧ t.request q.id = some q ∧ t.unit.flags = s.zSet ∧ t.delivering q.id = false
      ∧ c.tag = p.tag ∧ c.outcome = o ∧ c.sectors = p.done.length + 1 ∧ c.wordA = 0 ∧ c.wordB = 0 ∧ c.flags = s.zSet := by
  intro b t
  let p' := p.markDone idx .disk
  have only : p' = _ := markDone_only p idx .disk
  have pair := run.checkOver idx f ws work s.zSet
  have first : Finishes b p' (b.endRecord p' o none) t := by
    have id : p'.id = p.id := markDone_id p idx .disk
    have ends := endRequest_finishes pair.first pair.popen (pair.quiet _) o none
    rwa [id] at ends
  obtain ⟨tag, outcome, sectors, wordA, wordB, -, flags⟩ := endRecord_of_success (s := b) (r := p') (o := o) (by tauto)
    (.inl (by rw [markDone_kind, check]; decide)) (by rw [only]; exact run.prefused)
  have jobs : t.allJobs = [] := List.eq_nil_iff_forall_not_mem.mpr (fun j hj => by
    have old := first.jobs j hj
    rw [show b.allJobs = [] from pair.jobs] at old
    exact List.not_mem_nil old)
  refine ⟨_, first, (first.others q.id pair.older.ne').trans pair.second, by rw [first.sheds.only]; rfl, by simp [State.delivering, jobs], ?_,
    outcome, ?_, wordA, wordB, flags (by rw [only, run.pchain]; rfl)⟩
  · rw [tag, only]
  · rw [sectors, show p' = p.markDone idx .disk from rfl, markDone_of_left left]
    exact List.length_append

end CheckOver

/-- The record of the CHECK that ended (R67, R144, R146). -/
def CheckRecord (s : State) (p : Request) (c : Completion) : Prop :=
  c.tag = p.tag ∧ c.outcome = s.goodEnd ∧ c.sectors = p.done.length + 1 ∧ c.wordA = 0
    ∧ c.wordB = 0 ∧ c.flags = s.zSet

/-- The field of the CHECK's last sector, read good. -/
structure LastCheck (s : State) (p : Request) (idx f : Nat) (d : DataField) : Prop where
  visiting : Visiting s .reading p idx
  frame    : s.seq.frame = some f
  last     : s.seq.pendingIdx = [idx]
  left     : idx ∉ p.done
  check    : p.kind = .check
  sync     : d.sync = true
  good     : fieldWordsGood d.words = true

theorem LastCheck.sample {s : State} {p : Request} {idx f : Nat} {d : DataField} (h : LastCheck s p idx f d) (l : Lines) :
    LastCheck (s.sample l) p idx f d := { h with visiting := h.visiting.sample l }

/-- The next member's condition fails on Z: it is SKIPPED, and both records are posted (R145, R146). -/
theorem fieldRead_skips {s : State} {p q : Request} {idx f : Nat} {d : DataField} (run : Running s p q) (read : LastCheck s p idx f d)
    (cond : q.cond = .ifNZ) :
    ∃ c e, PairAtRest ((s.checkRead p idx f (d.words.take 256)).memberOver s.zSet) q [c, e] (s.fieldRead d).settle ∧ CheckRecord s p c
      ∧ e.tag = q.tag ∧ e.outcome = .skipped ∧ e.sectors = q.done.length ∧ e.source = q.recordSource ∧ e.wordA = 0 ∧ e.wordB = 0 := by
  let ws := d.words.take 256
  let b := (s.checkRead p idx f ws).memberOver s.zSet
  let t := b.endRequest p.id s.goodEnd none
  have pair := run.checkOver idx f ws read.visiting.work s.zSet
  obtain ⟨c, first, there, flags, quiet, record⟩ := run.checkEnds idx f ws read.visiting.work (goodEnd_cases s) read.check read.left
  have second := endRequest_finishes there pair.qopen quiet .skipped none
  obtain ⟨tag, outcome, sectors, wordA, wordB, source, -⟩ :=
    endRecord_of_success (s := t) (r := q) (o := .skipped) (.inr (.inr rfl)) (.inr rfl) run.qrefused
  have rest := pair.rests first second run.room rfl run.refresh run.mounted
  refine ⟨c, t.endRecord q .skipped none, ?_, record, tag, outcome, sectors, source, wordA, wordB⟩
  rw [fieldRead_of_lastCheck read.visiting read.frame read.sync read.good read.check read.last run.held run.older run.pchain run.qchain run.qstate]
  dsimp only
  rw [runChain_of_skipped there (by rw [cond, flags]; rfl), if_neg (by exact Bool.false_ne_true)]
  exact rest

/-- The next member, a write of another condition, is started in the same tenure (R144). -/
theorem fieldRead_begins {s : State} {p q : Request} {idx f : Nat} {d : DataField} (run : Running s p q) (read : LastCheck s p idx f d)
    (cond : q.cond ≠ .ifNZ) (write : q.kind.isWrite = true) :
    ∃ c, NextBegun ((s.checkRead p idx f (d.words.take 256)).memberOver s.zSet) q c (s.fieldRead d).settle ∧ CheckRecord s p c := by
  let ws := d.words.take 256
  have pair := run.checkOver idx f ws read.visiting.work s.zSet
  obtain ⟨c, first, there, flags, -, record⟩ := run.checkEnds idx f ws read.visiting.work (goodEnd_cases s) read.check read.left
  have holds : q.cond.holds ((s.checkRead p idx f ws).memberOver s.zSet |>.endRequest p.id s.goodEnd none).unit.flags = true := by
    rw [flags]
    cases named : q.cond with
    | ifNZ => exact absurd named cond
    | always => rfl
    | ifZ => rfl
  have begun := pair.begins first write (Nat.lt_of_succ_lt run.room) rfl read.visiting.tenure
  refine ⟨c, ?_, record⟩
  rw [fieldRead_of_lastCheck read.visiting read.frame read.sync read.good read.check read.last run.held run.older run.pchain run.qchain run.qstate]
  dsimp only
  rw [runChain_of_started there holds, if_pos (by rfl)]
  exact begun

/-- The first member fails at a header marked bad, and the next ends CHAIN-ABORTED (R147). -/
theorem header_aborts {s : State} {h : HeaderField} {p q : Request} {idx : Nat} (run : Running s p q) (visiting : Visiting s .searching p idx)
    (marked : headerClass h (sectorAt s.seq.cyl idx) = .matchingBad) (unsent : s.seq.unverified = []) (none_ : s.faults.entries = [])
    (configured : s.zones.configured = true) (drive : p.kind.isDrive = true) :
    ∃ c e, PairAtRest ((s.withFirstFault (sectorAt s.seq.cyl idx)).memberOver CondFlags.clear) q [c, e] (s.header h).settle
      ∧ c.tag = p.tag ∧ c.outcome = .markedBad ∧ c.sectors = p.done.length ∧ c.wordA = (sectorAt s.seq.cyl idx).word
      ∧ e.tag = q.tag ∧ e.outcome = .chainAborted ∧ e.sectors = q.done.length := by
  let b := (s.withFirstFault (sectorAt s.seq.cyl idx)).memberOver CondFlags.clear
  let a := sectorAt s.seq.cyl idx
  let t := b.endRequest p.id .markedBad (some a)
  have listed : Still (s.withFirstFault a) := run.still.of_frames rfl rfl rfl rfl rfl rfl rfl (fun _ => .inl rfl)
  have pair : Pair b p q := ⟨memberOver_still (id := p.id) listed visiting.work _, run.held, run.older, run.pchain, run.qchain,
    by rw [run.pstate]; decide, by rw [run.qstate]; decide, run.jobs⟩
  have first : Finishes b p (b.endRecord p .markedBad (some a)) t := endRequest_finishes pair.first pair.popen (pair.quiet _) .markedBad (some a)
  have there : t.request q.id = some q := (first.others q.id pair.older.ne').trans pair.second
  have second : Finishes t q (t.finishRecord q .chainAborted) (t.finish q.id .chainAborted) := (finish_ended there pair.qopen _).finishes
  obtain ⟨tag, -, outcome, sectors, wordA⟩ := endRecord_of_failure (s := b) (r := p) (o := .markedBad) rfl rfl drive (some a)
  have rest := pair.rests first second run.room rfl run.refresh run.mounted
  refine ⟨b.endRecord p .markedBad (some a), t.finishRecord q .chainAborted, ?_, tag, outcome, sectors, wordA, rfl, rfl, rfl⟩
  rw [header_of_pair_markedBad visiting marked unsent none_ configured run.held run.older run.pchain run.qchain run.qstate]
  exact rest

end Sys2Proof.Machine
end

section
/-! PROOF. The blocks that open and close a chain (O31). -/

namespace Sys2Proof.Machine

/-! ### The block that opens a chain -/

/-- A drive block that meets the conditions, alone or with CONTINUES, is not refused (R48 to R51). -/
theorem refusal_of_opening {s : State} {k : Kind} {b : BlockBody} (accepts : Accepts s k b) (staged : s.stagedMembers = []) :
    s.refusal { kindCode := k.code, body := b } = none := by
  have pass := accepts.toPasses
  have range := pass.range
  have addressed : ¬(399 < b.cyl.toNat ∨ 1 < b.head.toNat ∨ 19 < b.sector.toNat ∨ b.count = 0
      ∨ 40 < b.head.toNat * 20 + b.sector.toNat + b.count.toNat ∨ (k = .update ∧ b.count ≠ 1) ∨ 30000 < b.deadline.toNat) := by
    rintro (h | h | h | h | h | ⟨update, h⟩ | h)
    · exact absurd range.cylinder (by omega)
    · exact absurd range.head (by omega)
    · exact absurd range.sector (by omega)
    · exact absurd range.least (by simp [h])
    · exact absurd range.most (by omega)
    · exact h (pass.operation update).2
    · exact absurd pass.deadline (by omega)
  have kind : ¬(b.condCode = 3 ∨ (k = .update ∧ 4 < b.opCode.toNat)) := by
    rintro (h | ⟨update, h⟩)
    · exact pass.condition h
    · exact absurd (pass.operation update).1 (by omega)
  have writes : ¬((k.isWrite || (k == .update && b.opCode != 2)) && (blockIndices b).any (fun i => s.zones.refusesWrite (blockSector b i))) = true := by
    intro h
    obtain ⟨writes, some_⟩ := Bool.and_eq_true_iff.mp h
    obtain ⟨i, hi, refuses⟩ := List.any_eq_true.mp some_
    have free := pass.writing (by simpa using writes) i hi
    rw [blockSector, free] at refuses
    cases refuses
  rw [Proofs.checksOfADriveBlock.1 s k b pass.drive staged, if_neg (by simp [pass.configured]), if_neg kind, if_neg addressed,
    if_neg (fun ⟨moves, out⟩ => absurd (pass.memory moves) (by omega)), if_neg (by simpa [freshTag] using pass.tag),
    if_neg (fun ⟨continues, pin⟩ => pass.chain continues pin), if_neg writes, if_neg (fun ⟨pin, none_⟩ => pass.cached pin none_),
    if_neg (fun ⟨loading, mounted, _⟩ => accepts.cartridge.elim loading mounted),
    if_neg (fun ⟨full, _⟩ => absurd accepts.slot (by omega)), if_neg (fun ⟨_, short⟩ => absurd accepts.frames (by omega)),
    if_neg (fun ⟨pin, many⟩ => absurd (accepts.pins pin) (not_le.mpr many))]

/-- Of the drive kinds one that writes no frame and may stand in a chain is READ, CHECK or UPDATE (R49). -/
theorem kind_of_member {k : Kind} (drive : k.isDrive = true) (plain : k.isWrite = false) (member : k ≠ .pin) :
    k = .read ∨ k = .check ∨ k = .update := by
  cases k <;> simp_all [Kind.isDrive, Kind.isWrite]

/-- The record of a request that heads a chain (R52, R56). -/
def headRequest (s : State) (k : Kind) (b : BlockBody) : Request :=
  { loneRequest s k b .pendingChain (if k = .read then b.count.toNat else 1) with chain := some s.queue.nextId }

/-- The draft of a block that opens a chain (R56). -/
theorem draft_of_opening {s : State} {k : Kind} {b : BlockBody} (staged : s.stagedMembers = []) (continues : b.continues = true)
    (chainable : k.chainable = true) : s.draft k b = { loneRequest s k b .waiting 0 with chain := some s.queue.nextId } := by
  have due : (s.clock + BitVec.ofNat 32 (if b.deadline = 0 then Config.implicitDeadline else b.deadline.toNat)) = dueOf s b := by
    unfold dueOf
    split <;> rfl
  unfold State.draft loneRequest
  simp only [staged, continues, chainable, List.head?_nil, Option.elim_none, Option.bind_none, Option.getD_none, Option.isSome_none,
    Bool.or_false, Bool.and_self, if_true, due]
  rfl

/-- It waits in PENDING-CHAIN (R56). -/
theorem acceptDrive_of_opening {s : State} {k : Kind} {b : BlockBody} (staged : s.stagedMembers = []) (continues : b.continues = true)
    (kind : k = .read ∨ k = .check ∨ k = .update) : s.acceptDrive k b = s.insert (headRequest s k b) := by
  have draft := draft_of_opening (k := k) staged continues (by rcases kind with rfl | rfl | rfl <;> rfl)
  have unserved : s.readServed k b = false := by simp [State.readServed, draft]
  have plain : k.isWrite = false := by rcases kind with rfl | rfl | rfl <;> rfl
  have other : k ≠ .pin := by rcases kind with rfl | rfl | rfl <;> decide
  have need : k.need b.count.toNat = if k = .read then b.count.toNat else 1 := by rcases kind with rfl | rfl | rfl <;> rfl
  have unstaged : (s.insert (headRequest s k b)).stage (headRequest s k b) = s.insert (headRequest s k b) := by
    refine if_neg ?_
    rw [show (headRequest s k b).kind = k from rfl, plain]
    decide
  unfold State.acceptDrive
  simp only [draft, unserved, Option.isSome_some, if_true, Bool.false_eq_true, if_false, need, other, continues]
  exact unstaged

/-! ### The block that closes it -/

/-- The checks that an accepted drive block has passed (R47). -/
theorem passed_of_accepted {s : State} {k : Kind} {b : BlockBody} (drive : k.isDrive = true)
    (accepted : s.refusal { kindCode := k.code, body := b } = none) : ∀ c ∈ s.checks k b, c.1 = false := by
  rw [refusal_of_drive drive, firstFailed, Option.map_eq_none_iff, List.find?_eq_none] at accepted
  exact fun c hc => by simpa using accepted c hc

/-- A PIN stands in no chain (R49). -/
theorem not_pin_of_member {s : State} {k : Kind} {b : BlockBody} (drive : k.isDrive = true) (open_ : s.stagedMembers ≠ [])
    (accepted : s.refusal { kindCode := k.code, body := b } = none) : k ≠ .pin := by
  rintro rfl
  have passed := passed_of_accepted drive accepted (s.inChain .pin b && !Kind.pin.chainable, .badKind) (by simp [State.checks])
  simp [State.inChain, open_, Kind.chainable] at passed

/-- The two members of a closed chain, with the sectors of both (R56, R58). -/
def Request.closedWith (r : Request) (hazard written : List Nat) : Request :=
  { r with hazard := hazard, hazardWritten := written, state := .waiting }

/-- A chain of two whose members need no staging closes (R56, R58). -/
theorem closeChain_of_two {s : State} {f r : Request} (held : s.queue.held = [f, r]) (older : f.id < r.id) (fchain : f.chain = some f.id)
    (rchain : r.chain = some f.id) (fmark : f.mark = none) (rmark : r.mark = none) (jobs : s.allJobs = []) (waits : s.cache.waits = []) :
    s.closeChain r =
      let hz := ([f, r].map (·.hazard)).flatten.eraseDups
      let hw := ([f, r].map (·.hazardWritten)).flatten.eraseDups
      { s with queue := { s.queue with held := [f.closedWith hz hw, r.closedWith hz hw] } } := by
  have group : s.group r = [f, r] := by simp [State.group, rchain, held, fchain]
  have closed (i : Nat) : s.stagingOpen i = false := by simp [State.stagingOpen, jobs, waits]
  unfold State.closeChain
  simp only [group, List.any_cons, List.any_nil, fmark, rmark, List.map_cons, List.map_nil, closed, Option.isSome_none, Bool.or_self,
    Bool.false_eq_true, if_false, List.foldl_cons, List.foldl_nil]
  simp [State.modify, held, older.ne, older.ne', Request.closedWith]

/-- The record of a request that joins an open chain, its staging apart (R46, R52, R58). -/
def memberRequest (s : State) (k : Kind) (b : BlockBody) : Request := { s.draft k b with state := .pendingChain, reserved := k.need b.count.toNat }

/-- It takes the chain and the due time of the first member (R46, R56). -/
theorem memberRequest_fields {s : State} {f : Request} {k : Kind} {b : BlockBody} (staged : s.stagedMembers = [f])
    (due : f.due.isSome = true) (drive : k.isDrive = true) (chainable : k.chainable = true) :
    (memberRequest s k b).chain = some f.id ∧ (memberRequest s k b).due = f.due ∧ (memberRequest s k b).hazard = blockIndices b := by
  obtain ⟨at_, due⟩ := Option.isSome_iff_exists.mp due
  simp [memberRequest, State.draft, staged, chainable, drive, due]

theorem acceptDrive_of_closing {s : State} {f : Request} {k : Kind} {b : BlockBody} (staged : s.stagedMembers = [f])
    (kind : k = .read ∨ k = .check ∨ k = .update) (closes : b.continues = false) :
    s.acceptDrive k b = (s.insert (memberRequest s k b)).closeChain (memberRequest s k b) := by
  have chainable : k.chainable = true := by rcases kind with rfl | rfl | rfl <;> rfl
  have plain : k.isWrite = false := by rcases kind with rfl | rfl | rfl <;> rfl
  have other : k ≠ .pin := by rcases kind with rfl | rfl | rfl <;> decide
  have chained : (s.draft k b).chain = some f.id := by simp [State.draft, staged, chainable]
  have unserved : s.readServed k b = false := by simp [State.readServed, chained]
  have closing : (s.draft k b).chain.isSome = true := by rw [chained]; rfl
  have unstaged : (s.insert (memberRequest s k b)).stage (memberRequest s k b) = s.insert (memberRequest s k b) := by
    refine if_neg ?_
    rw [show (memberRequest s k b).kind = k from rfl, plain]
    decide
  unfold State.acceptDrive
  simp only [closing, unserved, if_true, Bool.false_eq_true, if_false, other, closes]
  exact congrArg (State.closeChain · (memberRequest s k b)) unstaged

/-- Neither opening nor closing block is carried out from the cache, nor needs a place in the FIFO (R47, R50). -/
theorem carryOut_of_member {s : State} {k : Kind} {b : BlockBody} (kind : k = .read ∨ k = .check ∨ k = .update)
    (unmarked : ∀ m ∈ s.stagedMembers, m.mark = none) :
    s.carryOut k { kindCode := k.code, body := b } = s.acceptDrive k b ∧ s.placesOf k b = 0 := by
  have marked : s.closesMarked b = false := by
    rw [State.closesMarked, Bool.and_eq_false_iff, List.any_eq_false]
    exact .inr (fun m hm => by simp [unmarked m hm])
  have other : k ≠ .pin := by rcases kind with rfl | rfl | rfl <;> decide
  have served : s.pinServed k b = false := pinServed_of_other other b
  rcases kind with rfl | rfl | rfl <;> exact ⟨rfl, by simp [State.placesOf, served, marked]⟩

end Sys2Proof.Machine

namespace Sys2Proof.Proofs
open Sys2Proof.Machine

/-- Settles O31: the chain grows by its members' records; at work, its members end one behind the other. -/
theorem chainOpensAndCloses : Obligations.ChainOpensAndCloses := by
  unfold Obligations.ChainOpensAndCloses
  refine ⟨?_, ?_, ?_⟩
  · intro s k b quiet accepts plain continues
    have kind := kind_of_member accepts.drive plain (accepts.chain continues)
    obtain ⟨carried, places⟩ := carryOut_of_member (s := s.blockTaken) (b := b) kind
      (by rw [show s.blockTaken.stagedMembers = [] from quiet.staged]; exact fun _ none_ => absurd none_ List.not_mem_nil)
    rw [quiet.exec_accepted (refusal_of_opening accepts quiet.staged) (.inl places), carried,
      acceptDrive_of_opening (s := s.blockTaken) quiet.staged continues kind, settle_of_still (quiet.blockTaken.toStill.insert _)]
    rfl
  · intro s f k b still intake held pending drive _ fchain older due mark jobs plain kdrive closes accepted
    have staged : s.stagedMembers = [f] := by simp [State.stagedMembers, held, pending]
    have kind := kind_of_member kdrive plain (not_pin_of_member kdrive (by rw [staged]; exact List.cons_ne_nil _ _) accepted)
    have free : s.configureHeld = false := by
      have other : f.kind ≠ .configure := fun e => by rw [e] at drive; cases drive
      simp [State.configureHeld, held, other]
    obtain ⟨carried, places⟩ := carryOut_of_member (s := s.blockTaken) (b := b) kind (fun m hm => by
      rw [show s.blockTaken.stagedMembers = [f] from staged] at hm
      rw [List.mem_singleton.mp hm, mark])
    let r := memberRequest s k b
    let hz := ([f, r].map (·.hazard)).flatten.eraseDups
    let hw := ([f, r].map (·.hazardWritten)).flatten.eraseDups
    let p := s.blockTaken.insert r
    let t : State := { p with queue := { p.queue with held := [f.closedWith hz hw, r.closedWith hz hw] } }
    obtain ⟨rchain, rdue, rhazard⟩ := memberRequest_fields (b := b) staged due kdrive (by rcases kind with rfl | rfl | rfl <;> rfl)
    have closed : p.closeChain r = t := closeChain_of_two (s := p) (by
      change s.queue.held ++ [r] = _
      rw [held]
      rfl) older fchain rchain mark rfl jobs still.waits
    have rest : Still t := still.of_frames rfl rfl rfl rfl rfl rfl rfl (fun _ => .inl rfl)
    have written : r.hazardWritten = if k.writesForHazards = true then blockIndices b else [] := rfl
    refine ⟨t.settleAccess, f.closedWith hz hw, r.closedWith hz hw, ?_, ?_, rfl, rfl, rfl, rfl, rchain, rdue, rfl, rfl, rfl, fun i => ?_, rfl,
      fun i => ?_, ?_, ?_, ?_, ?_, ?_, ?_, ?_, ?_, ?_⟩
    · rw [exec_blockCommand k b s still.powered, completeBlock_taken intake free, process_of_accepted (s := s.blockTaken) accepted (.inl places),
        carried, acceptDrive_of_closing (s := s.blockTaken) staged kind closes]
      exact congrArg _ ((congrArg State.settle closed).trans (settle_of_still rest))
    · rw [State.settleAccess_queue]
    · change i ∈ hz ↔ _
      simp [hz, show r.hazard = blockIndices b from rhazard]
    · change i ∈ hw ↔ _
      rcases kind with rfl | rfl | rfl <;> simp [hw, written, Kind.writesForHazards]
    all_goals
      simp
      rfl
  · intro s p q idx still configured held older pchain qchain check qdrive pstate qstate prefused qrefused jobs refresh mounted room
    have running : Running s p q :=
      ⟨still, held, older, pchain, qchain, pstate, qstate, prefused, qrefused, jobs, refresh, mounted, room⟩
    refine ⟨fun d l f visiting frame last left sync good => ?_, fun h l visiting marked unsent none_ => ?_⟩
    · have read : LastCheck s p idx f d := ⟨visiting, frame, last, left, check, sync, good⟩
      refine ⟨fun cond undone unsourced => ?_, fun cond write => ?_⟩
      · obtain ⟨c, e, rest, record, tag, outcome, sectors, source, wordA, wordB⟩ := fieldRead_skips (running.sample l) (read.sample l) cond
        have disk : q.recordSource = .disk := by
          unfold Request.recordSource
          rw [unsourced]
          split <;> rfl
        exact ⟨_, c, e, exec_dataFieldRead still.powered d l, record, tag, outcome, by rw [sectors, undone]; rfl, source.trans disk, wordA, wordB,
          rest.fifo, rest.held, rest.unit, rest.seq, rest.staged, rest.access, rest.hold, rest.drivers, rest.entries⟩
      · obtain ⟨c, begun, record⟩ := fieldRead_begins (running.sample l) (read.sample l) cond write
        exact ⟨_, c, exec_dataFieldRead still.powered d l, record, begun.fifo, begun.held, begun.unit, begun.begun.work, begun.begun.cyl,
          begun.begun.visit, begun.begun.retried, begun.begun.recs, begun.access, begun.lines, begun.entries⟩
    · obtain ⟨c, e, rest, tag, outcome, sectors, wordA, etag, eoutcome, esectors⟩ :=
        header_aborts (running.sample l) (visiting.sample l) marked unsent none_ configured (by rw [check]; rfl)
      exact ⟨_, c, e, exec_headerRead still.powered h l, tag, outcome, sectors, wordA, etag, eoutcome, esectors, rest.fifo, rest.held, rest.unit,
        rest.seq, rest.entries, rest.staged, rest.access, rest.hold, rest.drivers⟩

end Sys2Proof.Proofs
end

section
/-! PROOF. What every command but POWER_ON and the end of a CONFIGURE job leaves as it stands, the waiting commands, the station clock, the
identity and the zone map: the operations that all blocks share. -/

namespace Sys2Proof.Machine

/-- What a command leaves as it stands: the waiting commands, the clock, the identity, the zone map. -/
structure Standing where
  pending  : List Instr
  clock    : Clock
  identity : Ident
  zones    : Zones

/-- What stands of a station. For an operation of the shared layer its frame lemmas, block by block, say that this stands. -/
def State.standing (s : State) : Standing := { pending := s.pending, clock := s.clock, identity := s.identity, zones := s.zones }

section Keeps
variable (s : State)

/-- An update of the other blocks. -/
@[simp] theorem update_standing (powered : Bool) (pins : Pins) (lines : StationLines) (drive : DriveLines) (port : Port) (queue : WorkQueue)
    (faults : Faults) (access : Access) (seq : Sequencer) (cache : Cache) (monitor : Monitor) (unit : UpdateUnit) (cart : Cartridge)
    (freeDraws : Nat) :
    State.standing { s with
      powered := powered, pins := pins, lines := lines, drive := drive, port := port, queue := queue, faults := faults, access := access
      seq := seq, cache := cache, monitor := monitor, unit := unit, cart := cart, freeDraws := freeDraws } = s.standing := rfl

/-! ### The plain updates -/

@[simp] theorem sample_standing (l : Lines) : (s.sample l).standing = s.standing := rfl
@[simp] theorem setFrame_standing (f : Nat) (fr : Frame) : (s.setFrame f fr).standing = s.standing := rfl
@[simp] theorem touch_standing (f : Nat) : (s.touch f).standing = s.standing := rfl
@[simp] theorem leaveRefresh_standing (f : Nat) : (s.leaveRefresh f).standing = s.standing := rfl
@[simp] theorem putWords_standing (f : Nat) (ws : List Word) : (s.putWords f ws).standing = s.standing := rfl
@[simp] theorem modify_standing (id : Nat) (g : Request → Request) : (s.modify id g).standing = s.standing := rfl
@[simp] theorem insert_standing (r : Request) : (s.insert r).standing = s.standing := rfl
@[simp] theorem orderFinished_standing (n : Nat) : (s.orderFinished n).standing = s.standing := rfl
@[simp] theorem place_standing (c : Completion) : (s.place c).standing = s.standing := rfl
@[simp] theorem dropDeliveries_standing (id : Nat) : (s.dropDeliveries id).standing = s.standing := rfl
@[simp] theorem dropStaging_standing (id : Nat) : (s.dropStaging id).standing = s.standing := rfl
@[simp] theorem dropWaits_standing (id : Nat) : (s.dropWaits id).standing = s.standing := rfl
@[simp] theorem channelFree_standing : s.channelFree.standing = s.standing := rfl
@[simp] theorem movedOut_standing (a : Nat) (ws : List Word) : (s.movedOut a ws).standing = s.standing := rfl
@[simp] theorem mapSeq_standing (g : Sequencer → Sequencer) : (s.mapSeq g).standing = s.standing := rfl
@[simp] theorem mapMonitor_standing (g : Monitor → Monitor) : (s.mapMonitor g).standing = s.standing := rfl
@[simp] theorem mapAccess_standing (g : Access → Access) : (s.mapAccess g).standing = s.standing := rfl
@[simp] theorem closeGates_standing : s.closeGates.standing = s.standing := rfl
@[simp] theorem lineInactive_standing : s.lineInactive.standing = s.standing := rfl
@[simp] theorem seqIdle_standing : s.seqIdle.standing = s.standing := rfl
@[simp] theorem armUnknown_standing : s.armUnknown.standing = s.standing := rfl
@[simp] theorem startTimer_standing : s.startTimer.standing = s.standing := rfl
@[simp] theorem enterReleased_standing : s.enterReleased.standing = s.standing := rfl
@[simp] theorem enterLoading_standing : s.enterLoading.standing = s.standing := rfl
@[simp] theorem takeUnidentified_standing : s.takeUnidentified.standing = s.standing := rfl
@[simp] theorem peerTenureBegins_standing : s.peerTenureBegins.standing = s.standing := rfl

/-! ### The operations of the shared layer -/

@[simp] theorem raise_standing (n : Notice) : (s.raise n).standing = s.standing := by simp [State.standing]
@[simp] theorem raiseIf_standing (c : Bool) (n : Notice) : (s.raiseIf c n).standing = s.standing := by simp [State.standing]
@[simp] theorem countRetry_standing : s.countRetry.standing = s.standing := by simp [State.standing]
@[simp] theorem countCapture_standing : s.countCapture.standing = s.standing := by simp [State.standing]
@[simp] theorem listFault_standing (a : FaultAddr) (k : FaultKind) (o : Origin) : (s.listFault a k o).standing = s.standing := by
  simp [State.standing]
@[simp] theorem freeFrame_standing (f : Nat) : (s.freeFrame f).standing = s.standing := by simp [State.standing]
@[simp] theorem retire_standing (f : Nat) : (s.retire f).standing = s.standing := by simp [State.standing]
@[simp] theorem release_standing (f : Nat) : (s.release f).standing = s.standing := by simp [State.standing]
@[simp] theorem sweep_standing : s.sweep.standing = s.standing := by simp [State.standing]
@[simp] theorem releaseOwned_standing (id : Nat) : (s.releaseOwned id).standing = s.standing := by simp [State.standing]
@[simp] theorem allocOrWait_standing (w : AllocWait) : (s.allocOrWait w).standing = s.standing := by simp [State.standing]
@[simp] theorem tidy_standing : s.tidy.standing = s.standing := by simp [State.standing]
@[simp] theorem queueDelivery_standing (r : Request) (i f : Nat) : (s.queueDelivery r i f).standing = s.standing := by simp [State.standing]
@[simp] theorem giveFilling_standing (r : Request) (a : SectorAddr) (f : Nat) : (s.giveFilling r a f).standing = s.standing := by
  simp [State.standing]
@[simp] theorem settleRead_standing (r : Request) (f : Nat) (a : SectorAddr) (ws : List Word) :
    (s.settleRead r f a ws).standing = s.standing := by simp [State.standing]
@[simp] theorem settleWritten_standing (f : Nat) (a : SectorAddr) : (s.settleWritten f a).standing = s.standing := by simp [State.standing]
@[simp] theorem enterRefresh_standing (f : Nat) : (s.enterRefresh f).standing = s.standing := by simp [State.standing]
@[simp] theorem invalidate_standing (f : Nat) : (s.invalidate f).standing = s.standing := by simp [State.standing]
@[simp] theorem torn_standing (a : SectorAddr) : (s.torn a).standing = s.standing := by simp [State.standing]
@[simp] theorem takeWords_standing (f : Nat) (ws : List Word) : (s.takeWords f ws).standing = s.standing := by simp [State.standing]
@[simp] theorem putRead_standing (ws : List Word) : (s.putRead ws).standing = s.standing := by simp [State.standing]
@[simp] theorem freeUnpinned_standing : s.freeUnpinned.standing = s.standing := by simp [State.standing]
@[simp] theorem freeAllFrames_standing : s.freeAllFrames.standing = s.standing := by simp [State.standing]
@[simp] theorem reenterStale_standing : s.reenterStale.standing = s.standing := by simp [State.standing]
@[simp] theorem finish_standing (id : Nat) (o : ReqOutcome) : (s.finish id o).standing = s.standing := by simp [State.standing]
@[simp] theorem finishAll_standing (l : List (Nat × ReqOutcome)) : (s.finishAll l).standing = s.standing := by simp [State.standing]
@[simp] theorem endRequest_standing (id : Nat) (o : ReqOutcome) (a : Option SectorAddr) :
    (s.endRequest id o a).standing = s.standing := by simp [State.standing]
@[simp] theorem consult_standing (id : Nat) : (s.consult id).standing = s.standing := by simp [State.standing]
@[simp] theorem consultAll_standing : s.consultAll.standing = s.standing := by simp [State.standing]
@[simp] theorem postUpTo_standing (n : Nat) : (s.postUpTo n).standing = s.standing := by simp [State.standing]
@[simp] theorem post_standing : s.post.standing = s.standing := by simp [State.standing]
@[simp] theorem settleAccess_standing : s.settleAccess.standing = s.standing := by simp [State.standing]
@[simp] theorem findHold_standing : s.findHold.standing = s.standing := by simp [State.standing]
@[simp] theorem releaseLine_standing : s.releaseLine.standing = s.standing := by simp [State.standing]
@[simp] theorem callIfUrgent_standing : s.callIfUrgent.standing = s.standing := by simp [State.standing]
@[simp] theorem settle_standing : s.settle.standing = s.standing := by simp [State.standing]

@[simp] theorem expire_standing : s.expire.standing = s.standing := by simp [State.expire]
@[simp] theorem prepare_standing : s.prepare.standing = s.standing := by simp [State.prepare]

theorem allocate_standing {t : State} {f : Nat} (h : s.allocate = some (f, t)) : t.standing = s.standing := by
  simp [State.standing, State.allocate_pending h, State.allocate_clock h, State.allocate_identity h, State.allocate_zones h]

/-! ### A run over a state paired with a count or a flag -/

theorem foldl_pair_standing {α β : Type} (g : State × β → α → State × β) (h : ∀ p x, (g p x).1.standing = p.1.standing)
    (l : List α) (p : State × β) : (l.foldl g p).1.standing = p.1.standing :=
  calc (l.foldl g p).1.standing
      = l.foldl (fun x _ => x) p.1.standing := (List.foldl_hom (fun p => p.1.standing) (fun p x => (h p x).symm)).symm
    _ = p.1.standing := List.foldl_fixed l

/-! ### The effects under a condition -/

theorem whenConfigured_standing {f : State → State} (h : (f s).standing = s.standing) :
    (s.whenConfigured f).standing = s.standing := by
  unfold State.whenConfigured; split
  · exact h
  · rfl

theorem inPeerTenure_standing {f : State → State} (h : (f s).standing = s.standing) :
    (s.inPeerTenure f).standing = s.standing := by
  unfold State.inPeerTenure; split
  · exact h
  · rfl

theorem capturing_standing {f : State → State} (h : (f s).standing = s.standing) :
    (s.capturing f).standing = s.standing := by
  unfold State.capturing; split
  · exact h
  · rfl

end Keeps
end Sys2Proof.Machine
end

section
/-! PROOF. Cartridge control and the line keep what stands: the drain, the label verdict, the unload, the round. -/

namespace Sys2Proof.Machine

section Keeps
variable (s : State)

/-! ### Cartridge control -/

@[simp] theorem drainOne_standing (o : ReqOutcome) (id : Nat) : (s.drainOne o id).standing = s.standing := by
  unfold State.drainOne; repeat' split
  all_goals simp

@[simp] theorem drain_standing (o : ReqOutcome) : (s.drain o).standing = s.standing := by
  simp [State.drain, foldl_keeps State.standing _ (fun t i => drainOne_standing t o i)]

@[simp] theorem remount_standing (serial : BitVec 32) : (s.remount serial).standing = s.standing := by
  change State.standing (if s.cart.lastSerial = some serial then _ else _) = _
  split <;> simp

@[simp] theorem enterUnusable_standing : s.enterUnusable.standing = s.standing := by simp [State.enterUnusable]

@[simp] theorem labelAccepted_standing (serial : BitVec 32) : (s.labelAccepted serial).standing = s.standing := by
  unfold State.labelAccepted; split
  · exact (raise_standing _ _).trans (remount_standing s serial)
  · exact remount_standing s serial
  · exact remount_standing s serial
  all_goals rfl

@[simp] theorem labelRejected_standing : s.labelRejected.standing = s.standing := by
  unfold State.labelRejected; split
  all_goals simp

@[simp] theorem labelVerdict_standing (ws : Option (List Word)) : (s.labelVerdict ws).standing = s.standing := by
  unfold State.labelVerdict; split
  all_goals simp

@[simp] theorem enterLeaving_standing (r : Recorded) : (s.enterLeaving r).standing = s.standing := by simp [State.enterLeaving]

@[simp] theorem enterAbsent_standing : s.enterAbsent.standing = s.standing := by simp [State.enterAbsent]

@[simp] theorem arrival_standing : s.arrival.standing = s.standing := by
  unfold State.arrival; dsimp only; split <;> simp

@[simp] theorem unloadAsked_standing : s.unloadAsked.standing = s.standing := by
  unfold State.unloadAsked; split <;> simp

@[simp] theorem cancelUnload_standing (r : Recorded) : (s.cancelUnload r).standing = s.standing := by
  unfold State.cancelUnload; dsimp only; repeat' split
  all_goals simp

@[simp] theorem unloadCancelled_standing : s.unloadCancelled.standing = s.standing := by
  unfold State.unloadCancelled; split <;> simp

@[simp] theorem releaseTimeout_standing : s.releaseTimeout.standing = s.standing := by
  unfold State.releaseTimeout; split <;> simp

/-! ### The round of the line -/

@[simp] theorem withdraw_standing : s.withdraw.standing = s.standing := by simp [State.withdraw]

@[simp] theorem presChanged_standing : s.presChanged.standing = s.standing := by
  unfold State.presChanged; dsimp only; split <;> simp

@[simp] theorem peerArrives_standing : s.peerArrives.standing = s.standing := by
  unfold State.peerArrives; dsimp only; split <;> simp

@[simp] theorem restartGap_standing : s.restartGap.standing = s.standing := by
  unfold State.restartGap; split <;> simp

@[simp] theorem holdBegins_standing : s.holdBegins.standing = s.standing := by
  unfold State.holdBegins; split <;> simp

@[simp] theorem joinRound_standing : s.joinRound.standing = s.standing := by
  unfold State.joinRound; dsimp only; split <;> simp

@[simp] theorem gapCompletes_standing : s.gapCompletes.standing = s.standing := by
  unfold State.gapCompletes; split <;> simp

@[simp] theorem endWindow1_standing (mark1 : Bool) : (s.endWindow1 mark1).standing = s.standing := by
  unfold State.endWindow1; split <;> simp

@[simp] theorem endWindow2_standing (mark2 : Bool) : (s.endWindow2 mark2).standing = s.standing := by
  unfold State.endWindow2; split <;> simp

@[simp] theorem endTie_standing (mark1 : Bool) : (s.endTie mark1).standing = s.standing := by
  unfold State.endTie; split <;> simp

theorem windowEnds_standing (w next : RoundWindow) {f : State → State} (h : ∀ t, (f t).standing = t.standing) :
    (s.windowEnds w next f).standing = s.standing := by
  unfold State.windowEnds; dsimp only; repeat' split
  · exact h _
  all_goals rfl

@[simp] theorem collides_standing : s.collides.standing = s.standing := by simp [State.collides]

@[simp] theorem readsOutcome_standing (hold mark1 mark2 : Bool) : (s.readsOutcome hold mark1 mark2).standing = s.standing := by
  unfold State.readsOutcome; dsimp only; repeat' split
  all_goals simp

@[simp] theorem backoffEnds_standing : s.backoffEnds.standing = s.standing := by
  unfold State.backoffEnds; split <;> simp

@[simp] theorem raiseLineHeld_standing : s.raiseLineHeld.standing = s.standing := by
  unfold State.raiseLineHeld; split <;> simp

@[simp] theorem lineIsHeld_standing : s.lineIsHeld.standing = s.standing := by simp [State.lineIsHeld]

end Keeps
end Sys2Proof.Machine
end

section
/-! PROOF. The sequencer keeps what stands: the start and the end of work, headers, visits and fields, and the selection point. -/

namespace Sys2Proof.Machine

section Keeps
variable (s : State)

/-! ### Motions and the start of work -/

@[simp] theorem retryCounted_standing : s.retryCounted.standing = s.standing := by simp [State.retryCounted]

@[simp] theorem strobeSeek_standing : s.strobeSeek.standing = s.standing := rfl

@[simp] theorem beginSeek_standing : s.beginSeek.standing = s.standing := by
  unfold State.beginSeek; dsimp only; split <;> simp

@[simp] theorem recalibrate_standing : s.recalibrate.standing = s.standing := by simp [State.recalibrate]

@[simp] theorem search_standing : s.search.standing = s.standing := rfl

@[simp] theorem position_standing : s.position.standing = s.standing := by
  unfold State.position; split <;> simp

@[simp] theorem startMember_standing (r : Request) : (s.startMember r).standing = s.standing := by
  simp [State.startMember, foldl_keeps State.standing _ (fun t i => allocOrWait_standing t _)]

@[simp] theorem startWork_standing (c : Candidate) : (s.startWork c).standing = s.standing := by
  unfold State.startWork; split
  · split
    · rfl
    · rw [startMember_standing]
      exact foldl_keeps State.standing _ (fun t i => modify_standing t i _) _ _
  · simp
  · simp

@[simp] theorem selectionPoint_standing : s.selectionPoint.standing = s.standing := by
  unfold State.selectionPoint; dsimp only; repeat' split
  all_goals simp

/-- A passed check ends at the tenure's first selection point. -/
@[simp] theorem passes_standing : s.passes.standing = s.standing := by simp [State.passes]

@[simp] theorem checkEnds_standing (hold mark1 mark2 : Bool) : (s.checkEnds hold mark1 mark2).standing = s.standing := by
  unfold State.checkEnds; dsimp only; repeat' split
  all_goals simp

/-! ### The end of work -/

@[simp] theorem requestDecided_standing (r : Request) (o : ReqOutcome) (a : Option SectorAddr) :
    (s.requestDecided r o a).standing = s.standing := by simp [State.requestDecided]

@[simp] theorem requestFails_standing (r : Request) (o : ReqOutcome) (a : SectorAddr) : (s.requestFails r o a).standing = s.standing := by
  simp [State.requestFails]

@[simp] theorem runChain_standing (ids : List Nat) : (s.runChain ids).1.standing = s.standing := by
  induction ids generalizing s with
  | nil => rfl
  | cons id ids ih =>
    unfold State.runChain; repeat' split
    · exact ih s
    · simp
    · simp [ih]

@[simp] theorem requestSucceeds_standing (r : Request) (o : ReqOutcome) : (s.requestSucceeds r o).1.standing = s.standing := by
  simp [State.requestSucceeds]

@[simp] theorem workSucceeds_standing (r : Request) : (s.workSucceeds r).standing = s.standing := by
  have kept := requestSucceeds_standing s r (if s.seq.retried then .doneRetried else .done)
  unfold State.workSucceeds; dsimp only
  split
  all_goals
    next t e =>
    rw [e] at kept
    simpa using kept

@[simp] theorem continueRequest_standing (id : Nat) : (s.continueRequest id).standing = s.standing := by
  unfold State.continueRequest; repeat' split
  all_goals simp

@[simp] theorem freeLabelFrame_standing : s.freeLabelFrame.standing = s.standing := by
  unfold State.freeLabelFrame; dsimp only; split <;> simp

@[simp] theorem settleFailedWrite_standing (o : ReqOutcome) : (s.settleFailedWrite o).standing = s.standing :=
  foldl_keeps State.standing _ (fun t _ => torn_standing t _) _ _

theorem workFails_unlisted_standing (o : ReqOutcome) (a : SectorAddr) : (s.workFails o none a).standing = s.standing := by
  unfold State.workFails; dsimp only; repeat' split
  all_goals simp

@[simp] theorem workFails_standing (o : ReqOutcome) (fault : Option (FaultAddr × FaultKind)) (a : SectorAddr) :
    (s.workFails o fault a).standing = s.standing := by
  cases fault with
  | none => exact workFails_unlisted_standing s o a
  | some p => exact (workFails_unlisted_standing (s.listFault p.1 p.2 .own) o a).trans (listFault_standing s _ _ _)

@[simp] theorem stopEnds_standing : s.stopEnds.standing = s.standing := by
  unfold State.stopEnds; dsimp only; repeat' split
  all_goals simp

theorem stopOr_standing {f : State → State} (h : (f s).standing = s.standing) : (s.stopOr f).standing = s.standing := by
  unfold State.stopOr; split
  · exact stopEnds_standing s
  · exact h

/-! ### Positioning, headers and visits -/

@[simp] theorem positioningFails_standing : s.positioningFails.standing = s.standing := workFails_standing s _ _ _

@[simp] theorem seekFails_standing : s.seekFails.standing = s.standing := by
  unfold State.seekFails; split <;> simp

@[simp] theorem headerMiss_standing (idx : Nat) : (s.headerMiss idx).standing = s.standing := by
  unfold State.headerMiss; dsimp only; repeat' split
  all_goals simp

@[simp] theorem misPosition_standing (idx c : Nat) : (s.misPosition idx c).standing = s.standing := by
  unfold State.misPosition; dsimp only; split <;> simp

@[simp] theorem openWrite_standing (idx : Nat) : (s.openWrite idx).standing = s.standing := by
  unfold State.openWrite; dsimp only; split <;> simp

@[simp] theorem headerMatched_standing (idx : Nat) : (s.headerMatched idx).standing = s.standing := by
  unfold State.headerMatched; split <;> simp

@[simp] theorem endVoidRefresh_standing : s.endVoidRefresh.standing = s.standing := by simp [State.endVoidRefresh]

@[simp] theorem takeHeader_standing (idx : Nat) (h : HeaderField) : (s.takeHeader idx h).standing = s.standing := by
  unfold State.takeHeader; dsimp only; repeat' split
  all_goals simp

@[simp] theorem followCheck_standing (f idx : Nat) : (s.followCheck f idx).standing = s.standing := by
  unfold State.followCheck; repeat' split
  all_goals simp

@[simp] theorem beginVisit_standing (idx f : Nat) (rest : List Nat) : (s.beginVisit idx f rest).standing = s.standing := by
  unfold State.beginVisit; dsimp only; split <;> simp

@[simp] theorem slotArrives_standing : s.slotArrives.standing = s.standing := by
  unfold State.slotArrives; repeat' split
  all_goals simp

/-! ### Data fields -/

@[simp] theorem recDone_standing (idx : Nat) : (s.recDone idx).standing = s.standing := rfl

@[simp] theorem operate_standing (r : Request) (idx : Nat) (old : Word) : (s.operate r idx old).standing = s.standing := by
  unfold State.operate; dsimp only; split <;> simp

@[simp] theorem requestReadGood_standing (r : Request) (idx f : Nat) (ws : List Word) :
    (s.requestReadGood r idx f ws).standing = s.standing := by
  unfold State.requestReadGood; dsimp only; split <;> simp

@[simp] theorem readGood_standing (idx : Nat) (ws : List Word) : (s.readGood idx ws).standing = s.standing := by
  unfold State.readGood; repeat' split
  all_goals simp

@[simp] theorem readBad_standing (idx : Nat) : (s.readBad idx).standing = s.standing := by
  unfold State.readBad; dsimp only; split <;> simp

@[simp] theorem sent_standing (x : Sending) : (s.sent x).standing = s.standing := rfl

@[simp] theorem patchFrame_standing (x : Sending) : (s.patchFrame x).standing = s.standing := by
  unfold State.patchFrame; repeat' split
  all_goals rfl

@[simp] theorem stopWritten_standing (x : Sending) : (s.stopWritten x).standing = s.standing := by
  unfold State.stopWritten; split <;> simp

@[simp] theorem requestWritten_standing (r : Request) (idx : Nat) (x : Sending) : (s.requestWritten r idx x).standing = s.standing := by
  unfold State.requestWritten; split <;> simp

@[simp] theorem verifiedGood_standing (r : Request) (idx : Nat) : (s.verifiedGood r idx).standing = s.standing := by
  simp [State.verifiedGood]

@[simp] theorem verifiedBad_standing (idx : Nat) : (s.verifiedBad idx).standing = s.standing := by
  unfold State.verifiedBad; split <;> simp

/-! ### The events of the sequencer -/

@[simp] theorem motionOver_standing : s.motionOver.standing = s.standing := by
  unfold State.motionOver; split
  · exact stopOr_standing s (strobeSeek_standing s)
  · rfl

@[simp] theorem motionWaitOver_standing : s.motionWaitOver.standing = s.standing := by
  unfold State.motionWaitOver; split
  · exact stopOr_standing s (seekFails_standing s)
  · rfl

@[simp] theorem seekDone_standing : s.seekDone.standing = s.standing := stopOr_standing s (search_standing s)

@[simp] theorem seekBroken_standing : s.seekBroken.standing = s.standing := stopOr_standing s.armUnknown (seekFails_standing _)

@[simp] theorem seekEnd_standing (e : MotionEnd) : (s.seekEnd e).standing = s.standing := by
  unfold State.seekEnd; dsimp only; repeat' split
  all_goals simp

@[simp] theorem recalibrateBroken_standing : s.recalibrateBroken.standing = s.standing :=
  stopOr_standing s.armUnknown (positioningFails_standing _)

@[simp] theorem recalibrateEnd_standing (e : MotionEnd) : (s.recalibrateEnd e).standing = s.standing := by
  unfold State.recalibrateEnd; dsimp only; repeat' split
  · exact stopOr_standing _ (beginSeek_standing _)
  · exact recalibrateBroken_standing _
  · rfl

@[simp] theorem slot_standing : s.slot.standing = s.standing := by
  unfold State.slot; split <;> simp

@[simp] theorem header_standing (h : HeaderField) : (s.header h).standing = s.standing := by
  unfold State.header; split <;> simp

@[simp] theorem fieldRead_standing (d : DataField) : (s.fieldRead d).standing = s.standing := by
  unfold State.fieldRead; split
  · refine stopOr_standing s ?_
    repeat' split
    all_goals simp
  · rfl

@[simp] theorem fieldWritten_standing : s.fieldWritten.standing = s.standing := by
  unfold State.fieldWritten; dsimp only; repeat' split
  all_goals simp

@[simp] theorem readBack_standing (d : DataField) : (s.readBack d).standing = s.standing := by
  unfold State.readBack; split
  · refine stopOr_standing s ?_
    repeat' split
    all_goals simp
  · rfl

end Keeps
end Sys2Proof.Machine
end

section
/-! PROOF. Admission, the monitor and the fall of RDY keep what stands. -/

namespace Sys2Proof.Machine

section Keeps
variable (s : State)

/-! ### Admission and the intake -/

@[simp] theorem refuse_standing (blk : Block) (o : ReqOutcome) : (s.refuse blk o).standing = s.standing := by
  simp [State.refuse]

@[simp] theorem stage_standing (r : Request) : (s.stage r).standing = s.standing := by
  unfold State.stage; split
  · exact foldl_keeps State.standing _ (fun t _ => allocOrWait_standing t _) _ _
  · rfl

@[simp] theorem closeChain_standing (r : Request) : (s.closeChain r).standing = s.standing := by
  unfold State.closeChain; dsimp only; split
  · simp
  · exact foldl_keeps State.standing _ (fun t _ => modify_standing t _ _) _ _

@[simp] theorem acceptDrive_standing (k : Kind) (b : BlockBody) : (s.acceptDrive k b).standing = s.standing := by
  unfold State.acceptDrive State.enterWaiting; dsimp only; repeat' split
  all_goals simp

@[simp] theorem pinNow_standing (r : Request) : (s.pinNow r).standing = s.standing :=
  foldl_keeps State.standing _ (fun t i => by split <;> simp) _ _

@[simp] theorem unpinFrame_standing (f : Nat) : (s.unpinFrame f).standing = s.standing := by
  unfold State.unpinFrame; split <;> simp

theorem overSector_standing (test : Frame → Bool) {act : State → Nat → State} (h : ∀ t f, (act t f).standing = t.standing)
    (p : State × Nat) (a : SectorAddr) : (State.overSector test act p a).1.standing = p.1.standing := by
  unfold State.overSector; repeat' split
  · exact h _ _
  all_goals rfl

theorem overRange_standing (b : BlockBody) (test : Frame → Bool) {act : State → Nat → State}
    (h : ∀ t f, (act t f).standing = t.standing) : (s.overRange b test act).1.standing = s.standing :=
  foldl_pair_standing _ (fun p _ => overSector_standing test h p _) _ (s, 0)

@[simp] theorem fetchFault_standing (blk : Block) : (s.fetchFault blk).standing = s.standing := by
  unfold State.fetchFault; split <;> rfl

@[simp] theorem cancelTarget_standing (blk : Block) : (s.cancelTarget blk).standing = s.standing := by
  simp [State.cancelTarget]

@[simp] theorem releaseCartridge_standing (blk : Block) : (s.releaseCartridge blk).standing = s.standing := by
  simp [State.releaseCartridge]

@[simp] theorem acceptHeld_standing (k : Kind) (b : BlockBody) (kind : State → JobKind) :
    (s.acceptHeld k b kind).standing = s.standing := rfl

@[simp] theorem carryOut_standing (k : Kind) (blk : Block) : (s.carryOut k blk).standing = s.standing := by
  unfold State.carryOut; dsimp only; split
  case h_6 => split <;> simp
  case h_7 => exact (place_standing _ _).trans (overRange_standing s blk.body _ unpinFrame_standing)
  case h_8 => exact (place_standing _ _).trans (overRange_standing s blk.body _ release_standing)
  all_goals simp

@[simp] theorem process_standing (blk : Block) : (s.process blk).standing = s.standing := by
  unfold State.process; split
  · rfl
  · rw [settle_standing]
    split <;> simp

@[simp] theorem completeBlock_standing (blk : Block) : (s.completeBlock blk).standing = s.standing := by
  unfold State.completeBlock; dsimp only; repeat' split
  all_goals simp

@[simp] theorem takeBlock_standing : s.takeBlock.standing = s.standing := by
  unfold State.takeBlock; split <;> simp

@[simp] theorem tryHeld_standing : s.tryHeld.standing = s.standing := by
  unfold State.tryHeld; split <;> simp

@[simp] theorem leftByConfigure_standing (t : State) : (s.leftByConfigure t).standing = t.standing := by
  unfold State.leftByConfigure; split <;> simp

@[simp] theorem placeFreed_standing (t : State) : (s.placeFreed t).standing = t.standing := by
  unfold State.placeFreed; split <;> simp

@[simp] theorem intakeWord_standing (w : Word) : (s.intakeWord w).standing = s.standing := by
  unfold State.intakeWord; dsimp only; repeat' split
  all_goals simp

@[simp] theorem outletWord_standing : s.outletWord.standing = s.standing := by
  unfold State.outletWord; dsimp only; repeat' split
  all_goals simp

@[simp] theorem blockOf_standing (k : Kind) (b : BlockBody) : (s.blockOf k b).standing = s.standing := completeBlock_standing s _

/-! ### The coherence actions and the captures -/

@[simp] theorem holdCapture_standing (f : Nat) : (s.holdCapture f).standing = s.standing := rfl

@[simp] theorem writtenWithoutGood_standing (f : Nat) : (s.writtenWithoutGood f).standing = s.standing := by
  unfold State.writtenWithoutGood; dsimp only; split <;> simp

@[simp] theorem peerWrite_standing (a : SectorAddr) (g : Bool) (ws : List Word) : (s.peerWrite a g ws).standing = s.standing := by
  unfold State.peerWrite; repeat' split
  all_goals simp

@[simp] theorem peerRead_standing (a : SectorAddr) (ws : List Word) : (s.peerRead a ws).standing = s.standing := by
  unfold State.peerRead; repeat' split
  all_goals simp

@[simp] theorem unlocatedWrite_standing (h n : Nat) : (s.unlocatedWrite h n).standing = s.standing :=
  foldl_keeps State.standing _ (fun t f => by dsimp only; split <;> simp) _ _

@[simp] theorem applyHeld_standing (f : Nat) : (s.applyHeld f).standing = s.standing := by
  unfold State.applyHeld; dsimp only; repeat' split
  all_goals simp

@[simp] theorem abandonHeld_standing : s.abandonHeld.standing = s.standing := by
  unfold State.abandonHeld; dsimp only; repeat' split
  all_goals simp

@[simp] theorem correctArm_standing (ws : List Word) : (s.correctArm ws).standing = s.standing := by
  unfold State.correctArm; split <;> simp

@[simp] theorem beginCapture_standing (ws : List Word) : (s.beginCapture ws).standing = s.standing := by
  simp [State.beginCapture]

@[simp] theorem endUnreported_standing : s.endUnreported.standing = s.standing := rfl

@[simp] theorem guardCheck_standing (a : SectorAddr) : (s.guardCheck a).standing = s.standing := by
  unfold State.guardCheck; split <;> simp

@[simp] theorem overheardDone_standing (id idx : Nat) : (s.overheardDone id idx).standing = s.standing := by
  simp [State.overheardDone]

theorem overheardOwn_standing {t : State} {r : Request} {a : SectorAddr} {ws : List Word} (h : s.overheardOwn r a ws = some t) :
    t.standing = s.standing := by
  cases e : s.allocate with
  | none => simp only [State.overheardOwn, e] at h; cases h
  | some p =>
    obtain ⟨f, u⟩ := p
    simp only [State.overheardOwn, e, Option.some.injEq] at h
    rw [← h, ← allocate_standing s e]
    split <;> simp

@[simp] theorem overheardHit_standing (r : Request) (a : SectorAddr) (f : Nat) : (s.overheardHit r a f).standing = s.standing := by
  unfold State.overheardHit; dsimp only; split <;> simp

@[simp] theorem overheardCheck_standing (r : Request) (a : SectorAddr) : (s.overheardCheck r a).standing = s.standing := by
  unfold State.overheardCheck; dsimp only; split <;> simp

theorem overheardOne_standing (k : CapKind) (a : SectorAddr) (ws : List Word) (p : State × Bool) (id : Nat) :
    (State.overheardOne k a ws p id).1.standing = p.1.standing := by
  unfold State.overheardOne
  split
  · rfl
  · next r _ =>
    split
    · dsimp only
      split
      · rfl
      · next t b e =>
        have served : t.standing = p.1.standing := by
          split at e
          · cases e; simp
          · split at e
            · cases e; simp
            · obtain ⟨u, hu, e'⟩ := Option.map_eq_some_iff.mp e
              cases e'
              exact overheardOwn_standing _ hu
        split <;> simp [served]
    · rfl

@[simp] theorem overheard_standing (k : CapKind) (a : SectorAddr) (ws : List Word) : (s.overheard k a ws).standing = s.standing :=
  foldl_pair_standing _ (overheardOne_standing k a ws) _ (s, false)

@[simp] theorem dealWith_standing (k : CapKind) (v : CapVerdict) (a : SectorAddr) (ws : List Word) :
    (s.dealWith k v a ws).standing = s.standing := by
  unfold State.dealWith State.overheardLabel; dsimp only; repeat' split
  all_goals simp

@[simp] theorem dealPlaced_standing (k : CapKind) (v : CapVerdict) (ws : List Word) : (s.dealPlaced k v ws).standing = s.standing := by
  unfold State.dealPlaced; split <;> simp

@[simp] theorem captureCompletes_standing (c : PeerCapture) : (s.captureCompletes c).standing = s.standing := by
  unfold State.captureCompletes State.captureDealt; dsimp only; split <;> simp

@[simp] theorem reportPartial_standing : s.reportPartial.standing = s.standing := by
  unfold State.reportPartial; split <;> simp

@[simp] theorem cutShort_standing (cap : Option PeerField) : (s.cutShort cap).standing = s.standing := by
  unfold State.cutShort; dsimp only; repeat' split
  all_goals simp

@[simp] theorem holdingEnds_standing (cap : Option PeerField) : (s.holdingEnds cap).standing = s.standing := by
  change State.standing (if s.peerTenure then s.cutShort cap else s) = _
  split <;> simp

@[simp] theorem holdEnds_standing (cap : Option PeerField) : (s.holdEnds cap).standing = s.standing := by
  simp [State.holdEnds]

@[simp] theorem peerLeaves_standing (cap : Option PeerField) : (s.peerLeaves cap).standing = s.standing := by
  simp [State.peerLeaves]

@[simp] theorem peerSeek_standing (c : Nat) : (s.peerSeek c).standing = s.standing := by
  unfold State.peerSeek; repeat' split
  all_goals rfl

@[simp] theorem peerRecalibrate_standing : s.peerRecalibrate.standing = s.standing := by
  unfold State.peerRecalibrate; split <;> rfl

@[simp] theorem peerFault_standing : s.peerFault.standing = s.standing := by
  unfold State.peerFault; split <;> rfl

@[simp] theorem peerHeader_standing (v : Bool) (ws : List Word) : (s.peerHeader v ws).standing = s.standing := by
  unfold State.peerHeader; dsimp only; split <;> simp

@[simp] theorem dataSyncMissed_standing (d : PeerField) : (s.dataSyncMissed d).standing = s.standing := by
  unfold State.dataSyncMissed; split <;> rfl

/-! ### The fall of RDY -/

@[simp] theorem tornByFall_standing : s.tornByFall.standing = s.standing := by
  unfold State.tornByFall; split <;> simp

@[simp] theorem workCutByFall_standing : s.workCutByFall.standing = s.standing := by
  unfold State.workCutByFall; dsimp only; repeat' split
  all_goals simp

@[simp] theorem pointIfHolding_standing : s.pointIfHolding.standing = s.standing := by
  unfold State.pointIfHolding; split <;> simp

@[simp] theorem departure_standing : s.departure.standing = s.standing := by simp [State.departure]

@[simp] theorem loseReady_standing (cap : Option PeerField) : (s.loseReady cap).standing = s.standing := by
  unfold State.loseReady; dsimp only
  rw [settle_standing]
  repeat' split
  all_goals simp

/-! ### The port reset -/

@[simp] theorem resetFrames_standing : s.resetFrames.standing = s.standing := by
  unfold State.resetFrames; dsimp only
  rw [foldl_keeps State.standing _ (fun u f => by split <;> simp)]
  rfl

@[simp] theorem resetSequencer_standing : s.resetSequencer.standing = s.standing := by
  unfold State.resetSequencer; repeat' split
  all_goals simp

@[simp] theorem portReset_standing : s.portReset.standing = s.standing := by simp [State.portReset]

end Keeps
end Sys2Proof.Machine
end

section
/-! PROOF. The jobs of the channel, a CONFIGURE's among them, and with them every command but POWER_ON (O11): the zone map changes by
a record alone, which clears neither the configured flag nor the lock. -/

namespace Sys2Proof.Machine

/-- From `s` to `t` the waiting commands, the clock and the identity stand, and the configured flag and the lock are not cleared. -/
structure Stands (s t : State) : Prop where
  pending    : t.pending = s.pending
  clock      : t.clock = s.clock
  identity   : t.identity = s.identity
  configured : s.zones.configured = true → t.zones.configured = true
  lock       : s.zones.lock = true → t.zones.lock = true

theorem stands_of_standing {s t : State} (e : t.standing = s.standing) : Stands s t := by
  simp only [State.standing, Standing.mk.injEq] at e
  obtain ⟨pending, clock, identity, zones⟩ := e
  exact ⟨pending, clock, identity, by simp [zones], by simp [zones]⟩

theorem Stands.trans {s t u : State} (h : Stands s t) (k : Stands t u) : Stands s u :=
  ⟨k.pending.trans h.pending, k.clock.trans h.clock, k.identity.trans h.identity, fun on => k.configured (h.configured on),
    fun on => k.lock (h.lock on)⟩

/-! ### The configuration -/

/-- A record's zone map keeps the configured flag and a lock that is set (R171, R172). -/
theorem stands_withRecord (s : State) (ws : List Word) : Stands s { s with zones := s.zones.ofRecord ws } :=
  ⟨rfl, rfl, rfl, id, fun on => by simp [Zones.ofRecord, on]⟩

@[simp] theorem releaseTurned_standing (s : State) (f : Nat) : (s.releaseTurned f).standing = s.standing := by
  unfold State.releaseTurned; split <;> simp

@[simp] theorem freeZoneFrames_standing (s : State) (p : Nat → Bool) : (s.freeZoneFrames p).standing = s.standing :=
  overFrames_keeps State.standing (fun t f => releaseTurned_standing t f) s _

@[simp] theorem cartFound_standing (s : State) : s.cartFound.standing = s.standing := by
  unfold State.cartFound; repeat' split
  all_goals simp

theorem stands_firstConfiguration (s : State) : Stands s s.firstConfiguration := by
  have first : Stands s { s with
      zones := { s.zones with configured := true }
      lines := { s.lines with pres := true, crel := false }
      access := { Access.powerOn with state := .idle }
      monitor := { Monitor.powerOn with state := .idle } } := ⟨rfl, rfl, rfl, fun _ => rfl, id⟩
  refine first.trans (stands_of_standing ?_)
  unfold State.firstConfiguration; dsimp only
  rw [cartFound_standing]
  split <;> simp

theorem stands_applyRecord (s : State) (ws : List Word) : Stands s (s.applyRecord ws) := by
  have applied : Stands s (State.freeZoneFrames { s with zones := s.zones.ofRecord ws } (turnedToNone s.zones (s.zones.ofRecord ws))) :=
    (stands_withRecord s ws).trans (stands_of_standing (freeZoneFrames_standing _ _))
  unfold State.applyRecord; dsimp only; split
  · exact applied
  · exact applied.trans (stands_firstConfiguration _)

theorem stands_judgeRecord (s : State) (id : Nat) (ws : List Word) : Stands s (s.judgeRecord id ws) := by
  unfold State.judgeRecord; split
  · exact stands_of_standing (finish_standing s _ _)
  · exact (stands_applyRecord s ws).trans (stands_of_standing (finish_standing _ _ _))

/-! ### The jobs -/

@[simp] theorem startJob_standing (s : State) : s.startJob.standing = s.standing := by
  unfold State.startJob; split <;> rfl

@[simp] theorem stageWords_standing (s : State) (j : Job) (f : Nat) (ws : List Word) : (s.stageWords j f ws).standing = s.standing := by
  unfold State.stageWords; split <;> rfl

@[simp] theorem stagingEnded_standing (s : State) (id : Nat) : (s.stagingEnded id).standing = s.standing := by
  unfold State.stagingEnded; repeat' split
  · rfl
  · exact foldl_keeps State.standing _ (fun t _ => modify_standing t _ _) _ _
  · rfl

@[simp] theorem deliveryEnded_standing (s : State) (id : Nat) : (s.deliveryEnded id).standing = s.standing := by
  unfold State.deliveryEnded; repeat' split
  all_goals simp

@[simp] theorem stagingRefused_standing (s : State) (id : Nat) : (s.stagingRefused id).standing = s.standing := by
  unfold State.stagingRefused; repeat' split
  all_goals simp

@[simp] theorem deliveryRefused_standing (s : State) (id idx : Nat) : (s.deliveryRefused id idx).standing = s.standing := by
  unfold State.deliveryRefused; dsimp only; repeat' split
  all_goals simp

theorem stands_jobDone (s : State) (j : Job) (ws : List Word) : Stands s (s.jobDone j ws) := by
  unfold State.jobDone; dsimp only; split
  case h_4 => exact (stands_of_standing (channelFree_standing s)).trans (stands_judgeRecord _ j.req ws)
  case h_3 => exact stands_of_standing (by simp)
  all_goals
    refine stands_of_standing ?_
    split <;> simp

@[simp] theorem jobRefused_standing (s : State) (j : Job) (n : Nat) (ws : List Word) : (s.jobRefused j n ws).standing = s.standing := by
  unfold State.jobRefused; dsimp only; repeat' split
  all_goals simp

theorem stands_jobEnds (s : State) (ws : List Word) : Stands s (s.jobEnds ws) := by
  unfold State.jobEnds; split
  · exact stands_of_standing rfl
  · next j _ => exact (stands_jobDone s j ws).trans (stands_of_standing (by simp))

@[simp] theorem jobStops_standing (s : State) (n : Nat) (ws : List Word) : (s.jobStops n ws).standing = s.standing := by
  unfold State.jobStops; split <;> simp

/-! ### The commands -/

/-- A command's outcome is a next state in which `s` stands. -/
def LeavesStanding (s : State) (o : Result) : Prop := ∃ t, o = .next t ∧ Stands s t

theorem leavesStanding_live {s : State} {f : State → State} (h : Stands s (f s)) : LeavesStanding s (s.live f) := by
  refine ⟨_, rfl, ?_⟩
  split
  · exact h
  · exact stands_of_standing rfl

theorem leavesStanding_of_standing {s : State} {f : State → State} (h : (f s).standing = s.standing) : LeavesStanding s (s.live f) :=
  leavesStanding_live (stands_of_standing h)

/-- Every command but POWER_ON: all but the end of a CONFIGURE job leave the zone map too as it stands. -/
theorem exec_leavesStanding (s : State) (c : Instr) (other : ∀ l, c ≠ .powerOn l) : LeavesStanding s (Machine.exec c s) := by
  unfold Machine.exec
  cases c with
  | powerOn l => exact absurd rfl (other l)
  | powerLost => exact ⟨_, rfl, stands_of_standing rfl⟩
  | dmaJobEnds ws => exact leavesStanding_live (stands_jobEnds s ws)
  | brstAsserted | portReset _ _ _ => exact leavesStanding_of_standing (portReset_standing s)
  | setInterruptEnables _ _ | intakeRestart _ _ | noticesRead => exact leavesStanding_of_standing rfl
  | intakeWrite w => exact leavesStanding_of_standing (intakeWord_standing s w)
  | outletRead => exact leavesStanding_of_standing (outletWord_standing s)
  | read b | check b | write b | writeVerify b | update b | pin b | unpin b | discard b | cancel b | releaseCartridge b | fetchFault b
  | report b | configure b => exact leavesStanding_of_standing (blockOf_standing s _ b)
  | heldBlockProcessed => exact leavesStanding_of_standing (tryHeld_standing s)
  | postWaitingFinished => exact leavesStanding_of_standing (settle_standing s)
  | rdyRises | rdyFalls _ _ | peerPresRises | peerPresFalls _ | gapCompletes _ | yieldCall _ =>
    exact leavesStanding_of_standing (whenConfigured_standing _ (by simp))
  | ulrRises | ulrFalls | holdFalls _ | holdRises =>
    refine leavesStanding_of_standing (whenConfigured_standing _ ?_)
    dsimp only; split <;> simp
  | releaseTimerExpires => exact leavesStanding_of_standing (by simp)
  | window1Ends m => exact leavesStanding_of_standing (windowEnds_standing _ _ _ (fun t => endWindow1_standing t m))
  | window2Ends m => exact leavesStanding_of_standing (windowEnds_standing _ _ _ (fun t => endWindow2_standing t m))
  | tieWindowEnds m => exact leavesStanding_of_standing (windowEnds_standing _ _ _ (fun t => endTie_standing t m))
  | identityCheckEnds _ _ _ _ | motionWaitTimeout _ | seekStrobe _ | seekEnds _ _ | recalibrateEnds _ _ | sectorVisit _ | headerRead _ _
  | dataFieldRead _ _ | dataFieldWritten _ | readBackEnds _ _ => exact leavesStanding_of_standing (by simp)
  | seekTimeout _ | recalibrateTimeout _ =>
    refine leavesStanding_of_standing ((settle_standing _).trans ?_)
    split <;> simp
  | backoffTimerExpires => exact leavesStanding_of_standing (backoffEnds_standing s)
  | lineHeld => exact leavesStanding_of_standing (lineIsHeld_standing s)
  | dmaJobStart => exact leavesStanding_of_standing (startJob_standing s)
  | dmaNoAnswer n ws => exact leavesStanding_of_standing (jobStops_standing s n ws)
  | peerSeekStrobe _ _ | peerRcalStrobe _ | peerSkfRises | peerHselChange _ =>
    exact leavesStanding_of_standing (inPeerTenure_standing _ (by simp))
  | peerHeader v ws l => exact leavesStanding_of_standing ((settle_standing _).trans (inPeerTenure_standing _ (peerHeader_standing _ v ws)))
  | captureKindNone => exact leavesStanding_of_standing (capturing_standing s (endUnreported_standing s))
  | captureCompletes c =>
    exact leavesStanding_of_standing ((settle_standing _).trans (capturing_standing s (captureCompletes_standing s c)))
  | captureCutShort d => exact leavesStanding_of_standing (by simp)
  | captureDataSyncNotFound d => exact leavesStanding_of_standing (capturing_standing s (dataSyncMissed_standing s d))

end Sys2Proof.Machine

namespace Sys2Proof.Proofs
open Sys2Proof.Machine

/-- Settles O11: every command but POWER_ON leaves the waiting commands, the clock and the identity as they stand (`exec_leavesStanding`);
the zone map changes by a CONFIGURE's record alone, whose map keeps a lock that is set. -/
theorem commandsKeepClockAndLock : Obligations.CommandsKeepClockAndLock := by
  unfold Obligations.CommandsKeepClockAndLock
  intro s c other
  obtain ⟨t, next, stands⟩ := exec_leavesStanding s c other
  exact ⟨t, next, stands.pending, stands.clock, stands.identity, stands.configured, stands.lock⟩

end Sys2Proof.Proofs
end
